-- ==== Sys2Proof/Word.lean ====
section
/-! DEFINITION. The word types of the PWG-440 model. Bit vectors hold only what the manual treats as bits: bytes of the SPI link,
the 16-bit census number that wraps and is sent bit by bit, the 128-bit seat maps and the numbered event flags. Every other
quantity of the manual (currents, counts, minutes) is a number with a range, and stands in the model as a `Nat` or an `Int`. -/

namespace Sys2Proof

/-- One byte of the SPI link (R163). -/
abbrev Byte := BitVec 8

/-- The census number: 16 bits, wrapping modulo 65536 (00_scope 3.2, R72). -/
abbrev CensusNumber := BitVec 16

/-- One seat map of a census: bit `s` is seat `s`, set where the bit is dominant (R72, R75). -/
abbrev SeatMap := BitVec 128

/-- The 31 event flags and the unused bit 31, numbered as R175 numbers them. -/
abbrev EventSet := BitVec 32

end Sys2Proof
end

