-- ==== Sys2Proof/Config.lean ====
section
/-! DEFINITION. What the manual leaves open: the levels of the strap pins, which are the board's, and one point on which its rules disagree. The manual samples them at each reset release
(R162) and gives them no value of its own, so the state `State.reset`, which stands right after a reset release, needs a value
for them. DESIGN CHOICE (log entry 1): all strap pins low. A reset release taken as a command carries its own strap levels. -/

namespace Sys2Proof.Config

/-- `strap_seat[4:0]` at the reset release that `State.reset` stands after. DESIGN CHOICE, log entry 1. -/
def resetStrapSeat : BitVec 5 := 0#5

/-- `strap_out[1:0]` at the reset release that `State.reset` stands after. DESIGN CHOICE, log entry 1. -/
def resetStrapOut : BitVec 2 := 0#2

/-- `strap_rate[1:0]` at the reset release that `State.reset` stands after. DESIGN CHOICE, log entry 1. -/
def resetStrapRate : BitVec 2 := 0#2

/-- An expiry that enters or finds ISLANDED is a snapshot point also before the first frame zero that the part takes part in. R30, R61 and R70
say so, and R37 says that none occurs there: the manual does not settle which holds, and this value, which nothing can be proved of, leaves both
open (DESIGN CHOICE, log entry 20). -/
opaque snapshotBeforeFrameZero : Bool

end Sys2Proof.Config
end

