-- ==== Sys2Proof/Syntax.lean ====
section
/-! DEFINITION. The commands of the PWG-440: one constructor of `Instr` for each row of spec/opcode_table.json. The operands are
what comes from outside with the command: the bytes of a transaction, a sample of a line, the length of a run as measured, the
charge an input reports, and, where the manual gives two outcomes for two parts of one event, which part is taken first. -/

namespace Sys2Proof

/-- The four causes of a reset (R173). -/
inductive ResetCause where
  | powerOn
  | resetPin
  | supplyLow
  | restart
  deriving DecidableEq, Repr

/-- The events that raise the missed-period count, and so can take the part to ISLANDED (R69, R70). Each carries the operands
of the command of that name. -/
inductive MissedBy where
  | timerExpiry
  | runEnd (samples : Nat) (boundaryFirst : Bool)
  | pulseEcho
  | bitRead (first second third : Bool)
  | lineStuck
  deriving DecidableEq, Repr

/-- The events that set an overdue flag (R19). -/
inductive OverdueBy where
  | minuteTick
  | opening (shifted : List Byte)
  | amending (shifted : List Byte)
  deriving DecidableEq, Repr

/-- The commands. `shifted` is what a transaction shifted in on `mosi` after the request code: the body length, the body and
any bytes after it, whole bytes only (R163). A `Bool` sample is `true` for dominant. -/
inductive Instr where
  /-- Row LOAD_PROFILE (R165). -/
  | loadProfile (shifted : List Byte)
  /-- Row OPEN (R10, R11). -/
  | openSession (shifted : List Byte)
  /-- Row AMEND (R12 to R14). -/
  | amendSession (shifted : List Byte)
  /-- Row CLOSE (R15). -/
  | closeSession (shifted : List Byte)
  /-- Row READ_OUTLET (R167). -/
  | readOutlet (shifted : List Byte)
  /-- Row READ_CENSUS (R85). -/
  | readCensus (shifted : List Byte)
  /-- Row READ_ROSTER (R95). -/
  | readRoster (shifted : List Byte)
  /-- Row READ_STATUS (R167). -/
  | readStatus (shifted : List Byte)
  /-- Row READ_FAULT (R172). -/
  | readFault (shifted : List Byte)
  /-- Row READ_EVENTS (R169). -/
  | readEvents (shifted : List Byte)
  /-- Row CLEAR_FAULT (R172). -/
  | clearFault (shifted : List Byte)
  /-- Row SET_MASK (R169). -/
  | setMask (shifted : List Byte)
  /-- Row RESTART (R173). -/
  | restart (shifted : List Byte)
  /-- Row UNKNOWN_REQUEST (R164): `code` is none of the request codes of 10.8. -/
  | unknownRequest (code : Byte) (shifted : List Byte)
  /-- Row NULL_TRANSACTION (R163): all the bytes shifted in, none or led by the null code. -/
  | nullTransaction (bytes : List Byte)
  /-- Row POWER_ON_RESET (R173). -/
  | powerOnReset
  /-- Row RESET_N_LOW (R173). -/
  | resetNLow
  /-- Row SUPPLY_LOW_RESET (R173). -/
  | supplyLowReset
  /-- Row RESET_RELEASE (R162, R174): `cause` is released, with the strap levels and `cs_n` low or not at that moment. -/
  | resetRelease (cause : ResetCause) (seat : BitVec 5) (out : BitVec 2) (rate : BitVec 2) (csLow : Bool)
  /-- Row LEADING_EDGE (R41): `bit` is the frame bit in which the edge falls, read only in FRAME (R58). -/
  | leadingEdge (bit : Nat)
  /-- Row TRAILING_EDGE (R46): the run held `samples` dominant samples (R39). `boundaryFirst` orders the window boundary and
  the islanded recomputation of a frame zero (R144). -/
  | trailingEdge (samples : Nat) (boundaryFirst : Bool)
  /-- Row LINE_FREE (R41). -/
  | lineFree
  /-- Row START_PULSE_END (R52). -/
  | startPulseEnd
  /-- Row HUSH_DRIVE_END (R53). -/
  | hushDriveEnd
  /-- Row HUSH_HOLD_OFF_EXPIRY (R53). -/
  | hushHoldOffExpiry
  /-- Row LINE_STUCK (R44). -/
  | lineStuck
  /-- Row ECHO_FAULT (R56): a frame bit read, with its three samples, that is an echo fault. -/
  | echoFault (first second third : Bool)
  /-- Row ECHO_FAULT_PULSE (R57). -/
  | echoFaultPulse
  /-- Row SETTLE_FAULT (R75): a settle bit read, with its three samples, that is dominant. -/
  | settleFault (first second third : Bool)
  /-- Row FRAME_END (R43). -/
  | frameEnd
  /-- Row SEAT_CLASH_FAULT (R77): a frame end that faults this outlet for its seat's clashes. -/
  | seatClashFault (outlet : Nat)
  /-- Row CENSUS_TIMER_EXPIRY (R61). -/
  | censusTimerExpiry
  /-- Row ISLANDED (R70): the event at which the missed-period count reaches 3. -/
  | islanded (cause : MissedBy)
  /-- Row FULL_WINDOW_END (R63). `feederFirst` orders the Feeder Watch and the Outlet Supervisor, which take the window end
  at their own blocks (R124). -/
  | fullWindowEnd (feederFirst : Bool)
  /-- Row OVERLOAD (R122): a full-window end that takes an overload. -/
  | overload (feederFirst : Bool)
  /-- Row TRIP (R123): a full-window end that takes a trip. -/
  | trip (feederFirst : Bool)
  /-- Row SENSE_LOST (R120): a full-window end that enters LOST. -/
  | senseLost (feederFirst : Bool)
  /-- Row SENSE_BACK (R121): a full-window end that returns to VALID. -/
  | senseBack (feederFirst : Bool)
  /-- Row OVERDRAW (R153): a full-window end that faults this outlet for overdraw. -/
  | overdraw (outlet : Nat) (feederFirst : Bool)
  /-- Row STALL (R154): a full-window end that takes this outlet STALLED. -/
  | stall (outlet : Nat) (feederFirst : Bool)
  /-- Row UNSTALL (R155): a full-window end that takes this outlet out of STALLED to CHARGING. -/
  | unstall (outlet : Nat) (feederFirst : Bool)
  /-- Row RELEASE (R156): a full-window end that drives this outlet's release output. -/
  | release (outlet : Nat) (feederFirst : Bool)
  /-- Row MINUTE_TICK (R18). -/
  | minuteTick
  /-- Row OVERDUE (R19): an event that sets this outlet's overdue flag. -/
  | overdue (outlet : Nat) (cause : OverdueBy)
  /-- Row DRAW_QUANTUM (R147): `charge`, in microampere-seconds, is what `isense` of this outlet has reported since the
  outlet's last DRAW_QUANTUM. -/
  | drawQuantum (outlet : Nat) (charge : Nat)
  /-- Row AMP_MINUTE_COMPLETION (R21): a DRAW_QUANTUM whose quantum wraps the quantum remainder. -/
  | ampMinuteCompletion (outlet : Nat) (charge : Nat)
  /-- Row SUMMARY_AGE_TICK (R84). -/
  | summaryAgeTick
  /-- Row PWM_PERIOD_START (R145). -/
  | pwmPeriodStart
  /-- Row FRAME_BIT_READ (R55): the three samples of the frame bit. -/
  | frameBitRead (first second third : Bool)
  /-- Row FEEDER_SAMPLE (R112): the 10-bit code converted from `fsense`. -/
  | feederSample (code : BitVec 10)
  deriving DecidableEq, Repr

end Sys2Proof
end

