-- ==== Sys2Proof/Decode.lean ====
section
/-! DEFINITION. Decoding. The rows of spec/opcode_table.json give no bits, so `decodeTableWord` answers none for every word. What the
manual does encode is the transaction of the SPI link (R163, 10.8): `decodeTransaction` reads the command that a transaction's
bytes spell, total on any bytes, and `encodeTransaction` writes the bytes of a command that is a transaction. `transactionOfBits` reads the
command from the bits as `mosi` shifts them in. -/

namespace Sys2Proof

/-- The request code of the table of 10.8 under which a command travels; the null transaction and an unknown request have no
fixed one, and the other commands are no transactions. -/
def requestCode : Instr → Option Byte
  | .loadProfile _ => some 0x10#8
  | .openSession _ => some 0x20#8
  | .amendSession _ => some 0x21#8
  | .closeSession _ => some 0x22#8
  | .readOutlet _ => some 0x30#8
  | .readCensus _ => some 0x31#8
  | .readRoster _ => some 0x32#8
  | .readStatus _ => some 0x33#8
  | .readFault _ => some 0x34#8
  | .readEvents _ => some 0x35#8
  | .clearFault _ => some 0x40#8
  | .setMask _ => some 0x41#8
  | .restart _ => some 0x5A#8
  | _ => none

/-- The request codes of 10.8, the null code left out. -/
def requestCodes : List Byte :=
  [0x10#8, 0x20#8, 0x21#8, 0x22#8, 0x30#8, 0x31#8, 0x32#8, 0x33#8, 0x34#8, 0x35#8, 0x40#8, 0x41#8, 0x5A#8]

/-- The command that a transaction's bytes spell (R163, R164, 10.8). -/
def decodeTransaction (bytes : List Byte) : Instr :=
  match bytes with
  | [] => .nullTransaction []
  | code :: shifted =>
    if code = 0x00#8 then .nullTransaction (code :: shifted)
    else if code = 0x10#8 then .loadProfile shifted
    else if code = 0x20#8 then .openSession shifted
    else if code = 0x21#8 then .amendSession shifted
    else if code = 0x22#8 then .closeSession shifted
    else if code = 0x30#8 then .readOutlet shifted
    else if code = 0x31#8 then .readCensus shifted
    else if code = 0x32#8 then .readRoster shifted
    else if code = 0x33#8 then .readStatus shifted
    else if code = 0x34#8 then .readFault shifted
    else if code = 0x35#8 then .readEvents shifted
    else if code = 0x40#8 then .clearFault shifted
    else if code = 0x41#8 then .setMask shifted
    else if code = 0x5A#8 then .restart shifted
    else .unknownRequest code shifted

/-- The shift register of `mosi`: `count` bits of a byte are in, which make `value`, and each further bit shifts in below them; the eighth
completes the byte. What is in when the bits end is a byte cut off, and is discarded (R163). -/
def shiftIn (count value : Nat) : List Bool → List Byte
  | [] => []
  | bit :: rest =>
    if count = 7 then BitVec.ofNat 8 (2 * value + bit.toNat) :: shiftIn 0 0 rest
    else shiftIn (count + 1) (2 * value + bit.toNat) rest

/-- The whole bytes of a transaction's bits, in the order in which `sck` samples them, most significant bit first (R163). -/
def bytesOfBits (bits : List Bool) : List Byte := shiftIn 0 0 bits

/-- The command that the bits shifted in on `mosi` from the falling to the rising edge of `cs_n` spell (R163). -/
def transactionOfBits (bits : List Bool) : Instr := decodeTransaction (bytesOfBits bits)

/-- The bytes of a command that is a transaction (R163, 10.8); none for a command of another line. -/
def encodeTransaction : Instr → Option (List Byte)
  | .nullTransaction bytes => some bytes
  | .unknownRequest code shifted => some (code :: shifted)
  | .loadProfile shifted => some (0x10#8 :: shifted)
  | .openSession shifted => some (0x20#8 :: shifted)
  | .amendSession shifted => some (0x21#8 :: shifted)
  | .closeSession shifted => some (0x22#8 :: shifted)
  | .readOutlet shifted => some (0x30#8 :: shifted)
  | .readCensus shifted => some (0x31#8 :: shifted)
  | .readRoster shifted => some (0x32#8 :: shifted)
  | .readStatus shifted => some (0x33#8 :: shifted)
  | .readFault shifted => some (0x34#8 :: shifted)
  | .readEvents shifted => some (0x35#8 :: shifted)
  | .clearFault shifted => some (0x40#8 :: shifted)
  | .setMask shifted => some (0x41#8 :: shifted)
  | .restart shifted => some (0x5A#8 :: shifted)
  | _ => none

/-- The command that a word of `nbits` bits spells by the bits of spec/opcode_table.json. Its rows give none, so no word spells
a command there. -/
def decodeTableWord (_nbits _w : Nat) : Option Instr := none

end Sys2Proof
end

