-- ==== Sys2Proof/Machine/State.lean ====
section
/-! DEFINITION. The state of the PWG-440, block by block as 00_scope 1.3 owns it, and its value right after reset. Plain data.
Currents are in units of 0.1 A, times to departure in minutes, charge in ampere-minutes, as 00_scope 3.1 gives them. Timers hold the
milliseconds last loaded into them; the passing of time is left out (log entry 3). -/

namespace Sys2Proof.Machine

/-- Session states (R1, 1.2). -/
inductive SessionState where
  | vacant
  | paused
  | charging
  | topped
  | stalled
  | faulted
  deriving DecidableEq, Repr

/-- The band of a session record, a share record or a roster entry: absent, none, or one of the three bands (R1, R87, R104).
"Band none" is `unbanded`. -/
inductive Band where
  | absent
  | unbanded
  | late
  | tight
  | steady
  deriving DecidableEq, Repr

/-- The fault kind of a FAULTED session (R1, R9). -/
inductive SessionFault where
  | overdraw
  | seatClash
  deriving DecidableEq, Repr

/-- The kinds of a captured fault (R171). -/
inductive FaultKind where
  | overdraw
  | stuckDraw
  | vacantDraw
  | seatClash
  | lineStuck
  | driver
  | senseLost
  | trip
  deriving DecidableEq, Repr

/-- Participation states of the Census Engine (4.3). -/
inductive Participation where
  | offline
  | listening
  | joined
  | islanded
  deriving DecidableEq, Repr

/-- Line states of the transceiver (3.2). -/
inductive LineState where
  | settling
  | free
  | pulse
  | frame
  | stuck
  deriving DecidableEq, Repr

/-- Sense states of the Feeder Watch (7.4). -/
inductive Sense where
  | valid
  | lost
  deriving DecidableEq, Repr

/-- Status codes of a response (R175). -/
inductive Status where
  | done
  | unknownRequest
  | badLength
  | noProfile
  | profileLocked
  | badValue
  | noSuchOutlet
  | outletInUse
  | notOpen
  | outletFaulted
  deriving DecidableEq, Repr

/-- States of a roster entry (R87). -/
inductive EntryState where
  | absent
  | present
  | held
  deriving DecidableEq, Repr

/-- The session record of one outlet (R1). An absent tag is the empty list: a tag that is present holds 1 to 16 bytes (R2). -/
structure Session where
  state : SessionState
  tag : List Byte
  need : Nat
  needSet : Nat
  departure : Nat
  vanMax : Nat
  delivered : Nat
  overdue : Bool
  laxity : Option Int
  band : Band
  openedIn : Option CensusNumber
  offer : Nat
  faultKind : Option SessionFault
  deriving DecidableEq, Repr

/-- The share record of one own seat (R104): guaranteed share G, band used, rotation rank, borrow B and target. -/
structure Share where
  g : Nat
  bandUsed : Band
  rank : Option Nat
  b : Nat
  target : Nat
  deriving DecidableEq, Repr

/-- The supervision record of one outlet (R150). The history holds 8 entries, oldest first. -/
structure Supervision where
  history : List Nat
  windowMax : Nat
  overdrawCount : Nat
  stallCount : Nat
  unstallCount : Nat
  releaseCount : Nat
  releaseDriven : Bool
  deriving DecidableEq, Repr

/-- The Draw Meter's state of one outlet (R147 to R149): the charge toward the next quantum in microampere-seconds, the window
count, the quantum remainder and the last average. -/
structure Meter where
  charge : Nat
  windowCount : Nat
  remainder : Nat
  lastAverage : Option Nat
  deriving DecidableEq, Repr

/-- Everything the blocks keep for one outlet of the part: its records, its meter, the duty its setpoint output is driven with in
per mille (R145), and the clash count of its seat (R77). -/
structure Outlet where
  session : Session
  share : Share
  supervision : Supervision
  meter : Meter
  setpointDuty : Nat
  clashCount : Nat
  deriving DecidableEq, Repr

/-- The depot profile (R165). -/
structure Profile where
  importLimit : Nat
  reserve : Nat
  seatCeiling : Nat
  minCurrent : Nat
  postLimit : Nat
  tightThreshold : Nat
  growthMargin : Nat
  tripMargin : Nat
  fallback : Nat
  fullScale : Nat
  ramp : Nat
  deriving DecidableEq, Repr

/-- The straps as the Host Link keeps them (R162): the rate is the code as strapped, 3 being the strap fault. -/
structure Straps where
  seatBase : Nat
  outlets : Nat
  rate : Nat
  deriving DecidableEq, Repr

/-- The response buffer (R163): echoed code, status and body; the body length is the body's. -/
structure Response where
  code : Byte
  status : Status
  body : List Byte
  deriving DecidableEq, Repr

/-- A filled first-fault record (R171). -/
structure FaultRecord where
  kind : FaultKind
  outlet : Option Nat
  census : CensusNumber
  window : Nat
  value : Nat
  deriving DecidableEq, Repr

/-- The Host Link (10): the straps, the profile store, the event set, the attention mask, the first-fault record with its
further-faults flag, the response buffer, the causes that hold reset (R173), and whether the transaction in progress began before
reset release and is to be ignored (R173). -/
structure HostLink where
  straps : Straps
  profile : Option Profile
  events : EventSet
  mask : EventSet
  firstFault : Option FaultRecord
  furtherFaults : Bool
  response : Response
  resetHeld : List ResetCause
  ignoreTransaction : Bool
  deriving DecidableEq, Repr

/-- The dominant run in progress (R39, R41): whether it is classifiable, the frame bit of its leading edge if that fell in FRAME
(R58), whether this part drove a start pulse within it (R47), and whether this part drove its hush for the full 30 bit-times
within it (R48). -/
structure Run where
  classifiable : Bool
  leadBit : Option Nat
  droveStart : Bool
  hushComplete : Bool
  deriving DecidableEq, Repr

/-- What the driver drives outside a frame (R50 to R53). A start pulse carries whether the line has read dominant since the drive
began (R62: an echo fault that left no run). -/
inductive Drive where
  | idle
  | startPulse (sawRun : Bool)
  | hush
  deriving DecidableEq, Repr

/-- The Share Line Transceiver (3): the line state, the recessive count (which stops at 12, R41), the dominant run in progress, the
drive, the standing start request, the hush hold-off (milliseconds, 0 while not running), the number of the next frame bit to be
read, whether this part drives that frame bit from its start, whether it drives the frame bit last read until its end (R54), whether
an echo fault has stopped its drive for the frame, the noise mark and the bit-sample triple. -/
structure Transceiver where
  state : LineState
  recessiveCount : Nat
  run : Option Run
  drive : Drive
  startRequest : Bool
  holdOffMs : Nat
  frameBit : Nat
  bitDrive : Bool
  bitHeld : Bool
  echoStopped : Bool
  noise : Bool
  triple : Option (Bool × Bool × Bool)
  deriving DecidableEq, Repr

/-- What one own seat drives in a census, latched at frame zero (R32): its Present bit, and the band of the band map it drives
(`unbanded` for none). -/
structure Latch where
  present : Bool
  band : Band
  deriving DecidableEq, Repr

/-- The four seat maps of a census (R72). -/
structure Maps where
  present : SeatMap
  late : SeatMap
  tight : SeatMap
  steady : SeatMap
  deriving DecidableEq, Repr

/-- A census that this part takes part in and has not abandoned (R72 to R75): the own-seat latch, the candidate, whether the part is
still sending it, the settle flags, the number read so far, the maps read, and the map bits of own seats that this part drove. -/
structure Frame where
  latch : List Latch
  candidate : CensusNumber
  sending : Bool
  settle : Bool × Bool
  number : CensusNumber
  read : Maps
  driven : Maps
  deriving DecidableEq, Repr

/-- One own-seat entry of the census summary (R84). -/
structure SeatSummary where
  latch : Latch
  g : Nat
  clash : Bool
  deriving DecidableEq, Repr

/-- The roster's five counts (R92). -/
structure Counts where
  late : Nat
  tight : Nat
  steady : Nat
  demanding : Nat
  present : Nat
  deriving DecidableEq, Repr

/-- The census summary (R84). `peak` is F_peak and `headroom` is H, absent together. -/
structure Summary where
  number : CensusNumber
  noisy : Bool
  present : Nat
  late : Nat
  tight : Nat
  steady : Nat
  seats : List SeatSummary
  poolRemainder : Nat
  peak : Option Nat
  headroom : Option Int
  age : Nat
  deriving DecidableEq, Repr

/-- The Census Engine (4): participation, the census timer, the window clock (index and elapsed time), the census number held, the
census in progress, the missed-period count, the summary and the timer of its age, and whether the part has reached, since reset, the frame
zero of a census it takes part in (R37). -/
structure CensusEngine where
  participation : Participation
  timerMs : Nat
  windowIndex : Nat
  windowMs : Nat
  number : CensusNumber
  frame : Option Frame
  missed : Nat
  summary : Option Summary
  ageMs : Option Nat
  reachedFrameZero : Bool
  deriving DecidableEq, Repr

/-- One roster entry (R87). -/
structure Entry where
  state : EntryState
  band : Band
  absence : Nat
  multiBand : Bool
  irregular : Bool
  deriving DecidableEq, Repr

/-- The Peer Roster (5): the 128 entries in seat order, the counts, the rotation origin and the rotation order of each band as the
last update formed them (R92, R94). -/
structure Roster where
  entries : List Entry
  counts : Counts
  origin : Option Nat
  lateOrder : List Nat
  tightOrder : List Nat
  steadyOrder : List Nat
  deriving DecidableEq, Repr

/-- The reading of a full window (R117): the average F in band, or the sum S out of band. -/
inductive Reading where
  | inBand (f : Nat)
  | outOfBand (s : Nat)
  deriving DecidableEq, Repr

/-- One ring entry (R117). -/
structure RingEntry where
  window : Nat
  reading : Reading
  sinceCompletion : Bool
  deriving DecidableEq, Repr

/-- The Feeder Watch (7): the window sum and the samples taken in the window, whether the window in progress began before the profile
was loaded (R112), the ring, the peak since completion, the sense state and the counts, and the hush-pending flag. -/
structure FeederWatch where
  windowSum : Nat
  samples : Nat
  partialWindow : Bool
  ring : List RingEntry
  peak : Option Nat
  overCount : Nat
  tripCount : Nat
  sense : Sense
  outOfBandCount : Nat
  inBandCount : Nat
  hushPending : Bool
  deriving DecidableEq, Repr

/-- The Share Engine's state beside the share records (6, 8): the pool, the pool remainder of the last water-fill and the curtail
count. -/
structure ShareEngine where
  pool : Option Nat
  poolRemainder : Option Nat
  curtail : Nat
  deriving DecidableEq, Repr

/-- The whole part. `outlets` holds one record for each strapped outlet, outlet 0 first. `minuteMs` is the minute timer. `pending` is
the queue of commands, which is the model's own (what the outside world has sent and the part has not yet taken). -/
structure State where
  host : HostLink
  line : Transceiver
  census : CensusEngine
  roster : Roster
  feeder : FeederWatch
  shares : ShareEngine
  outlets : List Outlet
  minuteMs : Nat
  pending : List Instr
  deriving DecidableEq, Repr

/-- Why a step could stop. The manual gives every command an effect in every state of the part, so no meaning stops. -/
inductive Fault where
  /-- Raised by no command, whatever the state. Safe: a fault is a stop, and there is none. -/
  | neverRaised
  deriving DecidableEq, Repr

/-- Why a command could be refused by the model (not by the part: the part's own refusals are responses, R164). -/
inductive Refusal where
  /-- Raised by an arm of `exec` for a row without a meaning; every row has one, so it is raised nowhere. Safe. -/
  | notModelled (mnemonic : String)
  deriving DecidableEq, Repr

/-- The outcome of a command. -/
abbrev Result := Host.Outcome State Fault Refusal

/-- A cleared session record (R4). -/
def Session.cleared : Session where
  state := .vacant
  tag := []
  need := 0
  needSet := 0
  departure := 0
  vanMax := 0
  delivered := 0
  overdue := false
  laxity := none
  band := .absent
  openedIn := none
  offer := 0
  faultKind := none

/-- A cleared share record (R104). -/
def Share.cleared : Share where
  g := 0
  bandUsed := .absent
  rank := none
  b := 0
  target := 0

/-- A cleared supervision record (R150). -/
def Supervision.cleared : Supervision where
  history := [0, 0, 0, 0, 0, 0, 0, 0]
  windowMax := 0
  overdrawCount := 0
  stallCount := 0
  unstallCount := 0
  releaseCount := 0
  releaseDriven := false

/-- The Draw Meter's state of an outlet after reset (R161). -/
def Meter.cleared : Meter where
  charge := 0
  windowCount := 0
  remainder := 0
  lastAverage := none

/-- An outlet after reset (R25, R86, R111, R146, R161). -/
def Outlet.cleared : Outlet where
  session := .cleared
  share := .cleared
  supervision := .cleared
  meter := .cleared
  setpointDuty := 0
  clashCount := 0

/-- A roster entry after reset (R97). -/
def Entry.cleared : Entry where
  state := .absent
  band := .absent
  absence := 0
  multiBand := false
  irregular := false

/-- Four clear maps (R72). -/
def Maps.clear : Maps where
  present := 0#128
  late := 0#128
  tight := 0#128
  steady := 0#128

/-- The null response (R174). -/
def Response.null : Response where
  code := 0x00#8
  status := .done
  body := []

/-- The transceiver after reset (R59). -/
def Transceiver.afterReset : Transceiver where
  state := .settling
  recessiveCount := 0
  run := none
  drive := .idle
  startRequest := false
  holdOffMs := 0
  frameBit := 0
  bitDrive := false
  bitHeld := false
  echoStopped := false
  noise := false
  triple := none

/-- The Census Engine after reset (R37, R86). -/
def CensusEngine.afterReset : CensusEngine where
  participation := .offline
  timerMs := 2000
  windowIndex := 0
  windowMs := 0
  number := 0#16
  frame := none
  missed := 0
  summary := none
  ageMs := none
  reachedFrameZero := false

/-- The Peer Roster after reset (R97). -/
def Roster.afterReset : Roster where
  entries := List.replicate 128 Entry.cleared
  counts := ⟨0, 0, 0, 0, 0⟩
  origin := none
  lateOrder := []
  tightOrder := []
  steadyOrder := []

/-- The Feeder Watch after reset (R128). -/
def FeederWatch.afterReset : FeederWatch where
  windowSum := 0
  samples := 0
  partialWindow := false
  ring := []
  peak := none
  overCount := 0
  tripCount := 0
  sense := .valid
  outOfBandCount := 0
  inBandCount := 0
  hushPending := false

/-- The Share Engine after reset (R111, R146). -/
def ShareEngine.afterReset : ShareEngine where
  pool := none
  poolRemainder := none
  curtail := 0

/-- The Host Link after reset (R174), with the straps it keeps, the causes that still hold reset, and whether a transaction that began
before the release is in progress (R173). -/
def HostLink.afterReset (straps : Straps) (held : List ResetCause) (ignore : Bool) : HostLink where
  straps := straps
  profile := none
  events := 0#32
  mask := 0#32
  firstFault := none
  furtherFaults := false
  response := .null
  resetHeld := held
  ignoreTransaction := ignore

/-- The whole part with every block at its values after reset. -/
def State.afterReset (straps : Straps) (held : List ResetCause) (ignore : Bool) (pending : List Instr) : State where
  host := .afterReset straps held ignore
  line := .afterReset
  census := .afterReset
  roster := .afterReset
  feeder := .afterReset
  shares := .afterReset
  outlets := List.replicate straps.outlets Outlet.cleared
  minuteMs := 60000
  pending := pending

/-- The straps that the levels of the strap pins stand for (R162). -/
def Straps.sampled (seat : BitVec 5) (out : BitVec 2) (rate : BitVec 2) : Straps where
  seatBase := 4 * seat.toNat
  outlets := out.toNat + 1
  rate := rate.toNat

/-- The part right after reset release, with the strap levels of `Config` and an empty queue. -/
def State.reset : State :=
  .afterReset (.sampled Config.resetStrapSeat Config.resetStrapOut Config.resetStrapRate) [] false []

end Sys2Proof.Machine
end

