-- ==== Sys2Proof/Machine/Flags.lean ====
section
/-! DEFINITION. The event set and the attention line (R168 to R170): the reported events, their bit numbers, raising, clearing and
masking, and `attn_n`. -/

namespace Sys2Proof.Machine

/-- The reported events (R168): the 11 part events, and 5 for each outlet. -/
inductive Event where
  | census
  | abandoned
  | islanded
  | rejoined
  | stuck
  | clash
  | overload
  | trip
  | hush
  | senseLost
  | senseBack
  | topped (outlet : Nat)
  | overdue (outlet : Nat)
  | stalled (outlet : Nat)
  | faulted (outlet : Nat)
  | release (outlet : Nat)
  deriving DecidableEq, Repr

/-- The bit of an event in the event set and the mask (R175, "Event flags"). -/
def eventBit : Event → Nat
  | .census => 0
  | .abandoned => 1
  | .islanded => 2
  | .rejoined => 3
  | .stuck => 4
  | .clash => 5
  | .overload => 6
  | .trip => 7
  | .hush => 8
  | .senseLost => 9
  | .senseBack => 10
  | .topped n => 11 + 5 * n
  | .overdue n => 12 + 5 * n
  | .stalled n => 13 + 5 * n
  | .faulted n => 14 + 5 * n
  | .release n => 15 + 5 * n

/-- The set that holds one flag alone. -/
def eventFlag (e : Event) : EventSet := BitVec.twoPow 32 (eventBit e)

/-- A block raises an event: its flag is set in the same event, and a flag already set stays set (R168). -/
def raise (e : Event) (s : State) : State :=
  { s with host.events := s.host.events ||| eventFlag e }

/-- Whether an event's flag is set. -/
def isRaised (e : Event) (s : State) : Bool := s.host.events.getLsbD (eventBit e)

/-- READ EVENTS clears the flags named in its body (R169). -/
def clearEvents (named : EventSet) (s : State) : State :=
  { s with host.events := s.host.events &&& ~~~named }

/-- Bit 31 names no event and is stored as 0 in the mask (R169). -/
def maskOf (body : EventSet) : EventSet := body &&& 0x7FFFFFFF#32

/-- SET MASK replaces the attention mask (R169). -/
def setAttentionMask (body : EventSet) (s : State) : State :=
  { s with host.mask := maskOf body }

/-- `attn_n` is driven low while a flag is both set and masked, and is released otherwise and while reset is held (R170). -/
def attentionLow (s : State) : Bool :=
  s.host.resetHeld.isEmpty && !(s.host.events &&& s.host.mask == 0#32)

end Sys2Proof.Machine
end

