-- ==== Sys2Proof/Machine/Operands.lean ====
section
/-! DEFINITION. The operand forms of the SPI link: byte order, the body of a request (R163, R164), the profile's fields and their ranges
(R165), the fields of OPEN and AMEND, and the codes of R175. -/

namespace Sys2Proof.Machine

/-- One byte of a number: its low 8 bits. -/
def byteOf (n : Nat) : Byte := BitVec.ofNat 8 n

/-- A two-byte field, most significant byte first (R175). -/
def twoBytes (n : Nat) : List Byte := [byteOf (n / 256), byteOf n]

/-- A four-byte field, most significant byte first (R175). -/
def fourBytes (n : Nat) : List Byte :=
  [byteOf (n / 16777216), byteOf (n / 65536), byteOf (n / 256), byteOf n]

/-- A signed two-byte field in two's complement (R175). -/
def signedTwoBytes (i : Int) : List Byte := twoBytes (BitVec.ofInt 16 i).toNat

/-- A signed four-byte field in two's complement (R175). -/
def signedFourBytes (i : Int) : List Byte := fourBytes (BitVec.ofInt 32 i).toNat

/-- The one-byte field at an offset of a body. -/
def byteAt (body : List Byte) (i : Nat) : Nat := (body.getD i 0#8).toNat

/-- The two-byte field at an offset of a body, most significant byte first (R175). -/
def wordAt (body : List Byte) (i : Nat) : Nat := byteAt body i * 256 + byteAt body (i + 1)

/-- The four-byte set of flags that is a whole body (R169). -/
def flagsOf (body : List Byte) : EventSet := BitVec.ofNat 32 (wordAt body 0 * 65536 + wordAt body 2)

/-- The body of a request: the byte after the code is its length n, and the next n bytes are the body. None where the header or
the body is incomplete; bytes after the body are ignored (R163). -/
def requestBody (shifted : List Byte) : Option (List Byte) :=
  match shifted with
  | [] => none
  | n :: rest => if n.toNat ≤ rest.length then some (rest.take n.toNat) else none

/-- The van max of OPEN and AMEND, clamped into [I_min, K] (R3). -/
def clampVanMax (p : Profile) (v : Nat) : Nat := max p.minCurrent (min v p.seatCeiling)

/-- A departure is clamped to 2047 (R10, R12). -/
def clampDeparture (t : Nat) : Nat := min t 2047

/-- The value that means "keep" in a field of AMEND (R12). -/
def keepCode : Nat := 65535

/-- A field of AMEND: the value kept where the field holds the keep code, and the field itself otherwise (R12). -/
def amendedField (kept given : Nat) : Nat := if given = keepCode then kept else given

/-- The eleven fields of LOAD PROFILE, two bytes each, in the order of 10.8. -/
def profileOf (body : List Byte) : Profile where
  importLimit := wordAt body 0
  reserve := wordAt body 2
  seatCeiling := wordAt body 4
  minCurrent := wordAt body 6
  postLimit := wordAt body 8
  tightThreshold := wordAt body 10
  growthMargin := wordAt body 12
  tripMargin := wordAt body 14
  fallback := wordAt body 16
  fullScale := wordAt body 18
  ramp := wordAt body 20

/-- Every field stands in the range that R165 accepts. -/
def profileInRange (p : Profile) : Bool :=
  decide (100 ≤ p.importLimit) && decide (p.importLimit ≤ 40000) &&
  decide (p.reserve ≤ p.importLimit) &&
  decide (60 ≤ p.seatCeiling) && decide (p.seatCeiling ≤ 800) && decide (p.minCurrent ≤ p.seatCeiling) &&
  decide (10 ≤ p.minCurrent) && decide (p.minCurrent ≤ 160) &&
  decide (p.minCurrent ≤ p.postLimit) && decide (p.postLimit ≤ 3200) &&
  decide (p.tightThreshold ≤ 1023) &&
  decide (p.growthMargin ≤ 1000) &&
  decide (p.tripMargin ≤ 4000) &&
  (decide (p.fallback = 0) || (decide (p.minCurrent ≤ p.fallback) && decide (p.fallback ≤ p.seatCeiling))) &&
  decide (1000 ≤ p.fullScale) && decide (p.fullScale ≤ 65000) &&
  decide (5 ≤ p.ramp) && decide (p.ramp ≤ 100)

/-- The bytes of a profile as LOAD PROFILE carries them (10.8). -/
def profileBytes (p : Profile) : List Byte :=
  twoBytes p.importLimit ++ twoBytes p.reserve ++ twoBytes p.seatCeiling ++ twoBytes p.minCurrent ++
  twoBytes p.postLimit ++ twoBytes p.tightThreshold ++ twoBytes p.growthMargin ++ twoBytes p.tripMargin ++
  twoBytes p.fallback ++ twoBytes p.fullScale ++ twoBytes p.ramp

/-- The body of OPEN, and of AMEND with no tag (10.8). -/
def sessionBytes (outlet need departure vanMax : Nat) (tag : List Byte) : List Byte :=
  byteOf outlet :: (twoBytes need ++ twoBytes departure ++ twoBytes vanMax ++ tag)

/-- The tag of OPEN: the bytes that follow its first seven (R166). -/
def tagOf (body : List Byte) : List Byte := body.drop 7

/-- A request as it is shifted in after its code: the body length and the body (R163). -/
def withLength (body : List Byte) : List Byte := byteOf body.length :: body

/-- Status codes (R175). -/
def statusCode : Status → Nat
  | .done => 0
  | .unknownRequest => 1
  | .badLength => 2
  | .noProfile => 3
  | .profileLocked => 4
  | .badValue => 5
  | .noSuchOutlet => 6
  | .outletInUse => 7
  | .notOpen => 8
  | .outletFaulted => 9

/-- Session state codes (R175). -/
def sessionStateCode : SessionState → Nat
  | .vacant => 0
  | .paused => 1
  | .charging => 2
  | .topped => 3
  | .stalled => 4
  | .faulted => 5

/-- Band codes of the session record, the share record and the summary (R175). -/
def bandCode : Band → Nat
  | .absent => 0
  | .unbanded => 1
  | .late => 2
  | .tight => 3
  | .steady => 4

/-- Codes of what a seat drove (R175): 0 not present, 1 present with no band, 2 to 4 present with a band. -/
def latchCode (l : Latch) : Nat :=
  if l.present then
    match l.band with
    | .late => 2
    | .tight => 3
    | .steady => 4
    | .absent => 1
    | .unbanded => 1
  else 0

/-- Participation codes (R175). -/
def participationCode : Participation → Nat
  | .offline => 0
  | .listening => 1
  | .joined => 2
  | .islanded => 3

/-- Line state codes (R175). -/
def lineStateCode : LineState → Nat
  | .settling => 0
  | .free => 1
  | .pulse => 2
  | .frame => 3
  | .stuck => 4

/-- Sense state codes (R175). -/
def senseCode : Sense → Nat
  | .valid => 0
  | .lost => 1

/-- Fault kind codes of the first-fault record (R175). -/
def faultCode : FaultKind → Nat
  | .overdraw => 1
  | .stuckDraw => 2
  | .vacantDraw => 3
  | .seatClash => 4
  | .lineStuck => 5
  | .driver => 6
  | .senseLost => 7
  | .trip => 8

/-- The fault kind of a session report: the captured kind of the same name, 0 when absent (R175). -/
def sessionFaultCode : Option SessionFault → Nat
  | none => 0
  | some .overdraw => 1
  | some .seatClash => 4

/-- Roster entry states (10.8, "Roster"). -/
def entryStateCode : EntryState → Nat
  | .absent => 0
  | .present => 1
  | .held => 2

/-- Roster bands (10.8, "Roster"): none 0, Late 1, Tight 2, Steady 3, and 0 in an ABSENT entry. -/
def rosterBandCode : Band → Nat
  | .absent => 0
  | .unbanded => 0
  | .late => 1
  | .tight => 2
  | .steady => 3

/-- The response as it is shifted out on `miso` (R163): echoed code, status, body length and body. -/
def responseBytes (r : Response) : List Byte :=
  r.code :: byteOf (statusCode r.status) :: byteOf r.body.length :: r.body

/-- Byte `i` on `miso` in a transaction: the response buffer, and 0xFF after its last byte (R163). -/
def misoByte (s : State) (i : Nat) : Byte := (responseBytes s.host.response).getD i 0xFF#8

/-- Bit `i` on `miso` in a transaction, most significant bit of each byte first (R163). -/
def misoBit (s : State) (i : Nat) : Bool := (misoByte s (i / 8)).getLsbD (7 - i % 8)

end Sys2Proof.Machine
end

