-- ==== Sys2Proof/Machine/Ops.lean ====
section
/-! DEFINITION. The operations that every block uses: which parts of the part run, access to the outlets, capturing a fault, answering
a request, and reset. -/

namespace Sys2Proof.Machine

/-- The part is out of reset (R173). -/
def running (s : State) : Bool := s.host.resetHeld.isEmpty

/-- Rate code 11 is a strap fault (R162). -/
def strapFault (s : State) : Bool := s.host.straps.rate == 3

/-- The transceiver takes samples: the part is out of reset and has no strap fault (R38). -/
def lineAlive (s : State) : Bool := running s && !strapFault s

/-- The line event of a part whose transceiver takes samples; without samples there is no such event (R38, R173). -/
def onLine (event : State → State) (s : State) : State := if lineAlive s then event s else s

/-- An event of a part out of reset; in reset nothing runs (R173). -/
def whenRunning (event : State → State) (s : State) : State := if running s then event s else s

/-- An event that is taken only where it has the outcome asked for: elsewhere it is not this event, and nothing happens
(DESIGN CHOICE, log entry 2). -/
def onlyWhere (outcome : State → State → Bool) (event : State → State) (s : State) : State :=
  if outcome s (event s) then event s else s

/-- Change the record of one outlet; an outlet the part does not have is no record. -/
def modifyOutlet (n : Nat) (f : Outlet → Outlet) (s : State) : State :=
  { s with outlets := s.outlets.modify n f }

/-- Change the records of all outlets. -/
def mapOutlets (f : Outlet → Outlet) (s : State) : State :=
  { s with outlets := s.outlets.map f }

/-- Do something for each of `count` outlets in ascending outlet number. -/
def forOutlets (count : Nat) (f : Nat → State → State) (s : State) : State :=
  (List.range count).foldl (fun t n => f n t) s

/-- The session state of an outlet, VACANT for an outlet the part does not have. -/
def sessionState (s : State) (n : Nat) : SessionState :=
  match s.outlets[n]? with
  | some o => o.session.state
  | none => .vacant

/-- A session is PAUSED or CHARGING. -/
def inPair (st : SessionState) : Bool :=
  match st with
  | .paused => true
  | .charging => true
  | .vacant => false
  | .topped => false
  | .stalled => false
  | .faulted => false

/-- A block captures a fault: it fills an empty record, with the census number held and the index of the window in progress (or
ending), and otherwise sets the further-faults flag (R171). -/
def capture (kind : FaultKind) (outlet : Option Nat) (value : Nat) (s : State) : State :=
  match s.host.firstFault with
  | none =>
    { s with host.firstFault := some ⟨kind, outlet, s.census.number, s.census.windowIndex, value⟩ }
  | some _ => { s with host.furtherFaults := true }

/-- The response is written into the buffer whole (R164). -/
def respond (code : Byte) (status : Status) (body : List Byte) (s : State) : State :=
  { s with host.response := ⟨code, status, body⟩ }

/-- A request reaches the end of its transaction (R164): in reset no transaction is taken, and one that was in progress at reset
release is ignored (R173). Then the length check, and then the request's own checks and effect. -/
def takeRequest (code : Byte) (lengthOk : Nat → Bool) (act : List Byte → State → State) (shifted : List Byte)
    (s : State) : State :=
  if !running s then s
  else if s.host.ignoreTransaction then { s with host.ignoreTransaction := false }
  else
    match requestBody shifted with
    | none => respond code .badLength [] s
    | some body => if lengthOk body.length then act body s else respond code .badLength [] s

/-- Reset is taken, or goes on, with one more cause (R173). Every block stands at its reset values while it is held; the lines are
released, the setpoints at zero duty. -/
def takeReset (cause : ResetCause) (s : State) : State :=
  .afterReset s.host.straps (if cause ∈ s.host.resetHeld then s.host.resetHeld else cause :: s.host.resetHeld) false s.pending

/-- A cause of reset is released (R173). When it is the last, reset is released: the straps are sampled and every block starts from
its reset values (R162, R174). -/
def releaseReset (cause : ResetCause) (straps : Straps) (csLow : Bool) (s : State) : State :=
  if cause ∈ s.host.resetHeld then
    if (s.host.resetHeld.filter (fun c => c ≠ cause)).isEmpty then .afterReset straps [] csLow s.pending
    else .afterReset s.host.straps (s.host.resetHeld.filter (fun c => c ≠ cause)) false s.pending
  else s

/-- The seat of an outlet (R1, R162). -/
def seatOf (s : State) (n : Nat) : Nat := s.host.straps.seatBase + n

/-- `share` is driven dominant: a pulse, or the frame bit in progress (R52 to R54). No command stands between the read of a frame bit and
that of the next, so the end of the bit last read comes as an operand: `bitOver` is whether it has ended and the next bit has begun. A frame
bit is driven from its start to its end, and without a gap where the next one is driven too (R54; log entry 17). -/
def shareDriven (bitOver : Bool) (s : State) : Bool :=
  !(s.line.drive == .idle) || (if bitOver then s.line.bitDrive else s.line.bitHeld)

/-- `miso` carries the response buffer while `cs_n` is low and the part is out of reset; otherwise it is at high impedance (R163, R173).
DESIGN CHOICE (log entry 22): in a transaction that is ignored because it was in progress at reset release, it carries the buffer too. -/
def misoDriven (csLow : Bool) (s : State) : Bool := running s && csLow

/-- The duty of setpoint output n in per mille; an outlet at or above the strapped count stays at zero duty (R145). -/
def setpointDuty (s : State) (n : Nat) : Nat :=
  match s.outlets[n]? with
  | some o => o.setpointDuty
  | none => 0

/-- Release output n is driven (R150); an unused one never is. -/
def releaseDriven (s : State) (n : Nat) : Bool :=
  match s.outlets[n]? with
  | some o => o.supervision.releaseDriven
  | none => false

/-- The bit-time in microseconds, set by the rate straps; none with a strap fault (R38). -/
def bitTimeMicros (s : State) : Option Nat :=
  match s.host.straps.rate with
  | 0 => some 200
  | 1 => some 100
  | 2 => some 50
  | _ => none

end Sys2Proof.Machine
end

