-- ==== Sys2Proof/Machine/PeerRoster.lean ====
section
/-! DEFINITION. The Peer Roster (Chapter 5): the update at a valid completion, the counts and the rotation orders. -/

namespace Sys2Proof.Machine

/-- The band of a seat read Present, from its three band bits: the highest of them, none where there is none (R89). -/
def bandOfBits (late tight steady : Bool) : Band :=
  if late then .late else if tight then .tight else if steady then .steady else .unbanded

/-- Two or three band bits were read dominant (R89). -/
def severalBits (late tight steady : Bool) : Bool :=
  (late && tight) || (late && steady) || (tight && steady)

/-- The entry of a seat whose Present bit was read recessive (R90), with the irregular flag of R91. -/
def updateUnseen (anyBand : Bool) (e : Entry) : Entry :=
  match e.state with
  | .present => { e with state := .held, absence := 1, irregular := e.irregular || anyBand }
  | .held =>
    if e.absence < 2 then { e with absence := e.absence + 1, irregular := e.irregular || anyBand }
    else ⟨.absent, .absent, 0, false, e.irregular || anyBand⟩
  | .absent => ⟨.absent, .absent, 0, false, e.irregular || anyBand⟩

/-- One entry's update from its seat's four bits (R88 to R91). -/
def updateEntry (present late tight steady : Bool) (e : Entry) : Entry :=
  if present then ⟨.present, bandOfBits late tight steady, 0, severalBits late tight steady, false⟩
  else updateUnseen (late || tight || steady) e

/-- All the entries after an update (R88). -/
def updateEntries (m : Maps) (entries : List Entry) : List Entry :=
  entries.zipIdx.map fun es =>
    updateEntry (m.present.getLsbD es.2) (m.late.getLsbD es.2) (m.tight.getLsbD es.2) (m.steady.getLsbD es.2) es.1

/-- An entry is PRESENT or HELD (R92). -/
def Entry.showing (e : Entry) : Bool := !(e.state == .absent)

/-- An entry is PRESENT or HELD in a band (R92). -/
def Entry.inBand (b : Band) (e : Entry) : Bool := e.showing && e.band == b

/-- The five counts (R92). -/
def countEntries (entries : List Entry) : Counts where
  late := entries.countP (Entry.inBand .late)
  tight := entries.countP (Entry.inBand .tight)
  steady := entries.countP (Entry.inBand .steady)
  demanding := entries.countP (Entry.inBand .late) + entries.countP (Entry.inBand .tight) +
    entries.countP (Entry.inBand .steady)
  present := entries.countP Entry.showing

/-- The rotation origin ρ = floor(census number / 16) mod 128 (R94). -/
def rotationOrigin (number : CensusNumber) : Nat := number.toNat / 16 % 128

/-- The rotation key of a seat, (s − ρ) mod 128 (R94). -/
def rotationKey (origin seat : Nat) : Nat := (seat + 128 - origin) % 128

/-- The rotation order of a band: its seats in ascending order of rotation key. The seat of key k is (ρ + k) mod 128 (R94). -/
def rotationOrder (entries : List Entry) (origin : Nat) (b : Band) : List Nat :=
  ((List.range 128).map fun k => (origin + k) % 128).filter fun seat =>
    match entries[seat]? with
    | some e => e.inBand b
    | none => false

/-- The rank of a seat in a rotation order, from 1; none for a seat that is not in it (R94). -/
def rotationRank (order : List Nat) (seat : Nat) : Option Nat := (order.idxOf? seat).map (· + 1)

/-- The roster after an update with the maps and the census number handed over (R88, R92, R94). -/
def updateRoster (m : Maps) (number : CensusNumber) (r : Roster) : Roster :=
  let entries := updateEntries m r.entries
  { entries := entries
    counts := countEntries entries
    origin := some (rotationOrigin number)
    lateOrder := rotationOrder entries (rotationOrigin number) .late
    tightOrder := rotationOrder entries (rotationOrigin number) .tight
    steadyOrder := rotationOrder entries (rotationOrigin number) .steady }

/-- The roster entry of a seat; a seat without an entry reads as cleared. -/
def entryOf (r : Roster) (seat : Nat) : Entry := r.entries.getD seat Entry.cleared

end Sys2Proof.Machine
end

