-- ==== Sys2Proof/Machine/Urgency.lean ====
section
/-! DEFINITION. Laxity, bands and snapshot points (Chapter 2). -/

namespace Sys2Proof.Machine

/-- Division rounded up (00_scope 3.2). -/
def ceilDiv (a b : Nat) : Nat := (a + b - 1) / b

/-- t_full = ceil(10 × R / Cmax) (R26). -/
def timeAtFullRate (need vanMax : Nat) : Nat := ceilDiv (10 * need) vanMax

/-- λ = T − t_full, clamped into [−2048, 2047] (R27). -/
def laxityOf (need vanMax departure : Nat) : Int :=
  max (-2048) (min 2047 ((departure : Int) - (timeAtFullRate need vanMax : Int)))

/-- The band of a session with need, from its laxity and θ (R28). -/
def bandOfLaxity (theta : Nat) (laxity : Int) : Band :=
  if laxity ≤ 0 then .late else if laxity ≤ (theta : Int) then .tight else .steady

/-- The laxity and the band that a snapshot point stores (R26 to R28); a VACANT record is not touched (R29). -/
def snapshotSession (theta : Nat) (r : Session) : Session :=
  if r.state = .vacant then r
  else if r.need = 0 then { r with laxity := none, band := .unbanded }
  else
    { r with
      laxity := some (laxityOf r.need r.vanMax r.departure)
      band := bandOfLaxity theta (laxityOf r.need r.vanMax r.departure) }

/-- A snapshot point: laxity and band are computed and stored for every session (R29, R30). -/
def snapshot (s : State) : State :=
  match s.host.profile with
  | none => s
  | some p => mapOutlets (fun o => { o with session := snapshotSession p.tightThreshold o.session }) s

/-- An expiry in ISLANDED is a snapshot point: after the first frame zero that the part takes part in (R30), and before it as the value of
Config that stands between R37 and R30, R61 and R70 has it (log entry 20). -/
def expirySnapshotDue (s : State) : Bool := s.census.reachedFrameZero || Config.snapshotBeforeFrameZero

/-- The snapshot point without latch of an expiry in ISLANDED, where one is due (R30, R37). -/
def snapshotAtExpiry (s : State) : State := if expirySnapshotDue s then snapshot s else s

/-- What a seat drives in a census, from the state and the stored band of its session (R24, R32). -/
def latchOf (r : Session) : Latch :=
  match r.state with
  | .vacant => ⟨false, .unbanded⟩
  | .paused => ⟨true, r.band⟩
  | .charging => ⟨true, r.band⟩
  | .topped => ⟨true, .unbanded⟩
  | .stalled => ⟨true, .unbanded⟩
  | .faulted => ⟨true, .unbanded⟩

end Sys2Proof.Machine
end

