-- ==== Sys2Proof/Machine/Shares.lean ====
section
/-! DEFINITION. The Share Engine (Chapters 6 and 8): the water-fill, borrow, targets with the post cap, and the lowering of offers that a
recomputation brings with it. -/

namespace Sys2Proof.Machine

/-- What the water-fill makes of one band (R100 to R102): no seat, a level for every seat, I_min for the first ranks, or nothing. -/
inductive Fill where
  | empty
  | full (level : Nat)
  | short (served : Nat)
  | closed
  deriving DecidableEq, Repr

/-- One band of the water-fill: its count, the remaining pool before it, and whether a band above it was short. The result is the
band's fill and the remaining pool after it (R100 to R102). -/
def fillBand (ceiling minCurrent count remaining : Nat) (above : Bool) : Fill × Nat :=
  if count = 0 then (.empty, remaining)
  else if above then (.closed, remaining)
  else if minCurrent ≤ min ceiling (remaining / count) then
    (.full (min ceiling (remaining / count)), remaining - min ceiling (remaining / count) * count)
  else (.short (remaining / minCurrent), remaining - remaining / minCurrent * minCurrent)

/-- A band that closes the bands below it (R102). -/
def Fill.closes : Fill → Bool
  | .empty => false
  | .full _ => false
  | .short _ => true
  | .closed => true

/-- The three fills and the pool remainder (R102). -/
structure WaterFill where
  late : Fill
  tight : Fill
  steady : Fill
  remainder : Nat
  deriving DecidableEq, Repr

/-- The water-fill over the bands Late, Tight, Steady (R100 to R102). -/
def waterFill (ceiling minCurrent pool late tight steady : Nat) : WaterFill :=
  let l := fillBand ceiling minCurrent late pool false
  let t := fillBand ceiling minCurrent tight l.2 l.1.closes
  let st := fillBand ceiling minCurrent steady t.2 (l.1.closes || t.1.closes)
  { late := l.1, tight := t.1, steady := st.1, remainder := st.2 }

/-- The seat share of a band's seat of a rank (R100 to R103). -/
def Fill.share (minCurrent : Nat) (f : Fill) (rank : Nat) : Nat :=
  match f with
  | .empty => 0
  | .full level => level
  | .short served => if rank ≤ served then minCurrent else 0
  | .closed => 0

/-- The current a band's fill gives its `count` seats together (R100 to R102). -/
def Fill.given (minCurrent count : Nat) (f : Fill) : Nat :=
  match f with
  | .empty => 0
  | .full level => level * count
  | .short served => served * minCurrent
  | .closed => 0

/-- The fill of a band; absent and none have none. -/
def WaterFill.ofBand (w : WaterFill) (b : Band) : Fill :=
  match b with
  | .late => w.late
  | .tight => w.tight
  | .steady => w.steady
  | .absent => .empty
  | .unbanded => .empty

/-- The rotation order of a band; absent and none have none (R94). -/
def Roster.orderOf (r : Roster) (b : Band) : List Nat :=
  match b with
  | .late => r.lateOrder
  | .tight => r.tightOrder
  | .steady => r.steadyOrder
  | .absent => []
  | .unbanded => []

/-- The share record that a water-fill writes for a seat, from its roster entry and its outlet's session state (R105). B and target are
written by Chapter 8. -/
def writeShare (p : Profile) (w : WaterFill) (r : Roster) (seat : Nat) (st : SessionState) (sh : Share) : Share :=
  if st = .vacant then sh
  else
    { sh with
      bandUsed := (entryOf r seat).band
      rank := rotationRank (r.orderOf (entryOf r seat).band) seat
      g :=
        if inPair st then
          match rotationRank (r.orderOf (entryOf r seat).band) seat with
          | some rank => (w.ofBand (entryOf r seat).band).share p.minCurrent rank
          | none => 0
        else 0 }

/-- The bound of borrow, max(0, Cmax − G), and the clamp to it (R133). -/
def clampBorrow (o : Outlet) (b : Nat) : Nat := min b (o.session.vanMax - o.share.g)

/-- The largest growth step of a band (R131). -/
def stepOfBand (b : Band) : Nat :=
  match b with
  | .late => 40
  | .tight => 20
  | .steady => 10
  | .absent => 0
  | .unbanded => 0

/-- A band used that is Late, Tight or Steady (R130). -/
def isBand (b : Band) : Bool :=
  match b with
  | .late => true
  | .tight => true
  | .steady => true
  | .absent => false
  | .unbanded => false

/-- Growth (R131): the step is the lesser of the band's step and the slice. -/
def grownBorrow (p : Profile) (demanding headroom : Nat) (o : Outlet) : Nat :=
  o.share.b + min (stepOfBand o.share.bandUsed) ((headroom - p.growthMargin) / demanding)

/-- Reduction (R132): half, less the seat's part of the excess. -/
def cutBorrow (demanding excess : Nat) (o : Outlet) : Nat := o.share.b / 2 - ceilDiv excess demanding

/-- The new B of an outlet at a valid completion, before the clamp: the first row of R130's table that holds. -/
def nextBorrow (p : Profile) (curtail : Nat) (sense : Sense) (demanding : Nat) (peak : Option Nat) (o : Outlet) : Nat :=
  if 0 < curtail then 0
  else if sense = .lost then 0
  else if !inPair o.session.state then 0
  else if !isBand o.share.bandUsed then 0
  else
    match peak with
    | none => o.share.b
    | some f =>
      if f + p.growthMargin < p.importLimit then grownBorrow p demanding (p.importLimit - f) o
      else if p.importLimit < f then cutBorrow demanding (f - p.importLimit) o
      else o.share.b

/-- An outlet's borrow after a valid completion (R130, R133). A VACANT outlet's share record stays cleared. -/
def updateBorrow (p : Profile) (curtail : Nat) (sense : Sense) (demanding : Nat) (peak : Option Nat) (o : Outlet) : Outlet :=
  if o.session.state = .vacant then o
  else { o with share.b := clampBorrow o (nextBorrow p curtail sense demanding peak o) }

/-- The islanded fallback of a PAUSED or CHARGING outlet (R138). -/
def fallbackTarget (p : Profile) (curtail : Nat) (r : Session) : Nat :=
  match r.band with
  | .late => if curtail = 0 then min r.vanMax p.fallback else p.minCurrent
  | .tight => if curtail = 0 then min r.vanMax p.fallback else 0
  | .steady => if curtail = 0 then min r.vanMax p.fallback else 0
  | .absent => 0
  | .unbanded => 0

/-- The raw target of a PAUSED or CHARGING outlet in JOINED (R137). -/
def joinedTarget (p : Profile) (o : Outlet) : Nat :=
  if min o.session.vanMax (o.share.g + o.share.b) < p.minCurrent then 0
  else min o.session.vanMax (o.share.g + o.share.b)

/-- The raw target of an outlet (R137 to R139). -/
def rawTarget (p : Profile) (part : Participation) (curtail : Nat) (o : Outlet) : Nat :=
  match part with
  | .offline => 0
  | .listening => 0
  | .joined =>
    match o.session.state with
    | .paused => joinedTarget p o
    | .charging => joinedTarget p o
    | .stalled => p.minCurrent
    | .vacant => 0
    | .topped => 0
    | .faulted => 0
  | .islanded =>
    match o.session.state with
    | .paused => fallbackTarget p curtail o.session
    | .charging => fallbackTarget p curtail o.session
    | .stalled => p.minCurrent
    | .vacant => 0
    | .topped => 0
    | .faulted => 0

/-- The class of an outlet in the cut order of the post cap (R140), 1 first; 0 for an outlet with no current to cut. -/
def cutClass (r : Session) : Nat :=
  if r.state = .stalled then 1
  else if inPair r.state then
    match r.band with
    | .absent => 2
    | .unbanded => 2
    | .steady => 3
    | .tight => 4
    | .late => 5
  else 0

/-- The outlets of one class, the highest index first (R140). -/
def cutOrderOf (os : List Outlet) (c : Nat) : List Nat :=
  (List.range os.length).reverse.filter fun i =>
    match os[i]? with
    | some o => cutClass o.session == c
    | none => false

/-- The cut order (R140). -/
def cutOrder (os : List Outlet) : List Nat :=
  cutOrderOf os 1 ++ cutOrderOf os 2 ++ cutOrderOf os 3 ++ cutOrderOf os 4 ++ cutOrderOf os 5

/-- The first pass of the post cap: each outlet in turn is reduced toward I_min. The excess left and the targets (R140). -/
def trimPass (minCurrent : Nat) : List Nat → Nat → List Nat → Nat × List Nat
  | [], excess, ts => (excess, ts)
  | i :: rest, excess, ts =>
    trimPass minCurrent rest (excess - min excess (ts.getD i 0 - minCurrent))
      (ts.set i (ts.getD i 0 - min excess (ts.getD i 0 - minCurrent)))

/-- The second pass of the post cap: each outlet in turn is set to 0 while there is excess (R140). -/
def dropPass : List Nat → Nat → List Nat → List Nat
  | [], _, ts => ts
  | i :: rest, excess, ts =>
    if excess = 0 then ts else dropPass rest (excess - ts.getD i 0) (ts.set i 0)

/-- The raw targets after the post cap (R140). -/
def postCap (minCurrent postLimit : Nat) (order : List Nat) (ts : List Nat) : List Nat :=
  dropPass order (trimPass minCurrent order (ts.sum - postLimit) ts).1
    (trimPass minCurrent order (ts.sum - postLimit) ts).2

/-- The targets of the part's outlets from raw targets and post cap (R137 to R140). -/
def cappedTargets (p : Profile) (part : Participation) (curtail : Nat) (os : List Outlet) : List Nat :=
  postCap p.minCurrent p.postLimit (cutOrder os) (os.map (rawTarget p part curtail))

/-- An offer above its target falls to it at once; a CHARGING session without a target has an offer of 0 and goes PAUSED with its stall
count at 0 (R142, R6, R155, R158). -/
def lowerOffer (o : Outlet) : Outlet :=
  if o.share.target = 0 ∧ o.session.state = .charging then
    { o with session.offer := 0, session.state := .paused, supervision.stallCount := 0 }
  else if o.share.target < o.session.offer then { o with session.offer := o.share.target }
  else o

/-- An outlet with the target a recomputation makes (R141), its offer lowered where it must be (R142). -/
def giveTarget (mayRaise : Bool) (o : Outlet) (t : Nat) : Outlet :=
  lowerOffer { o with share.target := if mayRaise then t else min t o.share.target }

/-- The outlets after a recomputation (R141). -/
def retarget (p : Profile) (part : Participation) (curtail : Nat) (mayRaise : Bool) (os : List Outlet) : List Outlet :=
  List.zipWith (giveTarget mayRaise) os (cappedTargets p part curtail os)

/-- The Share Engine recomputes the targets of every own outlet (R141). Without a profile no session exists and every target is 0. -/
def recompute (mayRaise : Bool) (s : State) : State :=
  match s.host.profile with
  | none => s
  | some p => { s with outlets := retarget p s.census.participation s.shares.curtail mayRaise s.outlets }

/-- The orders on borrow that the Feeder Watch hands over (R124). -/
inductive BorrowOrder where
  | halve
  | zero
  | zeroAndCurtail
  deriving DecidableEq, Repr

/-- Halve an outlet's borrow, rounding down (R122, R133). -/
def halveBorrow (o : Outlet) : Outlet := { o with share.b := clampBorrow o (o.share.b / 2) }

/-- Zero an outlet's borrow. -/
def zeroBorrow (o : Outlet) : Outlet := { o with share.b := 0 }

/-- The curtail count is set to 3 (R134). -/
def curtailBorrow (s : State) : State := { s with shares.curtail := 3 }

/-- The Share Engine takes an order on borrow: every own seat's B, then the targets, which may not rise (R124, R135, R141). -/
def takeOrder (order : BorrowOrder) (s : State) : State :=
  match order with
  | .halve => recompute false (mapOutlets halveBorrow s)
  | .zero => recompute false (mapOutlets zeroBorrow s)
  | .zeroAndCurtail => recompute false (curtailBorrow (mapOutlets zeroBorrow s))

/-- The water-fill of the pool over the roster's counts (R98, R99). -/
def fillOf (p : Profile) (s : State) : WaterFill :=
  waterFill p.seatCeiling p.minCurrent (s.shares.pool.getD 0) s.roster.counts.late s.roster.counts.tight
    s.roster.counts.steady

/-- The share records as the water-fill writes them, and the pool remainder it leaves (R99, R105). -/
def writeShares (p : Profile) (s : State) : State :=
  { s with
    shares.poolRemainder := some (fillOf p s).remainder
    outlets := s.outlets.zipIdx.map fun on =>
      { on.1 with share := writeShare p (fillOf p s) s.roster (seatOf s on.2) on.1.session.state on.1.share } }

/-- The borrow update of every seat, and then the curtail count (R130, R134). -/
def updateBorrows (p : Profile) (s : State) : State :=
  { s with
    shares.curtail := s.shares.curtail - 1
    outlets := s.outlets.map
      (updateBorrow p s.shares.curtail s.feeder.sense s.roster.counts.demanding s.feeder.peak) }

/-- Step 6 of a valid completion at the Share Engine (R82, R99, R129 to R134, R141). -/
def shareCompletion (s : State) : State :=
  match s.host.profile with
  | none => s
  | some p => recompute true (updateBorrows p (writeShares p s))

/-- The headroom H = L − F_peak, absent with F_peak (R129). -/
def headroomOf (p : Profile) (peak : Option Nat) : Option Int :=
  peak.map fun f => (p.importLimit : Int) - (f : Int)

end Sys2Proof.Machine
end

