-- ==== Sys2Proof/Machine/Sessions.lean ====
section
/-! DEFINITION. Session transitions, amp-minute completions and the minute tick (Chapter 1), with the supervision counts that each session
change sets (R158) and the handover to the Share Engine (R5). -/

namespace Sys2Proof.Machine

/-- A session that leaves the pair PAUSED and CHARGING loses its borrow and its guaranteed share (R5, R107). -/
def dropShares (o : Outlet) : Outlet :=
  if inPair o.session.state then { o with share.g := 0, share.b := 0 } else o

/-- The records of an outlet whose session enters TOPPED (R7, R158). -/
def topOutlet (o : Outlet) : Outlet :=
  { dropShares o with
    session.state := .topped
    session.offer := 0
    share.target := 0
    supervision.stallCount := 0
    supervision.unstallCount := 0 }

/-- The records of an outlet whose session enters FAULTED (R9, R158). -/
def faultOutlet (kind : SessionFault) (o : Outlet) : Outlet :=
  { dropShares o with
    session.state := .faulted
    session.offer := 0
    session.faultKind := some kind
    share.target := 0
    supervision.overdrawCount := 0
    supervision.stallCount := 0
    supervision.unstallCount := 0
    supervision.releaseCount := 0 }

/-- The records of an outlet whose session goes STALLED (R8, R158). -/
def stallOutlet (o : Outlet) : Outlet :=
  { dropShares o with
    session.state := .stalled
    supervision.stallCount := 0
    supervision.unstallCount := 0 }

/-- The records of an outlet whose session goes from STALLED to CHARGING (R8, R158). -/
def unstallOutlet (o : Outlet) : Outlet :=
  { o with
    session.state := .charging
    supervision.stallCount := 0
    supervision.unstallCount := 0 }

/-- The session of an outlet enters TOPPED, with its event, and the change is handed to the Share Engine (R5, R7). -/
def enterTopped (n : Nat) (s : State) : State :=
  recompute false (raise (.topped n) (modifyOutlet n topOutlet s))

/-- The session of an outlet enters FAULTED, with its event, and the change is handed to the Share Engine (R5, R9). -/
def enterFaulted (n : Nat) (kind : SessionFault) (s : State) : State :=
  recompute false (raise (.faulted n) (modifyOutlet n (faultOutlet kind) s))

/-- The session of an outlet goes STALLED, with its event, and the change is handed to the Share Engine (R5, R8). -/
def enterStalled (n : Nat) (s : State) : State :=
  recompute false (raise (.stalled n) (modifyOutlet n stallOutlet s))

/-- The session of an outlet goes from STALLED to CHARGING, and the change is handed to the Share Engine (R5, R8, R155). -/
def leaveStalled (n : Nat) (s : State) : State :=
  recompute false (modifyOutlet n unstallOutlet s)

/-- Whether a record holds T = 0 and R above 0 while its flag is no (R19). -/
def fallsOverdue (r : Session) : Bool := r.departure == 0 && decide (0 < r.need) && !r.overdue

/-- The session record that OPEN creates (R10); the overdue flag follows R19. -/
def openedSession (p : Profile) (number : CensusNumber) (need departure vanMax : Nat) (tag : List Byte) : Session where
  state := if need = 0 then .topped else .paused
  tag := tag
  need := need
  needSet := need
  departure := clampDeparture departure
  vanMax := clampVanMax p vanMax
  delivered := 0
  overdue := decide (clampDeparture departure = 0) && decide (0 < need)
  laxity := none
  band := .absent
  openedIn := some number
  offer := 0
  faultKind := none

/-- The records of an outlet on which a session is opened (R10, R158). -/
def openOutlet (r : Session) (o : Outlet) : Outlet :=
  { o with session := r, supervision.releaseCount := 0 }

/-- Raise an event where a condition holds. -/
def raiseIf (cond : Bool) (e : Event) (s : State) : State := if cond then raise e s else s

/-- OPEN taken on an outlet (R10, R19). -/
def openSessionOn (n : Nat) (r : Session) (s : State) : State :=
  recompute false (raiseIf r.overdue (.overdue n) (modifyOutlet n (openOutlet r) s))

/-- The session record with the fields of AMEND applied, before the state is settled (R12, R19). -/
def amendedSession (p : Profile) (need departure vanMax : Nat) (r : Session) : Session :=
  { r with
    need := amendedField r.need need
    needSet := amendedField r.need need
    departure := if departure = keepCode then r.departure else clampDeparture departure
    vanMax := if vanMax = keepCode then r.vanMax else clampVanMax p vanMax
    overdue :=
      if (if departure = keepCode then r.departure else clampDeparture departure) = 0 then
        r.overdue || decide (0 < amendedField r.need need)
      else false }

/-- An amended outlet's borrow against its amended van max (R13, R133). -/
def reclampBorrow (o : Outlet) : Outlet := { o with share.b := clampBorrow o o.share.b }

/-- The records of an outlet that AMEND returns to PAUSED from TOPPED or STALLED (R13, R158). -/
def repauseOutlet (o : Outlet) : Outlet :=
  { o with
    session.state := .paused
    session.offer := 0
    supervision.stallCount := 0
    supervision.unstallCount := 0 }

/-- The outlet that AMEND leaves: its fields applied and its session state settled from the state found and the need left (R12, R13). -/
def amendOutlet (p : Profile) (need departure vanMax : Nat) (o : Outlet) : Outlet :=
  let a := reclampBorrow { o with session := amendedSession p need departure vanMax o.session }
  match a.session.state with
  | .paused => if a.session.need = 0 then topOutlet a else a
  | .charging => if a.session.need = 0 then topOutlet a else a
  | .topped => if a.session.need = 0 then a else repauseOutlet a
  | .stalled => if a.session.need = 0 then topOutlet a else repauseOutlet a
  | .vacant => a
  | .faulted => a

/-- AMEND taken on an outlet (R12, R13, R19): the events it raises, and the handover to the Share Engine. -/
def amendSessionOn (p : Profile) (n need departure vanMax : Nat) (o : Outlet) (s : State) : State :=
  let a := amendOutlet p need departure vanMax o
  recompute false
    (raiseIf (a.session.state == .topped && !(o.session.state == .topped)) (.topped n)
      (raiseIf (a.session.overdue && !o.session.overdue) (.overdue n)
        (modifyOutlet n (fun _ => a) s)))

/-- The records of an outlet after CLOSE: session, share and supervision record cleared; the Draw Meter, the duty in progress and the
seat's clash count stand (R4, R15, R77, R148). -/
def closedOutlet (o : Outlet) : Outlet :=
  { o with session := .cleared, share := .cleared, supervision := .cleared }

/-- CLOSE taken on an outlet (R15). -/
def closeSessionOn (n : Nat) (s : State) : State :=
  recompute false (modifyOutlet n closedOutlet s)

/-- Delivered goes up by 1, saturating (R21). -/
def countDelivered (r : Session) : Session := { r with delivered := min (r.delivered + 1) 65535 }

/-- An amp-minute completion on a record (R21), before any transition. -/
def completeSession (r : Session) : Session :=
  match r.state with
  | .vacant => r
  | .paused => countDelivered { r with need := r.need - 1 }
  | .charging => countDelivered { r with need := r.need - 1 }
  | .stalled => countDelivered { r with need := r.need - 1 }
  | .topped => countDelivered r
  | .faulted => countDelivered { r with need := r.need - 1 }

/-- A completion leaves the session without need in a state that goes TOPPED (R7, R21). -/
def topsAfter (r : Session) : Bool :=
  match r.state with
  | .paused => decide (r.need ≤ 1)
  | .charging => decide (r.need ≤ 1)
  | .stalled => decide (r.need ≤ 1)
  | .vacant => false
  | .topped => false
  | .faulted => false

/-- The Outlet Supervisor takes an amp-minute completion for an outlet (R21). -/
def takeCompletion (n : Nat) (s : State) : State :=
  match s.outlets[n]? with
  | none => s
  | some o =>
    if topsAfter o.session then
      enterTopped n (modifyOutlet n (fun o => { o with session := completeSession o.session }) s)
    else modifyOutlet n (fun o => { o with session := completeSession o.session }) s

/-- The record after a minute tick (R18, R19). -/
def tickSession (r : Session) : Session :=
  if r.state = .vacant then r
  else if r.departure = 0 then r
  else
    { r with
      departure := r.departure - 1
      overdue := r.overdue || (decide (r.departure = 1) && decide (0 < r.need)) }

/-- A minute tick at one outlet, with the OVERDUE event where the flag passes to yes (R18, R19). -/
def tickOutlet (n : Nat) (s : State) : State :=
  match s.outlets[n]? with
  | none => s
  | some o =>
    raiseIf ((tickSession o.session).overdue && !o.session.overdue) (.overdue n)
      (modifyOutlet n (fun o => { o with session := tickSession o.session }) s)

/-- The minute timer expires and is loaded anew, and every outlet takes the tick (R17, R18). -/
def minuteTick (s : State) : State :=
  forOutlets s.outlets.length tickOutlet { s with minuteMs := 60000 }

/-- Whether an outlet's overdue flag is set. -/
def isOverdue (s : State) (n : Nat) : Bool :=
  match s.outlets[n]? with
  | some o => o.session.overdue
  | none => false

end Sys2Proof.Machine
end

