-- ==== Sys2Proof/Machine/Windows.lean ====
section
/-! DEFINITION. The Draw Meter and the Outlet Supervisor at the window boundaries (Chapter 9), with the ramp of R143. -/

namespace Sys2Proof.Machine

/-- The charge of one quantum, 0.025 A·s, in microampere-seconds (R147). -/
def quantumCharge : Nat := 25000

/-- The quantum remainder wraps at the quantum that would bring it to 2400 (R149). -/
def remainderWrap : Nat := 2400

/-- Charge reported by `isense` reaches the integrator (R147). -/
def integrate (charge : Nat) (m : Meter) : Meter := { m with charge := m.charge + charge }

/-- The integrator has reached a quantum (R147). -/
def reachesQuantum (m : Meter) : Bool := decide (quantumCharge ≤ m.charge)

/-- One quantum: it leaves the integrator, and counts in the window count, saturating, and in the quantum remainder (R147, R149). -/
def countQuantum (m : Meter) : Meter :=
  { m with
    charge := m.charge - quantumCharge
    windowCount := min (m.windowCount + 1) 65535
    remainder := if m.remainder + 1 < remainderWrap then m.remainder + 1 else 0 }

/-- The next quantum completes an ampere-minute (R149). -/
def completes (m : Meter) : Bool := decide (remainderWrap ≤ m.remainder + 1)

/-- The charge reported by an outlet's input: where it reaches a quantum the quantum is counted, and where the remainder wraps the
completion is handed to the Outlet Supervisor in the same event (R147, R149). -/
def takeCharge (n charge : Nat) (s : State) : State :=
  match s.outlets[n]? with
  | none => s
  | some o =>
    if reachesQuantum (integrate charge o.meter) then
      if completes o.meter then
        takeCompletion n (modifyOutlet n (fun o => { o with meter := countQuantum (integrate charge o.meter) }) s)
      else modifyOutlet n (fun o => { o with meter := countQuantum (integrate charge o.meter) }) s
    else modifyOutlet n (fun o => { o with meter := integrate charge o.meter }) s

/-- A full window at the Draw Meter: the count becomes the last average, which is the window's draw D (R148). -/
def meterFullWindow (o : Outlet) : Outlet :=
  { o with meter.lastAverage := some o.meter.windowCount, meter.windowCount := 0 }

/-- A cut window at the Draw Meter: the count is discarded (R148). -/
def meterCutWindow (o : Outlet) : Outlet := { o with meter.windowCount := 0 }

/-- The draw D of the full window that has just ended (R148). -/
def drawOf (o : Outlet) : Nat := o.meter.lastAverage.getD 0

/-- The grace ceiling: the highest of the 8 entries (R151). Between full window ends the history stands, and with it the ceiling last formed;
a CLOSE clears both (R150, R167), so READ OUTLET then returns 0 until the next full window end (DESIGN CHOICE beside R151 and R160, log
entry 21). -/
def graceCeiling (v : Supervision) : Nat := v.history.foldl max 0

/-- The grace history at a full window end (R151, steps 1 and 2). -/
def enterHistory (o : Outlet) : Outlet :=
  { o with
    supervision.history := o.supervision.history.drop 1 ++ [o.supervision.windowMax]
    supervision.windowMax := o.session.offer }

/-- The draw exceeds the grace ceiling by more than 2.0 A (R153). -/
def overdraws (o : Outlet) : Bool := decide (graceCeiling o.supervision + 20 < drawOf o)

/-- Overdraw is judged in these states (R152, R153). -/
def judgedForOverdraw (st : SessionState) : Bool :=
  match st with
  | .paused => true
  | .charging => true
  | .topped => true
  | .stalled => true
  | .vacant => false
  | .faulted => false

/-- Step 2: overdraw is judged, and at a count of 4 the session goes FAULTED and the fault is captured (R153). -/
def judgeOverdraw (n : Nat) (s : State) : State :=
  match s.outlets[n]? with
  | none => s
  | some o =>
    if judgedForOverdraw o.session.state then
      if overdraws o then
        if 4 ≤ o.supervision.overdrawCount + 1 then
          capture .overdraw (some n) (drawOf o) (enterFaulted n .overdraw s)
        else modifyOutlet n (fun o => { o with supervision.overdrawCount := o.supervision.overdrawCount + 1 }) s
      else modifyOutlet n (fun o => { o with supervision.overdrawCount := 0 }) s
    else s

/-- Step 3 for a CHARGING session: stall is judged (R154). -/
def judgeStall (n : Nat) (o : Outlet) (s : State) : State :=
  if drawOf o < 10 then
    if 240 ≤ o.supervision.stallCount + 1 then enterStalled n s
    else modifyOutlet n (fun o => { o with supervision.stallCount := o.supervision.stallCount + 1 }) s
  else modifyOutlet n (fun o => { o with supervision.stallCount := 0 }) s

/-- Step 3 for a STALLED session: unstall is judged (R155). -/
def judgeUnstall (n : Nat) (o : Outlet) (s : State) : State :=
  if 20 ≤ drawOf o then
    if 4 ≤ o.supervision.unstallCount + 1 then leaveStalled n s
    else modifyOutlet n (fun o => { o with supervision.unstallCount := o.supervision.unstallCount + 1 }) s
  else modifyOutlet n (fun o => { o with supervision.unstallCount := 0 }) s

/-- Step 3: stall or unstall is judged, by the state that step 2 left (R152). -/
def judgeResponse (n : Nat) (s : State) : State :=
  match s.outlets[n]? with
  | none => s
  | some o =>
    match o.session.state with
    | .charging => judgeStall n o s
    | .stalled => judgeUnstall n o s
    | .vacant => s
    | .paused => s
    | .topped => s
    | .faulted => s

/-- The kind of the fault that a driven release output captures (R156). -/
def releaseFault (st : SessionState) : FaultKind := if st = .vacant then .vacantDraw else .stuckDraw

/-- Release is judged for these states, by the state found at the start of the window-end event (R152, R156). -/
def judgedForRelease (st : SessionState) : Bool :=
  match st with
  | .vacant => true
  | .faulted => true
  | .paused => false
  | .charging => false
  | .topped => false
  | .stalled => false

/-- Step 4: release is judged while the output is deasserted, and at a count of 8 it is driven (R156). -/
def judgeRelease (n : Nat) (found : SessionState) (s : State) : State :=
  match s.outlets[n]? with
  | none => s
  | some o =>
    if judgedForRelease found && !o.supervision.releaseDriven then
      if 20 < drawOf o then
        if 8 ≤ o.supervision.releaseCount + 1 then
          capture (releaseFault found) (some n) (drawOf o)
            (raise (.release n)
              (modifyOutlet n (fun o => { o with supervision.releaseCount := 8, supervision.releaseDriven := true }) s))
        else modifyOutlet n (fun o => { o with supervision.releaseCount := o.supervision.releaseCount + 1 }) s
      else modifyOutlet n (fun o => { o with supervision.releaseCount := 0 }) s
    else s

/-- The offer after a window boundary (R143). -/
def rampedOffer (p : Profile) (offer target : Nat) : Nat :=
  if target ≤ offer then offer
  else if offer = 0 then min target (max p.minCurrent p.ramp)
  else min target (offer + p.ramp)

/-- A PAUSED session's offer leaves 0 at this boundary (R6, R143). -/
def startsCharging (p : Profile) (o : Outlet) : Bool :=
  o.session.state == .paused && o.session.offer == 0 && decide (0 < rampedOffer p o.session.offer o.share.target)

/-- The ramp at one outlet's records, with the window maximum raised to the offer (R143, R151, R158). -/
def rampOutlet (p : Profile) (o : Outlet) : Outlet :=
  if o.share.target ≤ o.session.offer then o
  else if startsCharging p o then
    { o with
      session.state := .charging
      session.offer := rampedOffer p o.session.offer o.share.target
      supervision.stallCount := 0
      supervision.windowMax := max o.supervision.windowMax (rampedOffer p o.session.offer o.share.target) }
  else
    { o with
      session.offer := rampedOffer p o.session.offer o.share.target
      supervision.windowMax := max o.supervision.windowMax (rampedOffer p o.session.offer o.share.target) }

/-- The ramp at one outlet (R143). A session that goes CHARGING is a session change, handed to the Share Engine (R5). -/
def ramp (n : Nat) (s : State) : State :=
  match s.host.profile, s.outlets[n]? with
  | some p, some o =>
    if startsCharging p o then recompute false (modifyOutlet n (rampOutlet p) s)
    else modifyOutlet n (rampOutlet p) s
  | _, _ => s

/-- A full window end at one outlet (R152): history, overdraw, stall or unstall, release, ramp. -/
def superviseOutlet (n : Nat) (s : State) : State :=
  ramp n
    (judgeRelease n (sessionState s n)
      (judgeResponse n (judgeOverdraw n (modifyOutlet n enterHistory s))))

/-- The full window end at the Draw Meter and then at the Outlet Supervisor, outlets in ascending number (R148, R152). -/
def outletsFullWindow (s : State) : State :=
  forOutlets s.outlets.length superviseOutlet (mapOutlets meterFullWindow s)

/-- The cut window end at the Draw Meter and then at the Outlet Supervisor, which ramps alone (R148, R152). -/
def outletsCutWindow (s : State) : State :=
  forOutlets s.outlets.length ramp (mapOutlets meterCutWindow s)

/-- Each setpoint output takes the duty of the offer in force at its period start (R145). -/
def dutyOf (offer : Nat) : Nat := offer * 1000 / 800

/-- A PWM period starts (R145), at the setpoint outputs of all outlets together (DEDUCED, log entry 24). -/
def startPwmPeriod (s : State) : State :=
  mapOutlets (fun o => { o with setpointDuty := dutyOf o.session.offer }) s

end Sys2Proof.Machine
end

