-- ==== Sys2Proof/Machine/Feeder.lean ====
section
/-! DEFINITION. The Feeder Watch (Chapter 7): sampling, the full and the cut window, sense, overload and trip, and the hush it hears. -/

namespace Sys2Proof.Machine

/-- A window sum is in band (R115). -/
def inBand (sum : Nat) : Bool := decide (2040 ≤ sum) && decide (sum ≤ 38880)

/-- The feeder average F of an in-band sum (R116). -/
def feederAverage (fullScale sum : Nat) : Nat := (max 4080 (min sum 36840) - 4080) * fullScale / 32760

/-- The reading of a window sum (R115 to R117). -/
def readingOf (fullScale sum : Nat) : Reading :=
  if inBand sum then .inBand (feederAverage fullScale sum) else .outOfBand sum

/-- Sample j of a window: the code is added to the window sum. Forty samples are taken in a window (R112). -/
def takeSample (code : Nat) (w : FeederWatch) : FeederWatch :=
  if w.samples < 40 then { w with windowSum := w.windowSum + code, samples := w.samples + 1 } else w

/-- The window sum is set to 0 at every boundary once it has been handled, and the window that begins is whole (R112). -/
def startWindow (w : FeederWatch) : FeederWatch := { w with windowSum := 0, samples := 0, partialWindow := false }

/-- A new ring entry becomes the newest, and the oldest goes where the ring held 8 (R117). -/
def enterRing (e : RingEntry) (ring : List RingEntry) : List RingEntry :=
  if ring.length < 8 then ring ++ [e] else ring.drop 1 ++ [e]

/-- The peak after a reading (R118). -/
def raisePeak (r : Reading) (peak : Option Nat) : Option Nat :=
  match r with
  | .outOfBand _ => peak
  | .inBand f =>
    match peak with
    | none => some f
    | some k => some (max k f)

/-- Steps 3 and 4 of R113: the ring and the peak. -/
def recordReading (window : Nat) (r : Reading) (w : FeederWatch) : FeederWatch :=
  { w with ring := enterRing ⟨window, r, true⟩ w.ring, peak := raisePeak r w.peak }

/-- The over count after an in-band window (R122). -/
def nextOver (p : Profile) (f overs : Nat) : Nat := if p.importLimit < f then min 2 (overs + 1) else 0

/-- The trip count after an in-band window (R123). -/
def nextTrip (p : Profile) (f trip : Nat) : Nat := if p.importLimit + p.tripMargin < f then min 2 (trip + 1) else 0

/-- An overload is taken: the event is raised at the first of its run (R122). -/
def noteOverload (p : Profile) (f : Nat) (overs : Nat) (s : State) : State :=
  raiseIf (nextOver p f overs == 2 && !(overs == 2)) .overload s

/-- A trip is taken: the hush-pending flag, and at the first of its run the event and the fault (R123, R125). -/
def noteTrip (f trip : Nat) (s : State) : State :=
  if trip = 2 then { s with feeder.hushPending := true }
  else capture .trip none f (raise .trip { s with feeder.hushPending := true })

/-- Step 6 of R113: the over count and the trip count are updated and acted on. A window that takes both an overload and a trip hands over
one order, zero and curtail (R122 to R124). -/
def judgeLimits (p : Profile) (f : Nat) (s : State) : State :=
  let overs := s.feeder.overCount
  let trip := s.feeder.tripCount
  let counted := noteOverload p f overs
    { s with feeder.overCount := nextOver p f overs, feeder.tripCount := nextTrip p f trip }
  if nextTrip p f trip = 2 then takeOrder .zeroAndCurtail (noteTrip f trip counted)
  else if nextOver p f overs = 2 then takeOrder .halve counted
  else counted

/-- The sense becomes LOST (R120). -/
def loseSense (sum : Nat) (s : State) : State :=
  capture .senseLost none sum
    (raise .senseLost
      (takeOrder .zero
        { s with
          feeder.sense := .lost
          feeder.outOfBandCount := 0
          feeder.inBandCount := 0
          feeder.overCount := 0
          feeder.tripCount := 0 }))

/-- The sense returns to VALID (R121). -/
def regainSense (s : State) : State :=
  raise .senseBack
    { s with feeder.sense := .valid, feeder.outOfBandCount := 0, feeder.inBandCount := 0 }

/-- Steps 5 and 6 of R113, by the sense state and the reading (R119 to R123). -/
def judgeReading (p : Profile) (r : Reading) (s : State) : State :=
  match s.feeder.sense, r with
  | .valid, .inBand f => judgeLimits p f { s with feeder.outOfBandCount := 0 }
  | .valid, .outOfBand sum =>
    if 2 ≤ s.feeder.outOfBandCount + 1 then loseSense sum s
    else { s with feeder.outOfBandCount := s.feeder.outOfBandCount + 1 }
  | .lost, .inBand _ =>
    if 8 ≤ s.feeder.inBandCount + 1 then regainSense s
    else { s with feeder.inBandCount := s.feeder.inBandCount + 1 }
  | .lost, .outOfBand _ => { s with feeder.inBandCount := 0 }

/-- The window's sum is that of a whole window, taken with a profile (R112, R113). -/
def judgesWindow (s : State) : Bool := s.host.profile.isSome && !s.feeder.partialWindow

/-- A full window end at the Feeder Watch (R113). Without a profile, and for the window in progress when the profile was loaded, the sum
is discarded as at a cut window (R112, R113). -/
def feederFullWindow (s : State) : State :=
  match s.host.profile with
  | none => { s with feeder := startWindow s.feeder }
  | some p =>
    if s.feeder.partialWindow then { s with feeder := startWindow s.feeder }
    else
      let r := readingOf p.fullScale s.feeder.windowSum
      let t := judgeReading p r { s with feeder := recordReading s.census.windowIndex r s.feeder }
      { t with feeder := startWindow t.feeder }

/-- A cut window end at the Feeder Watch: the partial sum is discarded (R114). -/
def feederCutWindow (s : State) : State := { s with feeder := startWindow s.feeder }

/-- A full window end that takes an overload: the over count stands at 2 after the update (R122). -/
def takesOverload (s : State) : Bool :=
  match s.host.profile with
  | none => false
  | some p =>
    match s.feeder.sense, readingOf p.fullScale s.feeder.windowSum with
    | .valid, .inBand f => !s.feeder.partialWindow && nextOver p f s.feeder.overCount == 2
    | .valid, .outOfBand _ => false
    | .lost, .inBand _ => false
    | .lost, .outOfBand _ => false

/-- A full window end that takes a trip: the trip count stands at 2 after the update (R123). -/
def takesTrip (s : State) : Bool :=
  match s.host.profile with
  | none => false
  | some p =>
    match s.feeder.sense, readingOf p.fullScale s.feeder.windowSum with
    | .valid, .inBand f => !s.feeder.partialWindow && nextTrip p f s.feeder.tripCount == 2
    | .valid, .outOfBand _ => false
    | .lost, .inBand _ => false
    | .lost, .outOfBand _ => false

/-- A hush by another part is heard (R126). Without a profile it raises its event and does nothing else. -/
def hearHush (s : State) : State :=
  if s.host.profile.isSome then
    raise .hush (takeOrder .zeroAndCurtail { s with feeder.hushPending := false })
  else raise .hush s

/-- At a valid completion the peak is taken and set to absent, and every ring entry's since-completion mark becomes no (R117, R118). -/
def feederCompletion (s : State) : State :=
  { s with
    feeder.peak := none
    feeder.ring := s.feeder.ring.map fun e => { e with sinceCompletion := false } }

end Sys2Proof.Machine
end

