-- ==== Sys2Proof/Machine/Census.lean ====
section
/-! DEFINITION. The Census Engine (Chapter 4): the missed-period count and ISLANDED, frame zero, the frame's bits, abandonment, and the
completion of a valid census. -/

namespace Sys2Proof.Machine

/-- The part takes part in censuses: it is not OFFLINE (R67). -/
def takesPart (s : State) : Bool := !(s.census.participation == .offline)

/-- The transceiver serves a standing request where it takes samples, the line is FREE and nothing is driven; a hush goes first (R50, R51).
A start request is consumed where its drive begins (R50); a hush starts the hold-off (R53). -/
def serve (s : State) : State :=
  if lineAlive s = true ∧ s.line.state = .free ∧ s.line.drive = .idle then
    if s.feeder.hushPending = true ∧ s.line.holdOffMs = 0 then
      { s with line.drive := .hush, line.holdOffMs := 2000 }
    else if s.line.startRequest then
      { s with line.drive := .startPulse false, line.startRequest := false }
    else s
  else s

/-- Entry into ISLANDED: the state, the event, B at 0 for every own seat, and fallback targets, which may rise (R70, R141). -/
def enterIslanded (s : State) : State :=
  recompute true (mapOutlets zeroBorrow (raise .islanded { s with census.participation := .islanded }))

/-- The missed-period count reaches 3 from 2 in a part that is to enter ISLANDED (R69, R70). -/
def reachesThree (s : State) : Bool :=
  s.census.missed == 2 && (s.census.participation == .listening || s.census.participation == .joined)

/-- The missed-period count goes up by 1, stopping at 3; it is kept outside OFFLINE (R65, R69). -/
def countMissed (s : State) : State :=
  if takesPart s then { s with census.missed := min 3 (s.census.missed + 1) } else s

/-- A missed period that is no expiry: the count, and entry into ISLANDED on the bands as stored (R69, R70). -/
def missPeriod (s : State) : State :=
  if reachesThree s then enterIslanded (countMissed s) else countMissed s

/-- A missed period at an expiry: entry into ISLANDED takes a snapshot point without latch first (R30, R70), before the first frame zero as
R37 and log entry 20 leave it. -/
def missPeriodAtExpiry (s : State) : State :=
  if reachesThree s then enterIslanded (snapshotAtExpiry (countMissed s)) else countMissed s

/-- A snapshot point without latch and a fallback recomputation, at each expiry while ISLANDED (R30, R37, R61). -/
def refreshFallback (s : State) : State :=
  if s.census.participation = .islanded then recompute true (snapshotAtExpiry s) else s

/-- The Census Engine places a start request, or keeps the one that stands (R61). -/
def placeStartRequest (s : State) : State := { s with line.startRequest := true }

/-- The census timer expires (R60, R61): it is loaded anew; outside OFFLINE a start request is placed, which the transceiver serves at
once on a FREE line, and which counts a missed period on another; while ISLANDED the bands and the fallback targets are taken. -/
def expireTimer (s : State) : State :=
  let t := { s with census.timerMs := 2000 }
  if takesPart t then
    if t.line.state = .free then refreshFallback (serve (placeStartRequest t))
    else if t.census.participation = .islanded then refreshFallback (countMissed (placeStartRequest t))
    else missPeriodAtExpiry (placeStartRequest t)
  else t

/-- Where a frame bit lies in a census (R72). -/
inductive Field where
  | settle
  | number (weight : Nat)
  | present (seat : Nat)
  | late (seat : Nat)
  | tight (seat : Nat)
  | steady (seat : Nat)
  deriving DecidableEq, Repr

/-- The field of a frame bit: the settle bits 0 and 1, the number most significant bit first from bit 2, and the four maps (R72). -/
def fieldOf (k : Nat) : Field :=
  if k < 2 then .settle
  else if k < 18 then .number (17 - k)
  else if k < 146 then .present (k - 18)
  else if k < 274 then .late (k - 146)
  else if k < 402 then .tight (k - 274)
  else .steady (k - 402)

/-- The latch of an own seat; another part's seat, or no latch, drives nothing (R72). -/
def latchAt (base : Nat) (latch : List Latch) (seat : Nat) : Latch :=
  if base ≤ seat then latch.getD (seat - base) ⟨false, .unbanded⟩ else ⟨false, .unbanded⟩

/-- The Census Engine's drive decision for a frame bit (R72, R73). -/
def drivesBit (base : Nat) (f : Frame) (k : Nat) : Bool :=
  match fieldOf k with
  | .settle => false
  | .number weight => f.sending && f.candidate.getLsbD weight
  | .present seat => decide (k < 530) && (latchAt base f.latch seat).present
  | .late seat => decide (k < 530) && (latchAt base f.latch seat).present && (latchAt base f.latch seat).band == .late
  | .tight seat => decide (k < 530) && (latchAt base f.latch seat).present && (latchAt base f.latch seat).band == .tight
  | .steady seat => decide (k < 530) && (latchAt base f.latch seat).present && (latchAt base f.latch seat).band == .steady

/-- Set one bit of a map where a value is dominant. -/
def setBit (m : SeatMap) (seat : Nat) (v : Bool) : SeatMap := if v then m ||| BitVec.twoPow 128 seat else m

/-- A map bit as read or as driven is stored in its map (R75). -/
def storeMapBit (field : Field) (v : Bool) (m : Maps) : Maps :=
  match field with
  | .present seat => { m with present := setBit m.present seat v }
  | .late seat => { m with late := setBit m.late seat v }
  | .tight seat => { m with tight := setBit m.tight seat v }
  | .steady seat => { m with steady := setBit m.steady seat v }
  | .settle => m
  | .number _ => m

/-- The Census Engine stores a bit that was handed over, and yields in the number field where it reads a 1 at a 0 of its candidate
(R73, R75). -/
def storeBit (k : Nat) (v drove : Bool) (f : Frame) : Frame :=
  match fieldOf k with
  | .settle => if k = 0 then { f with settle := (v, f.settle.2) } else { f with settle := (f.settle.1, v) }
  | .number weight =>
    { f with
      number := if v then f.number ||| BitVec.twoPow 16 weight else f.number
      sending := f.sending && !(v && !f.candidate.getLsbD weight) }
  | .present seat =>
    { f with read := storeMapBit (.present seat) v f.read, driven := storeMapBit (.present seat) drove f.driven }
  | .late seat => { f with read := storeMapBit (.late seat) v f.read, driven := storeMapBit (.late seat) drove f.driven }
  | .tight seat => { f with read := storeMapBit (.tight seat) v f.read, driven := storeMapBit (.tight seat) drove f.driven }
  | .steady seat =>
    { f with read := storeMapBit (.steady seat) v f.read, driven := storeMapBit (.steady seat) drove f.driven }

/-- The census in progress is abandoned: no further bit is driven or stored, ABANDONED is raised and a period is missed (R80). A frame not
taken part in is not judged, so nothing is abandoned (R81). -/
def abandon (s : State) : State :=
  match s.census.frame with
  | none => { s with line.bitDrive := false }
  | some _ => missPeriod (raise .abandoned { s with census.frame := none, line.bitDrive := false })

/-- The census that a frame zero begins: the latch of the snapshot point, the candidate, and clear maps (R72). -/
def newFrame (s : State) : Frame where
  latch := s.outlets.map fun o => latchOf o.session
  candidate := s.census.number + 1#16
  sending := true
  settle := (false, false)
  number := 0#16
  read := .clear
  driven := .clear

/-- The frame is prepared: snapshot point with latch, and while ISLANDED the fallback recomputation (R29, R37, R67, R72). -/
def prepareFrame (s : State) : State :=
  if takesPart s then
    let t := snapshot s
    let u := { t with census.frame := some (newFrame t), census.reachedFrameZero := true }
    if u.census.participation = .islanded then recompute true u else u
  else s

/-- A frame zero cuts the window: the three consumers take the cut window end, and window 0 begins (R64). -/
def cutWindow (s : State) : State :=
  let t := outletsCutWindow (feederCutWindow s)
  { t with census.windowIndex := 0, census.windowMs := 0 }

/-- The transceiver at frame zero: FRAME, the bit grid at bit 0, the noise mark clear, and a standing start request withdrawn (R43, R47,
R55, R62). -/
def startFrame (l : Transceiver) : Transceiver :=
  { l with
    state := .frame
    recessiveCount := 0
    run := none
    startRequest := false
    frameBit := 0
    bitDrive := false
    bitHeld := false
    echoStopped := false
    noise := false }

/-- A frame zero (R47, R60, R62, R64, R67, R72, R81). In ISLANDED the window boundary and the fallback recomputation can be taken in either
order (R144); otherwise the window is cut first, as R47 lists them. -/
def frameZero (boundaryFirst : Bool) (s : State) : State :=
  let t := { s with line := startFrame s.line, census.timerMs := 2000, census.frame := none }
  if boundaryFirst || !(t.census.participation == .islanded) then prepareFrame (cutWindow t)
  else cutWindow (prepareFrame t)

/-- The majority of the bit-sample triple (R55). -/
def majority (a b c : Bool) : Bool := (a && b) || (a && c) || (b && c)

/-- The three samples do not all agree (R55). -/
def disagree (a b c : Bool) : Bool := !(a == b && b == c)

/-- The transceiver after the third sample of the frame bit: the triple and the noise mark, the drive of the bit held to its end, and the next
bit to come (R54, R55). -/
def sampleBit (a b c : Bool) (l : Transceiver) : Transceiver :=
  { l with
    triple := some (a, b, c)
    noise := l.noise || disagree a b c
    frameBit := l.frameBit + 1
    bitHeld := l.bitDrive }

/-- An echo fault in a frame (R56): `share` is released at once, the drive stops for the frame, the census is abandoned and the fault is
captured. -/
def takeEchoFault (k : Nat) (s : State) : State :=
  capture .driver none k (abandon { s with line.echoStopped := true, line.bitDrive := false, line.bitHeld := false })

/-- The drive decision for the next frame bit, driven from its start (R54, R73). -/
def decideDrive (s : State) : State :=
  { s with line.bitDrive :=
      match s.census.frame with
      | some f => !s.line.echoStopped && drivesBit s.host.straps.seatBase f s.line.frameBit
      | none => false }

/-- A bit handed over to a census in progress: a dominant settle bit abandons it, and any other bit is stored (R73, R75, R79). -/
def handBit (k : Nat) (v drove : Bool) (s : State) : State :=
  match s.census.frame with
  | none => decideDrive s
  | some f =>
    if k < 2 ∧ v then abandon { s with census.frame := some (storeBit k v drove f) }
    else decideDrive { s with census.frame := some (storeBit k v drove f) }

/-- A frame bit can be read: the line is FRAME and bit 529 has not been read (R43, R55). -/
def bitDue (s : State) : Bool := s.line.state == .frame && decide (s.line.frameBit < 530)

/-- Frame bit k is an echo fault: this part drives it and its majority is recessive (R56). -/
def echoesWrong (a b c : Bool) (s : State) : Bool := s.line.bitDrive && !majority a b c

/-- A frame bit is read at its third sample (R55): majority, noise mark, echo, and the hand-over to the Census Engine. -/
def readBit (a b c : Bool) (s : State) : State :=
  if bitDue s then
    if echoesWrong a b c s then takeEchoFault s.line.frameBit { s with line := sampleBit a b c s.line }
    else handBit s.line.frameBit (majority a b c) s.line.bitDrive { s with line := sampleBit a b c s.line }
  else s

/-- An own seat's clash bits of a census: read dominant and not driven by this part (R76). -/
structure ClashBits where
  present : Bool
  late : Bool
  tight : Bool
  steady : Bool
  deriving DecidableEq, Repr

/-- The clash bits of a seat (R76). -/
def clashBits (f : Frame) (seat : Nat) : ClashBits where
  present := f.read.present.getLsbD seat && !f.driven.present.getLsbD seat
  late := f.read.late.getLsbD seat && !f.driven.late.getLsbD seat
  tight := f.read.tight.getLsbD seat && !f.driven.tight.getLsbD seat
  steady := f.read.steady.getLsbD seat && !f.driven.steady.getLsbD seat

/-- A seat has a clash (R76). -/
def ClashBits.any (c : ClashBits) : Bool := c.present || c.late || c.tight || c.steady

/-- The frame bit number of a seat's first clashing bit (R77). -/
def firstClashBit (c : ClashBits) (seat : Nat) : Nat :=
  if c.present then 18 + seat else if c.late then 146 + seat else if c.tight then 274 + seat else 402 + seat

/-- A seat's clash count after a valid census (R77). -/
def nextClashCount (clash : Bool) (count : Nat) : Nat := if clash then min 3 (count + 1) else 0

/-- The clash counts of all own seats after a valid census (R77). -/
def countClashes (f : Frame) (s : State) : State :=
  { s with outlets := s.outlets.zipIdx.map fun on =>
      { on.1 with clashCount := nextClashCount (clashBits f (seatOf s on.2)).any on.1.clashCount } }

/-- Some own seat has a clash in the census (R76). -/
def anyClash (f : Frame) (s : State) : Bool :=
  (List.range s.outlets.length).any fun n => (clashBits f (seatOf s n)).any

/-- A seat clash fault is handed over for an outlet whose count stands at 3 after the update (R77). A VACANT outlet has no session to
fault, and a FAULTED one stays as it is. -/
def faultClash (f : Frame) (n : Nat) (s : State) : State :=
  match s.outlets[n]? with
  | none => s
  | some o =>
    if o.clashCount = 3 then
      match o.session.state with
      | .vacant => s
      | .faulted => s
      | .paused => capture .seatClash (some n) (firstClashBit (clashBits f (seatOf s n)) (seatOf s n)) (enterFaulted n .seatClash s)
      | .charging => capture .seatClash (some n) (firstClashBit (clashBits f (seatOf s n)) (seatOf s n)) (enterFaulted n .seatClash s)
      | .topped => capture .seatClash (some n) (firstClashBit (clashBits f (seatOf s n)) (seatOf s n)) (enterFaulted n .seatClash s)
      | .stalled => capture .seatClash (some n) (firstClashBit (clashBits f (seatOf s n)) (seatOf s n)) (enterFaulted n .seatClash s)
    else s

/-- Step 3 of a completion: CLASH once for the census, the counts, and the faults in ascending outlet number (R76, R77). -/
def examineClashes (f : Frame) (s : State) : State :=
  forOutlets s.outlets.length (faultClash f) (countClashes f (raiseIf (anyClash f s) .clash s))

/-- Step 4 of a completion: JOINED, with REJOINED from ISLANDED (R68). A part that is LISTENING, JOINED or ISLANDED is JOINED after it. -/
def join (s : State) : State :=
  raiseIf (s.census.participation == .islanded) .rejoined { s with census.participation := .joined }

/-- The census summary of a completion (R84), from the frame, the roster and the share records as steps 5 and 6 left them, and from
F_peak as step 6 took it. -/
def summaryOf (f : Frame) (peak : Option Nat) (s : State) : Summary where
  number := f.number
  noisy := s.line.noise
  present := s.roster.counts.present
  late := s.roster.counts.late
  tight := s.roster.counts.tight
  steady := s.roster.counts.steady
  seats := s.outlets.zipIdx.map fun on =>
    ⟨f.latch.getD on.2 ⟨false, .unbanded⟩, on.1.share.g, (clashBits f (seatOf s on.2)).any⟩
  poolRemainder := s.shares.poolRemainder.getD 0
  peak := peak
  headroom := s.host.profile.bind fun p => headroomOf p peak
  age := 0

/-- Steps 1 to 4 of a completion (R82). -/
def completeCensus (f : Frame) (s : State) : State :=
  join (examineClashes f { s with census.missed := 0, census.number := f.number, census.frame := none })

/-- Steps 5 and 6 of a completion at the roster, the Share Engine and the Feeder Watch (R82, R88, R99, R118). -/
def completeShares (f : Frame) (s : State) : State :=
  feederCompletion (shareCompletion { s with roster := updateRoster f.read s.census.number s.roster })

/-- Steps 7 and 8 of a completion: the summary and the CENSUS event (R82, R84). -/
def writeSummary (f : Frame) (peak : Option Nat) (s : State) : State :=
  raise .census { s with census.summary := some (summaryOf f peak s), census.ageMs := some 2000 }

/-- A valid census completes (R82). -/
def complete (f : Frame) (s : State) : State :=
  writeSummary f s.feeder.peak (completeShares f (completeCensus f s))

/-- A frame can end: the line is FRAME and bit 529 has been read (R43). -/
def endDue (s : State) : Bool := s.line.state == .frame && decide (530 ≤ s.line.frameBit)

/-- The transceiver at the end of frame bit 529: SETTLING with the count from 0, and `share` released; a dominant run goes on unclassifiable
(R43, R54). -/
def settleAfterFrame (l : Transceiver) : Transceiver :=
  { l with state := .settling, recessiveCount := 0, bitDrive := false, bitHeld := false }

/-- The end of frame bit 529 (R43, R79, R81, R82). -/
def endFrame (s : State) : State :=
  if endDue s then
    match s.census.frame with
    | some f => complete f { s with line := settleAfterFrame s.line }
    | none => { s with line := settleAfterFrame s.line }
  else s

/-- Full window end of the window clock (R63): the Feeder Watch takes it at its own block and the Draw Meter and the Outlet Supervisor at
theirs, in either order (R124); a hush request that has come to stand is served (R50); then the next window begins. -/
def endFullWindow (feederFirst : Bool) (s : State) : State :=
  let t := if feederFirst then outletsFullWindow (feederFullWindow s) else feederFullWindow (outletsFullWindow s)
  serve { t with census.windowIndex := (t.census.windowIndex + 1) % 8, census.windowMs := 0 }

/-- The age of the summary goes up by 1, saturating, and its timer is loaded anew (R84). -/
def ageSummary (s : State) : State :=
  match s.census.summary with
  | none => s
  | some sm =>
    { s with census.summary := some { sm with age := min (sm.age + 1) 65535 }, census.ageMs := some 2000 }

end Sys2Proof.Machine
end

