-- ==== Sys2Proof/Machine/Line.lean ====
section
/-! DEFINITION. The Share Line Transceiver (Chapter 3): runs, pulse classes, line states, the drives and their ends, STUCK and the echo
faults of a pulse. -/

namespace Sys2Proof.Machine

/-- The length of a dominant run in bit-times: its dominant samples divided by 16, rounded down (R39). -/
def runLength (samples : Nat) : Nat := samples / 16

/-- The pulse classes (R46). -/
inductive PulseClass where
  | glitch
  | start
  | malformed
  | hush
  | stuck
  deriving DecidableEq, Repr

/-- The class of a run's length (R46). -/
def classOf (length : Nat) : PulseClass :=
  if length ≤ 5 then .glitch
  else if length ≤ 11 then .start
  else if length ≤ 19 then .malformed
  else if length ≤ 40 then .hush
  else if length ≤ 599 then .malformed
  else .stuck

/-- The drive of a start pulse is in progress (R47). -/
def drivingStart (d : Drive) : Bool :=
  match d with
  | .startPulse _ => true
  | .idle => false
  | .hush => false

/-- A start pulse in progress has read dominant (R62). -/
def sawDominant (d : Drive) : Drive :=
  match d with
  | .startPulse _ => .startPulse true
  | .idle => .idle
  | .hush => .hush

/-- A dominant run begins (R39, R41, R43): `lead` is the frame bit of its leading edge if that falls in FRAME. -/
def newRun (classifiable : Bool) (lead : Option Nat) (l : Transceiver) : Transceiver :=
  { l with
    recessiveCount := 0
    run := some ⟨classifiable, lead, drivingStart l.drive, false⟩
    drive := sawDominant l.drive }

/-- A dominant sample at a transceiver that reads recessive (R40, R41, R43, R45). A run still dominant at the end of a frame goes on as an
unclassifiable run, and the line goes PULSE (R43). In PULSE, and wherever a run is in progress, there is no leading edge. -/
def leadEdge (bit : Nat) (l : Transceiver) : Transceiver :=
  match l.run with
  | none =>
    match l.state with
    | .settling => { newRun false none l with state := .pulse }
    | .free => { newRun true none l with state := .pulse }
    | .frame => newRun false (some bit) l
    | .stuck => newRun false none l
    | .pulse => newRun false none l
  | some r =>
    match l.state with
    | .settling => { l with state := .pulse, recessiveCount := 0, run := some { r with classifiable := false } }
    | .free => l
    | .frame => l
    | .stuck => l
    | .pulse => l

/-- The line goes SETTLING with recessive count 0 (R42). -/
def settleLine (l : Transceiver) : Transceiver := { l with state := .settling, recessiveCount := 0, run := none }

/-- A dominant run ends without a change of line state, in FRAME or in STUCK (R43, R45). -/
def endRun (l : Transceiver) : Transceiver := { l with recessiveCount := 0, run := none }

/-- A failed start attempt is reported to the Census Engine where this part drove a start pulse in the run (R46, R62). -/
def reportAttempt (droveStart : Bool) (s : State) : State := if droveStart then missPeriod s else s

/-- A hush-class run: this part's own hush, sent, or a hush heard (R48, R125, R126). DESIGN CHOICE (log entry 23): a run in which an echo fault cut
this part's own hush short is a hush heard as well, and drops the pending flag. -/
def handHush (r : Run) (s : State) : State :=
  if r.hushComplete then { s with feeder.hushPending := false } else hearHush s

/-- The value of a LINE_STUCK fault: the frame bit of the run's leading edge if that fell in FRAME, and 65535 otherwise (R58). -/
def stuckValue (r : Run) : Nat := r.leadBit.getD 65535

/-- The transceiver at the entry into STUCK: any drive is released (R44). -/
def enterStuck (l : Transceiver) : Transceiver :=
  { l with state := .stuck, recessiveCount := 0, drive := .idle, bitDrive := false, bitHeld := false }

/-- A dominant run reaches 600 bit-times (R44): STUCK, a census in progress abandoned, the STUCK event and the LINE_STUCK fault. -/
def goStuck (s : State) : State :=
  match s.line.run with
  | none => s
  | some r =>
    if s.line.state = .stuck then s
    else capture .lineStuck none (stuckValue r) (raise .stuck (abandon { s with line := enterStuck s.line }))

/-- The trailing edge of a run of 600 bit-times or more whose entry into STUCK was not commanded: STUCK is taken at the 600th bit-time, before
the edge, and the run then ends in STUCK (R44, R46; DEDUCED, log entry 14). -/
def endStuckRun (s : State) : State := { goStuck s with line := endRun (goStuck s).line }

/-- The trailing edge of a run in FRAME, which is measured for the stuck threshold alone (R43, R44). -/
def endFrameRun (samples : Nat) (s : State) : State :=
  if classOf (runLength samples) = .stuck then endStuckRun s else { s with line := endRun s.line }

/-- The trailing edge of a run outside FRAME and STUCK (R42, R46 to R49). The class's own action comes first, and then the hand-over of the
class of a run in which this part drove a start pulse (DESIGN CHOICE, log entry 6). -/
def endPulse (r : Run) (samples : Nat) (boundaryFirst : Bool) (s : State) : State :=
  if r.classifiable then
    match classOf (runLength samples) with
    | .start => frameZero boundaryFirst s
    | .hush => reportAttempt r.droveStart (handHush r { s with line := settleLine s.line })
    | .glitch => reportAttempt r.droveStart { s with line := settleLine s.line }
    | .malformed => reportAttempt r.droveStart { s with line := settleLine s.line }
    | .stuck => endStuckRun s
  else
    match classOf (runLength samples) with
    | .stuck => endStuckRun s
    | .start => { s with line := settleLine s.line }
    | .hush => { s with line := settleLine s.line }
    | .glitch => { s with line := settleLine s.line }
    | .malformed => { s with line := settleLine s.line }

/-- The trailing edge of a dominant run of `samples` samples (R39, R42, R43, R45, R46). Without a run in progress there is none. -/
def trailEdge (samples : Nat) (boundaryFirst : Bool) (s : State) : State :=
  match s.line.run with
  | none => s
  | some r =>
    match s.line.state with
    | .frame => endFrameRun samples s
    | .stuck => { s with line := endRun s.line }
    | .settling => endPulse r samples boundaryFirst s
    | .free => endPulse r samples boundaryFirst s
    | .pulse => endPulse r samples boundaryFirst s

/-- The recessive count reaches 12: the line goes FREE, from SETTLING or from STUCK, and a standing request is served (R41, R45, R50). -/
def reachFree (s : State) : State :=
  match s.line.run with
  | some _ => s
  | none =>
    match s.line.state with
    | .settling => serve { s with line.state := .free, line.recessiveCount := 12 }
    | .stuck => serve { s with line.state := .free, line.recessiveCount := 12 }
    | .free => s
    | .pulse => s
    | .frame => s

/-- A start pulse has been driven for its 8 bit-times: `share` is released (R52). A request that waited for the pulse to end is served where
the line is FREE (R51). -/
def endStartPulse (s : State) : State :=
  if drivingStart s.line.drive then serve { s with line.drive := .idle } else s

/-- A hush has been driven for its 30 bit-times: `share` is released, and the run in progress holds the whole drive (R48, R53). A request
that waited for the hush to end is served where the line is FREE (R51). -/
def endHush (s : State) : State :=
  if s.line.drive = .hush then
    serve { s with line.drive := .idle, line.run := s.line.run.map fun r => { r with hushComplete := true } }
  else s

/-- The hush hold-off expires, and a hush request may stand again (R53). -/
def expireHoldOff (s : State) : State :=
  if s.line.holdOffMs = 0 then s else serve { s with line.holdOffMs := 0 }

/-- An echo fault in a pulse: `share` is released, the pulse is over, and a DRIVER fault is captured. A start pulse that left no run is a failed
start attempt (R57, R58, R62). A request that waited for the pulse to end is served where the line is FREE (R51). -/
def echoPulse (s : State) : State :=
  match s.line.drive with
  | .idle => s
  | .startPulse sawRun => serve (reportAttempt (!sawRun) (capture .driver none 65534 { s with line.drive := .idle }))
  | .hush => serve (capture .driver none 65535 { s with line.drive := .idle })

end Sys2Proof.Machine
end

