-- ==== Sys2Proof/Machine/Reports.lean ====
section
/-! DEFINITION. The response bodies of the read requests (R167, R175 and the layouts of 10.8). -/

namespace Sys2Proof.Machine

/-- A flag as one bit of a byte. -/
def flagBit (b : Bool) (weight : Nat) : Nat := if b then weight else 0

/-- A laxity as sent: 0 when absent (R175). -/
def laxityField (l : Option Int) : Int := l.getD 0

/-- The opened-in census as sent: 0 when absent (R175). -/
def openedInField (c : Option CensusNumber) : Nat := (c.getD 0#16).toNat

/-- The flags byte of a session report (10.8). It gives bits 5 to 7 no meaning, and they are sent as 0 (DESIGN CHOICE, log entry 25). -/
def sessionFlags (o : Outlet) : Nat :=
  flagBit o.session.overdue 1 + flagBit o.session.laxity.isSome 2 + flagBit o.session.openedIn.isSome 4 +
  flagBit o.meter.lastAverage.isSome 8 + flagBit o.supervision.releaseDriven 16

/-- The session report of an outlet, 38 bytes and the tag (10.8). -/
def sessionReport (n : Nat) (o : Outlet) : List Byte :=
  [byteOf n, byteOf (sessionStateCode o.session.state), byteOf (sessionFaultCode o.session.faultKind), byteOf (sessionFlags o)] ++
  twoBytes o.session.need ++ twoBytes o.session.needSet ++ twoBytes o.session.departure ++ twoBytes o.session.vanMax ++
  twoBytes o.session.delivered ++ signedTwoBytes (laxityField o.session.laxity) ++ [byteOf (bandCode o.session.band)] ++
  twoBytes (openedInField o.session.openedIn) ++ twoBytes o.session.offer ++ twoBytes o.share.g ++
  [byteOf (bandCode o.share.bandUsed), byteOf (o.share.rank.getD 0)] ++ twoBytes o.share.b ++ twoBytes o.share.target ++
  twoBytes (o.meter.lastAverage.getD 0) ++ twoBytes (graceCeiling o.supervision) ++
  [byteOf o.supervision.overdrawCount, byteOf o.supervision.stallCount, byteOf o.supervision.unstallCount,
    byteOf o.supervision.releaseCount, byteOf o.session.tag.length] ++ o.session.tag

/-- The four bytes of an own seat in the census summary (10.8). -/
def seatReport (x : SeatSummary) : List Byte :=
  byteOf (latchCode x.latch) :: (twoBytes x.g ++ [byteOf (flagBit x.clash 1)])

/-- The census summary, 18 bytes and 4 for each outlet (10.8). Bits 2 to 7 of its flags byte have no meaning and are 0 (DESIGN CHOICE, log
entry 25). -/
def summaryReport (m : Summary) : List Byte :=
  twoBytes m.number.toNat ++ [byteOf (flagBit m.noisy 1 + flagBit m.peak.isSome 2)] ++
  [byteOf m.present, byteOf m.late, byteOf m.tight, byteOf m.steady] ++ twoBytes m.poolRemainder ++
  twoBytes (m.peak.getD 0) ++ signedFourBytes (m.headroom.getD 0) ++ twoBytes m.age ++ [byteOf m.seats.length] ++
  m.seats.flatMap seatReport

/-- The body of READ CENSUS: empty while the summary is absent (R85). -/
def censusReport (s : State) : List Byte :=
  match s.census.summary with
  | none => []
  | some m => summaryReport m

/-- One roster entry as one byte (10.8). -/
def entryReport (e : Entry) : Byte :=
  byteOf (entryStateCode e.state + 4 * rosterBandCode e.band + 16 * e.absence + flagBit e.multiBand 64 + flagBit e.irregular 128)

/-- The 128 roster entries in seat order (R95). -/
def rosterReport (s : State) : List Byte := s.roster.entries.map entryReport

/-- One ring entry as three bytes (10.8). Bits 5 to 7 of the first have no meaning and are 0 (DESIGN CHOICE, log entry 25). -/
def ringReport (e : RingEntry) : List Byte :=
  match e.reading with
  | .inBand f => byteOf (e.window + 8 + flagBit e.sinceCompletion 16) :: twoBytes f
  | .outOfBand sum => byteOf (e.window + flagBit e.sinceCompletion 16) :: twoBytes sum

/-- The status report, 10 bytes and 3 for each ring entry (10.8). With a strap fault the line state stays SETTLING (R38). Bits
2 to 7 of its flags byte have no meaning and are 0 (DESIGN CHOICE, log entry 25). -/
def statusReport (s : State) : List Byte :=
  [byteOf (participationCode s.census.participation), byteOf (lineStateCode s.line.state), byteOf s.host.straps.seatBase,
    byteOf s.host.straps.outlets, byteOf s.host.straps.rate,
    byteOf (flagBit (strapFault s) 1 + flagBit s.host.profile.isSome 2), byteOf s.shares.curtail,
    byteOf (senseCode s.feeder.sense), byteOf s.census.missed, byteOf s.feeder.ring.length] ++
  s.feeder.ring.flatMap ringReport

/-- The first-fault record, 8 bytes (10.8): all 0 while it is empty; an absent outlet of a filled record is 0xFF.
Bits 2 to 7 of a filled record's flags byte have no meaning and are 0 (DESIGN CHOICE, log entry 25). -/
def faultReport (s : State) : List Byte :=
  match s.host.firstFault with
  | none => List.replicate 8 0x00#8
  | some r =>
    [byteOf (1 + flagBit s.host.furtherFaults 2), byteOf (faultCode r.kind), byteOf (r.outlet.getD 255)] ++
    twoBytes r.census.toNat ++ [byteOf r.window] ++ twoBytes r.value

/-- The event set as four bytes (R169). -/
def eventReport (s : State) : List Byte := fourBytes s.host.events.toNat

end Sys2Proof.Machine
end

