-- ==== Sys2Proof/Machine/CensusEvents.lean ====
section
/-! DEFINITION. The meanings of the census rhythm's commands: the census timer, entry into ISLANDED, the seat clash fault and the summary's
age (Chapter 4). -/

namespace Sys2Proof.Machine

/-- The census timer expires (R60, R61). -/
def execCensusTimerExpiry (s : State) : Result := .next (whenRunning expireTimer s)

/-- The outlet's session goes FAULTED in the event (R9). -/
def becomesFaulted (n : Nat) (before after : State) : Bool :=
  !(sessionState before n == .faulted) && (sessionState after n == .faulted)

/-- A frame end that faults an outlet's session for its seat's clashes (R77). -/
def execSeatClashFault (outlet : Nat) (s : State) : Result :=
  .next (onLine (onlyWhere (becomesFaulted outlet) endFrame) s)

/-- The part enters ISLANDED in the event (R70). -/
def becomesIslanded (before after : State) : Bool :=
  !(before.census.participation == .islanded) && (after.census.participation == .islanded)

/-- The event that a missed period comes with (R69). -/
def missedEvent (cause : MissedBy) (s : State) : State :=
  match cause with
  | .timerExpiry => whenRunning expireTimer s
  | .runEnd samples boundaryFirst => onLine (trailEdge samples boundaryFirst) s
  | .pulseEcho => onLine echoPulse s
  | .bitRead first second third => onLine (readBit first second third) s
  | .lineStuck => onLine goStuck s

/-- The event at which the missed-period count reaches 3 and the part enters ISLANDED (R70). -/
def execIslanded (cause : MissedBy) (s : State) : Result :=
  .next (onlyWhere becomesIslanded (missedEvent cause) s)

/-- 2.000 s have passed since the summary was written or aged (R84). -/
def execSummaryAgeTick (s : State) : Result := .next (whenRunning ageSummary s)

end Sys2Proof.Machine
end

