-- ==== Sys2Proof/Machine/LineEvents.lean ====
section
/-! DEFINITION. The meanings of the share line's commands (Chapter 3) and of the bits of a frame (R55, R56, R75). -/

namespace Sys2Proof.Machine

/-- A dominant sample on a recessive line (R40, R41, R43, R45). -/
def execLeadingEdge (bit : Nat) (s : State) : Result :=
  .next (onLine (fun s => { s with line := leadEdge bit s.line }) s)

/-- The trailing edge of a dominant run (R46 to R49). -/
def execTrailingEdge (samples : Nat) (boundaryFirst : Bool) (s : State) : Result :=
  .next (onLine (trailEdge samples boundaryFirst) s)

/-- The recessive count reaches 12 (R41, R45). -/
def execLineFree (s : State) : Result := .next (onLine reachFree s)

/-- The start pulse's 8 bit-times of drive end (R52). -/
def execStartPulseEnd (s : State) : Result := .next (onLine endStartPulse s)

/-- The hush's 30 bit-times of drive end (R53). -/
def execHushDriveEnd (s : State) : Result := .next (onLine endHush s)

/-- The hush hold-off expires (R53). -/
def execHushHoldOffExpiry (s : State) : Result := .next (onLine expireHoldOff s)

/-- A dominant run reaches 600 bit-times (R44). -/
def execLineStuck (s : State) : Result := .next (onLine goStuck s)

/-- A frame bit is read at its third sample (R55, R56, R73, R75). -/
def execFrameBitRead (first second third : Bool) (s : State) : Result :=
  .next (onLine (readBit first second third) s)

/-- A frame bit read that is an echo fault (R56). -/
def execEchoFault (first second third : Bool) (s : State) : Result :=
  .next (onLine (fun s => if bitDue s && echoesWrong first second third s then readBit first second third s else s) s)

/-- A settle bit read dominant in a census in progress (R75, R80). -/
def settleBreaks (first second third : Bool) (s : State) : Bool :=
  bitDue s && decide (s.line.frameBit < 2) && s.census.frame.isSome && majority first second third

/-- A settle bit read that abandons the census (R75, R80). -/
def execSettleFault (first second third : Bool) (s : State) : Result :=
  .next (onLine (fun s => if settleBreaks first second third s then readBit first second third s else s) s)

/-- A recessive majority in a bit-time of a pulse that this part drives (R57). -/
def execEchoFaultPulse (s : State) : Result := .next (onLine echoPulse s)

/-- The end of frame bit 529 (R43, R82). -/
def execFrameEnd (s : State) : Result := .next (onLine endFrame s)

end Sys2Proof.Machine
end

