-- ==== Sys2Proof/Machine/Requests.lean ====
section
/-! DEFINITION. The meanings of the SPI commands: the requests of 10.8, an unknown request and a transaction without one. -/

namespace Sys2Proof.Machine

/-- The part after an accepted LOAD PROFILE (R66, R98, R112, R165): the profile stored and locked, the pool formed, LISTENING, and the
window in progress to be treated as cut. Every raw target in LISTENING is 0 (R141). -/
def storeProfile (p : Profile) (s : State) : State :=
  recompute false
    { s with
      host.profile := some p
      shares.pool := some (p.importLimit - p.reserve)
      census.participation := .listening
      feeder.partialWindow := true }

/-- The checks and the effect of LOAD PROFILE (R165). -/
def loadProfileRequest (body : List Byte) (s : State) : State :=
  if strapFault s then respond 0x10#8 .badValue [] s
  else if s.host.profile.isSome then respond 0x10#8 .profileLocked [] s
  else if !profileInRange (profileOf body) then respond 0x10#8 .badValue [] s
  else respond 0x10#8 .done [] (storeProfile (profileOf body) s)

/-- The answer to a session request under DONE: the outlet's session state as the request left it (R166). -/
def answerState (code : Byte) (n : Nat) (s : State) : State :=
  respond code .done [byteOf (sessionStateCode (sessionState s n))] s

/-- An outlet on which OPEN is taken: VACANT with its release output deasserted (R11). -/
def outletIsFree (o : Outlet) : Bool := o.session.state == .vacant && !o.supervision.releaseDriven

/-- The checks and the effect of OPEN (R10, R11, R166). -/
def openRequest (body : List Byte) (s : State) : State :=
  match s.host.profile with
  | none => respond 0x20#8 .noProfile [] s
  | some p =>
    match s.outlets[byteAt body 0]? with
    | none => respond 0x20#8 .noSuchOutlet [] s
    | some o =>
      if !outletIsFree o then respond 0x20#8 .outletInUse [] s
      else
        answerState 0x20#8 (byteAt body 0)
          (openSessionOn (byteAt body 0)
            (openedSession p s.census.number (wordAt body 1) (wordAt body 3) (wordAt body 5) (tagOf body)) s)

/-- The checks and the effect of AMEND (R12 to R14, R166). No session exists without a profile, so an outlet that passes the checks has one
to be amended under. -/
def amendRequest (body : List Byte) (s : State) : State :=
  match s.outlets[byteAt body 0]? with
  | none => respond 0x21#8 .noSuchOutlet [] s
  | some o =>
    if o.session.state = .vacant then respond 0x21#8 .notOpen [] s
    else if o.session.state = .faulted then respond 0x21#8 .outletFaulted [] s
    else
      match s.host.profile with
      | none => respond 0x21#8 .notOpen [] s
      | some p =>
        answerState 0x21#8 (byteAt body 0)
          (amendSessionOn p (byteAt body 0) (wordAt body 1) (wordAt body 3) (wordAt body 5) o s)

/-- The checks and the effect of CLOSE (R15, R166). -/
def closeRequest (body : List Byte) (s : State) : State :=
  match s.outlets[byteAt body 0]? with
  | none => respond 0x22#8 .noSuchOutlet [] s
  | some _ => answerState 0x22#8 (byteAt body 0) (closeSessionOn (byteAt body 0) s)

/-- READ OUTLET (R167). -/
def readOutletRequest (body : List Byte) (s : State) : State :=
  match s.outlets[byteAt body 0]? with
  | none => respond 0x30#8 .noSuchOutlet [] s
  | some o => respond 0x30#8 .done (sessionReport (byteAt body 0) o) s

/-- READ EVENTS: the set as it stood, and the named flags cleared (R169). -/
def readEventsRequest (body : List Byte) (s : State) : State :=
  respond 0x35#8 .done (eventReport s) (clearEvents (flagsOf body) s)

/-- CLEAR FAULT (R172). -/
def clearFaultRequest (s : State) : State :=
  respond 0x40#8 .done [] { s with host.firstFault := none, host.furtherFaults := false }

/-- SET MASK (R169). -/
def setMaskRequest (body : List Byte) (s : State) : State :=
  respond 0x41#8 .done [] (setAttentionMask (flagsOf body) s)

/-- A transaction that takes no request: the buffer is unchanged (R163). One in progress at reset release is over with it (R173). -/
def takeNothing (s : State) : State :=
  whenRunning (fun s => { s with host.ignoreTransaction := false }) s

/-- The rising edge of `cs_n`: what was shifted in on `mosi`, bit by bit, becomes the command that waits behind those that are waiting
(R163, R164; the queue is the model's own, log entry 15). -/
def receiveTransaction (bits : List Bool) (s : State) : State := { s with pending := s.pending ++ [transactionOfBits bits] }

/-- LOAD PROFILE (R165). -/
def execLoadProfile (shifted : List Byte) (s : State) : Result :=
  .next (takeRequest 0x10#8 (fun n => n == 22) loadProfileRequest shifted s)

/-- OPEN (R10, R11). -/
def execOpen (shifted : List Byte) (s : State) : Result :=
  .next (takeRequest 0x20#8 (fun n => decide (7 ≤ n) && decide (n ≤ 23)) openRequest shifted s)

/-- AMEND (R12 to R14). -/
def execAmend (shifted : List Byte) (s : State) : Result :=
  .next (takeRequest 0x21#8 (fun n => n == 7) amendRequest shifted s)

/-- CLOSE (R15). -/
def execClose (shifted : List Byte) (s : State) : Result :=
  .next (takeRequest 0x22#8 (fun n => n == 1) closeRequest shifted s)

/-- READ OUTLET (R167). -/
def execReadOutlet (shifted : List Byte) (s : State) : Result :=
  .next (takeRequest 0x30#8 (fun n => n == 1) readOutletRequest shifted s)

/-- READ CENSUS (R85). -/
def execReadCensus (shifted : List Byte) (s : State) : Result :=
  .next (takeRequest 0x31#8 (fun n => n == 0) (fun _ s => respond 0x31#8 .done (censusReport s) s) shifted s)

/-- READ ROSTER (R95). -/
def execReadRoster (shifted : List Byte) (s : State) : Result :=
  .next (takeRequest 0x32#8 (fun n => n == 0) (fun _ s => respond 0x32#8 .done (rosterReport s) s) shifted s)

/-- READ STATUS (R167). -/
def execReadStatus (shifted : List Byte) (s : State) : Result :=
  .next (takeRequest 0x33#8 (fun n => n == 0) (fun _ s => respond 0x33#8 .done (statusReport s) s) shifted s)

/-- READ FAULT (R172). -/
def execReadFault (shifted : List Byte) (s : State) : Result :=
  .next (takeRequest 0x34#8 (fun n => n == 0) (fun _ s => respond 0x34#8 .done (faultReport s) s) shifted s)

/-- READ EVENTS (R169). -/
def execReadEvents (shifted : List Byte) (s : State) : Result :=
  .next (takeRequest 0x35#8 (fun n => n == 4) readEventsRequest shifted s)

/-- CLEAR FAULT (R172). -/
def execClearFault (shifted : List Byte) (s : State) : Result :=
  .next (takeRequest 0x40#8 (fun n => n == 0) (fun _ s => clearFaultRequest s) shifted s)

/-- SET MASK (R169). -/
def execSetMask (shifted : List Byte) (s : State) : Result :=
  .next (takeRequest 0x41#8 (fun n => n == 4) setMaskRequest shifted s)

/-- RESTART: a full reset at the end of its transaction (R173). -/
def execRestart (shifted : List Byte) (s : State) : Result :=
  .next (takeRequest 0x5A#8 (fun n => n == 0) (fun _ s => takeReset .restart s) shifted s)

/-- A code that is not one of the requests of 10.8 is refused before its body is looked at (R164). A code of 10.8, or the null code, is not
this command's, and nothing happens. -/
def execUnknownRequest (code : Byte) (_shifted : List Byte) (s : State) : Result :=
  .next
    (if !running s then s
     else if requestCodes.contains code || code == 0x00#8 then s
     else if s.host.ignoreTransaction then { s with host.ignoreTransaction := false }
     else respond code .unknownRequest [] s)

/-- A transaction of no bytes or led by the null code takes no request (R163). Bytes led by another code are not this command's, and nothing
happens. -/
def execNullTransaction (bytes : List Byte) (s : State) : Result :=
  .next
    (match bytes with
     | [] => takeNothing s
     | code :: _ => if code = 0x00#8 then takeNothing s else s)

end Sys2Proof.Machine
end

