-- ==== Sys2Proof/Machine/OutletEvents.lean ====
section
/-! DEFINITION. The meanings of the outlets' own commands: the minute tick, the overdue flag, the draw quanta and the setpoint outputs
(Chapters 1, 8 and 9). -/

namespace Sys2Proof.Machine

/-- The minute timer expires (R17, R18). -/
def execMinuteTick (s : State) : Result := .next (whenRunning minuteTick s)

/-- The outlet's overdue flag passes from no to yes in the event (R19). -/
def becomesOverdue (n : Nat) (before after : State) : Bool := !isOverdue before n && isOverdue after n

/-- The event that can set an overdue flag (R19). -/
def overdueEvent (cause : OverdueBy) (s : State) : State :=
  match cause with
  | .minuteTick => whenRunning minuteTick s
  | .opening shifted => takeRequest 0x20#8 (fun n => decide (7 ≤ n) && decide (n ≤ 23)) openRequest shifted s
  | .amending shifted => takeRequest 0x21#8 (fun n => n == 7) amendRequest shifted s

/-- The event at which an outlet's overdue flag is set (R19). -/
def execOverdue (outlet : Nat) (cause : OverdueBy) (s : State) : Result :=
  .next (onlyWhere (becomesOverdue outlet) (overdueEvent cause) s)

/-- An outlet's integrator takes the charge its input reports, and emits a quantum where it reaches one (R147, R149). -/
def execDrawQuantum (outlet charge : Nat) (s : State) : Result := .next (whenRunning (takeCharge outlet charge) s)

/-- The charge completes an ampere-minute at the outlet: it reaches a quantum that wraps the quantum remainder (R149). -/
def completesMinute (n charge : Nat) (s : State) : Bool :=
  match s.outlets[n]? with
  | none => false
  | some o => reachesQuantum (integrate charge o.meter) && completes o.meter

/-- A quantum that completes an ampere-minute (R21, R149). -/
def execAmpMinuteCompletion (outlet charge : Nat) (s : State) : Result :=
  .next (whenRunning (fun s => if completesMinute outlet charge s then takeCharge outlet charge s else s) s)

/-- A PWM period starts (R145). -/
def execPwmPeriodStart (s : State) : Result := .next (whenRunning startPwmPeriod s)

end Sys2Proof.Machine
end

