-- ==== Sys2Proof/Machine/Resets.lean ====
section
/-! DEFINITION. The meanings of the reset commands (R173, R174). RESTART is with the requests. -/

namespace Sys2Proof.Machine

/-- The supply rises (R173). -/
def execPowerOnReset (s : State) : Result := .next (takeReset .powerOn s)

/-- A falling edge of `reset_n` (R173). -/
def execResetNLow (s : State) : Result := .next (takeReset .resetPin s)

/-- The supply falls below the detector threshold (R173). -/
def execSupplyLowReset (s : State) : Result := .next (takeReset .supplyLow s)

/-- A cause of reset is released; with the last one the part comes out of reset (R162, R173, R174). -/
def execResetRelease (cause : ResetCause) (seat : BitVec 5) (out : BitVec 2) (rate : BitVec 2) (csLow : Bool)
    (s : State) : Result :=
  .next (releaseReset cause (.sampled seat out rate) csLow s)

end Sys2Proof.Machine
end

