-- ==== Sys2Proof/Machine/WindowEvents.lean ====
section
/-! DEFINITION. The meanings of the window commands (R63, Chapters 7 and 9) and of the feeder sample. A row that names an outcome of a full
window end is the full window end, taken where it has that outcome (log entry 2). -/

namespace Sys2Proof.Machine

/-- A window that has run 250 ms ends full (R63). -/
def execFullWindowEnd (feederFirst : Bool) (s : State) : Result := .next (whenRunning (endFullWindow feederFirst) s)

/-- A full window end that takes an overload (R122). -/
def execOverload (feederFirst : Bool) (s : State) : Result :=
  .next (whenRunning (fun s => if takesOverload s then endFullWindow feederFirst s else s) s)

/-- A full window end that takes a trip (R123). -/
def execTrip (feederFirst : Bool) (s : State) : Result :=
  .next (whenRunning (fun s => if takesTrip s then endFullWindow feederFirst s else s) s)

/-- The sense state becomes LOST in the event (R120). -/
def becomesLost (before after : State) : Bool := before.feeder.sense == .valid && after.feeder.sense == .lost

/-- A full window end that enters LOST (R120). -/
def execSenseLost (feederFirst : Bool) (s : State) : Result :=
  .next (whenRunning (onlyWhere becomesLost (endFullWindow feederFirst)) s)

/-- The sense state becomes VALID in the event (R121). -/
def becomesValid (before after : State) : Bool := before.feeder.sense == .lost && after.feeder.sense == .valid

/-- A full window end that returns the sense to VALID (R121). -/
def execSenseBack (feederFirst : Bool) (s : State) : Result :=
  .next (whenRunning (onlyWhere becomesValid (endFullWindow feederFirst)) s)

/-- The outlet's session goes FAULTED in the window-end event (R9, R153). -/
def becomesOverdrawn (n : Nat) (before after : State) : Bool :=
  !(sessionState before n == .faulted) && (sessionState after n == .faulted)

/-- A full window end that faults an outlet for overdraw (R153). -/
def execOverdraw (outlet : Nat) (feederFirst : Bool) (s : State) : Result :=
  .next (whenRunning (onlyWhere (becomesOverdrawn outlet) (endFullWindow feederFirst)) s)

/-- The outlet's session goes STALLED in the event (R8). -/
def becomesStalled (n : Nat) (before after : State) : Bool :=
  !(sessionState before n == .stalled) && (sessionState after n == .stalled)

/-- A full window end that takes an outlet STALLED (R154). -/
def execStall (outlet : Nat) (feederFirst : Bool) (s : State) : Result :=
  .next (whenRunning (onlyWhere (becomesStalled outlet) (endFullWindow feederFirst)) s)

/-- The outlet's session leaves STALLED for CHARGING, or on to PAUSED, in the event (R8, R155). -/
def becomesUnstalled (n : Nat) (before after : State) : Bool :=
  sessionState before n == .stalled && inPair (sessionState after n)

/-- A full window end that takes an outlet out of STALLED (R155). -/
def execUnstall (outlet : Nat) (feederFirst : Bool) (s : State) : Result :=
  .next (whenRunning (onlyWhere (becomesUnstalled outlet) (endFullWindow feederFirst)) s)

/-- The outlet's release output is driven in the event (R156). -/
def becomesReleased (n : Nat) (before after : State) : Bool := !releaseDriven before n && releaseDriven after n

/-- A full window end that drives an outlet's release output (R156). -/
def execRelease (outlet : Nat) (feederFirst : Bool) (s : State) : Result :=
  .next (whenRunning (onlyWhere (becomesReleased outlet) (endFullWindow feederFirst)) s)

/-- A feeder sample: taken while the part holds a profile (R112). -/
def execFeederSample (code : BitVec 10) (s : State) : Result :=
  .next
    (whenRunning
      (fun s => if s.host.profile.isSome then { s with feeder := takeSample code.toNat s.feeder } else s) s)

end Sys2Proof.Machine
end

