-- ==== Sys2Proof/Machine/Dispatch.lean ====
section
/-! DEFINITION. What each command does: one arm for each row of spec/opcode_table.json. -/

namespace Sys2Proof.Machine

def exec (i : Instr) (s : State) : Host.Outcome State Fault Refusal :=
  match i with
  | .loadProfile shifted => Sys2Proof.Machine.execLoadProfile shifted s
  | .openSession shifted => Sys2Proof.Machine.execOpen shifted s
  | .amendSession shifted => Sys2Proof.Machine.execAmend shifted s
  | .closeSession shifted => Sys2Proof.Machine.execClose shifted s
  | .readOutlet shifted => Sys2Proof.Machine.execReadOutlet shifted s
  | .readCensus shifted => Sys2Proof.Machine.execReadCensus shifted s
  | .readRoster shifted => Sys2Proof.Machine.execReadRoster shifted s
  | .readStatus shifted => Sys2Proof.Machine.execReadStatus shifted s
  | .readFault shifted => Sys2Proof.Machine.execReadFault shifted s
  | .readEvents shifted => Sys2Proof.Machine.execReadEvents shifted s
  | .clearFault shifted => Sys2Proof.Machine.execClearFault shifted s
  | .setMask shifted => Sys2Proof.Machine.execSetMask shifted s
  | .restart shifted => Sys2Proof.Machine.execRestart shifted s
  | .unknownRequest code shifted => Sys2Proof.Machine.execUnknownRequest code shifted s
  | .nullTransaction bytes => Sys2Proof.Machine.execNullTransaction bytes s
  | .powerOnReset => Sys2Proof.Machine.execPowerOnReset s
  | .resetNLow => Sys2Proof.Machine.execResetNLow s
  | .supplyLowReset => Sys2Proof.Machine.execSupplyLowReset s
  | .resetRelease cause seat out rate csLow => Sys2Proof.Machine.execResetRelease cause seat out rate csLow s
  | .leadingEdge bit => Sys2Proof.Machine.execLeadingEdge bit s
  | .trailingEdge samples boundaryFirst => Sys2Proof.Machine.execTrailingEdge samples boundaryFirst s
  | .lineFree => Sys2Proof.Machine.execLineFree s
  | .startPulseEnd => Sys2Proof.Machine.execStartPulseEnd s
  | .hushDriveEnd => Sys2Proof.Machine.execHushDriveEnd s
  | .hushHoldOffExpiry => Sys2Proof.Machine.execHushHoldOffExpiry s
  | .lineStuck => Sys2Proof.Machine.execLineStuck s
  | .echoFault first second third => Sys2Proof.Machine.execEchoFault first second third s
  | .echoFaultPulse => Sys2Proof.Machine.execEchoFaultPulse s
  | .settleFault first second third => Sys2Proof.Machine.execSettleFault first second third s
  | .frameEnd => Sys2Proof.Machine.execFrameEnd s
  | .seatClashFault outlet => Sys2Proof.Machine.execSeatClashFault outlet s
  | .censusTimerExpiry => Sys2Proof.Machine.execCensusTimerExpiry s
  | .islanded cause => Sys2Proof.Machine.execIslanded cause s
  | .fullWindowEnd feederFirst => Sys2Proof.Machine.execFullWindowEnd feederFirst s
  | .overload feederFirst => Sys2Proof.Machine.execOverload feederFirst s
  | .trip feederFirst => Sys2Proof.Machine.execTrip feederFirst s
  | .senseLost feederFirst => Sys2Proof.Machine.execSenseLost feederFirst s
  | .senseBack feederFirst => Sys2Proof.Machine.execSenseBack feederFirst s
  | .overdraw outlet feederFirst => Sys2Proof.Machine.execOverdraw outlet feederFirst s
  | .stall outlet feederFirst => Sys2Proof.Machine.execStall outlet feederFirst s
  | .unstall outlet feederFirst => Sys2Proof.Machine.execUnstall outlet feederFirst s
  | .release outlet feederFirst => Sys2Proof.Machine.execRelease outlet feederFirst s
  | .minuteTick => Sys2Proof.Machine.execMinuteTick s
  | .overdue outlet cause => Sys2Proof.Machine.execOverdue outlet cause s
  | .drawQuantum outlet charge => Sys2Proof.Machine.execDrawQuantum outlet charge s
  | .ampMinuteCompletion outlet charge => Sys2Proof.Machine.execAmpMinuteCompletion outlet charge s
  | .summaryAgeTick => Sys2Proof.Machine.execSummaryAgeTick s
  | .pwmPeriodStart => Sys2Proof.Machine.execPwmPeriodStart s
  | .frameBitRead first second third => Sys2Proof.Machine.execFrameBitRead first second third s
  | .feederSample code => Sys2Proof.Machine.execFeederSample code s

end Sys2Proof.Machine
end

