-- ==== Sys2Proof/Machine/Step.lean ====
section
/-! DEFINITION. One step: the command at the front of the queue is taken with the queue's rest; on an empty queue the part idles. -/

namespace Sys2Proof.Machine

/-- Take the command at the front of the queue. With an empty queue nothing comes from outside and the state stands (DESIGN CHOICE, log
entry 3: no time passes). -/
def step (s : State) : Host.Outcome State Fault Refusal :=
  match s.pending with
  | [] => .next s
  | c :: rest => exec c { s with pending := rest }

/-- The state with the command that a word spells put at the front of the queue; the rows of the opcode table give no bits, so no word
spells one and the state stands. -/
def State.withFetchWord (s : State) (nbits w : Nat) : State :=
  match decodeTableWord nbits w with
  | some c => { s with pending := c :: s.pending }
  | none => s

end Sys2Proof.Machine
end

