-- ==== Sys2Proof/WellFormed.lean ====
section
/-! DEFINITION. Which commands the outside world can send: the ranges of the operands that the manual gives and a type does not.
The meanings are total on ill-formed commands too; well-formedness is a premise of statements, not a check of the machine. -/

namespace Sys2Proof

/-- A transaction of no bytes or led by the null code (R163). -/
def isNullTransaction (bytes : List Byte) : Bool :=
  match bytes with
  | [] => true
  | code :: _ => code == 0x00#8

/-- The bound on the charge of one DRAW_QUANTUM: one quantum, 0.025 A·s (R147). -/
def wellFormedCharge (charge : Nat) : Bool := decide (charge ≤ 25000)

/-- A part has at most four outlets (R162). -/
def wellFormedOutlet (outlet : Nat) : Bool := decide (outlet < 4)

/-- A dominant run that ends holds at least one dominant sample (R39). -/
def wellFormedRun (samples : Nat) : Bool := decide (1 ≤ samples)

/-- The operands of a command stand in the ranges the manual gives them. -/
def Instr.wellFormed : Instr → Bool
  | .unknownRequest code _ => !(requestCodes.contains code) && !(code == 0x00#8)
  | .nullTransaction bytes => isNullTransaction bytes
  | .leadingEdge bit => decide (bit < 530)
  | .trailingEdge samples _ => wellFormedRun samples
  | .islanded (.runEnd samples _) => wellFormedRun samples
  | .seatClashFault outlet => wellFormedOutlet outlet
  | .overdraw outlet _ => wellFormedOutlet outlet
  | .stall outlet _ => wellFormedOutlet outlet
  | .unstall outlet _ => wellFormedOutlet outlet
  | .release outlet _ => wellFormedOutlet outlet
  | .overdue outlet _ => wellFormedOutlet outlet
  | .drawQuantum outlet charge => wellFormedOutlet outlet && wellFormedCharge charge
  | .ampMinuteCompletion outlet charge => wellFormedOutlet outlet && wellFormedCharge charge
  | .loadProfile _ => true
  | .openSession _ => true
  | .amendSession _ => true
  | .closeSession _ => true
  | .readOutlet _ => true
  | .readCensus _ => true
  | .readRoster _ => true
  | .readStatus _ => true
  | .readFault _ => true
  | .readEvents _ => true
  | .clearFault _ => true
  | .setMask _ => true
  | .restart _ => true
  | .powerOnReset => true
  | .resetNLow => true
  | .supplyLowReset => true
  | .resetRelease _ _ _ _ _ => true
  | .lineFree => true
  | .startPulseEnd => true
  | .hushDriveEnd => true
  | .hushHoldOffExpiry => true
  | .lineStuck => true
  | .echoFault _ _ _ => true
  | .echoFaultPulse => true
  | .settleFault _ _ _ => true
  | .frameEnd => true
  | .censusTimerExpiry => true
  | .islanded _ => true
  | .fullWindowEnd _ => true
  | .overload _ => true
  | .trip _ => true
  | .senseLost _ => true
  | .senseBack _ => true
  | .minuteTick => true
  | .summaryAgeTick => true
  | .pwmPeriodStart => true
  | .frameBitRead _ _ _ => true
  | .feederSample _ => true

end Sys2Proof
end

