-- ==== Sys2Proof/Safety.lean ====
section
/-! DEFINITION. What statements are made in terms of: when the part takes a command, and the laws of the device that hold of its state. Each
law is stated for every state, with no run in it; that reset meets it and that every command keeps it are obligations. -/

namespace Sys2Proof.Machine

/-- The part is out of reset (R173). -/
def OutOfReset (s : State) : Prop := s.host.resetHeld = []

/-- The part takes the transaction that ends next: it is out of reset, and that transaction began after the release (R173). -/
def Accepting (s : State) : Prop := s.host.resetHeld = [] ∧ s.host.ignoreTransaction = false

/-- The transceiver takes samples: the part is out of reset and its rate straps are valid (R38). -/
def LineSampled (s : State) : Prop := s.host.resetHeld = [] ∧ s.host.straps.rate ≠ 3

/-- The law of a roster entry (R87): its state, band, absence count and flags go together as the table gives. -/
def EntryLaw (e : Entry) : Prop :=
  match e.state with
  | .present => e.absence = 0 ∧ e.band ≠ .absent ∧ e.irregular = false
  | .held => (e.absence = 1 ∨ e.absence = 2) ∧ e.band ≠ .absent
  | .absent => e.absence = 0 ∧ e.band = .absent ∧ e.multiBand = false

/-- The law of the roster (R87): 128 entries, each as its state has it. -/
def RosterLaw (s : State) : Prop := s.roster.entries.length = 128 ∧ ∀ e ∈ s.roster.entries, EntryLaw e

/-- The law of participation (R65, R67, R69 to R71): OFFLINE without a profile, with a missed-period count of 0 and no census taken part in,
ISLANDED where the count stands at 3, and with a frame zero reached where a census is in progress or has made the part JOINED (R37, R68). -/
def ParticipationLaw (s : State) : Prop :=
  (s.census.participation = .offline ↔ s.host.profile = none) ∧
  (s.census.participation = .islanded ↔ s.census.missed = 3) ∧
  s.census.missed ≤ 3 ∧
  (s.census.participation = .offline → s.census.missed = 0) ∧
  (s.census.frame.isSome → s.census.participation ≠ .offline) ∧
  (s.census.frame.isSome ∨ s.census.participation = .joined → s.census.reachedFrameZero = true)

/-- The law of one outlet's target and offer under a profile (R1, R3, R6, R137, R143). -/
def OfferLaw (p : Profile) (o : Outlet) : Prop :=
  (o.session.state ≠ .vacant → p.minCurrent ≤ o.session.vanMax ∧ o.session.vanMax ≤ p.seatCeiling) ∧
  (o.share.target = 0 ∨ (p.minCurrent ≤ o.share.target ∧ o.share.target ≤ o.session.vanMax)) ∧
  (o.session.offer = 0 ∨ p.minCurrent ≤ o.session.offer) ∧
  o.session.offer ≤ o.share.target ∧
  (o.session.state = .vacant ∨ o.session.state = .topped ∨ o.session.state = .faulted → o.share.target = 0) ∧
  (o.session.state = .paused → o.session.offer = 0) ∧
  (o.session.state = .charging → o.session.offer ≠ 0)

/-- The law of the post (R140, R143): under a profile every outlet's law holds and the targets, and with them the offers, keep within the
post limit; without a profile there is no session, no target and no offer. -/
def PostLaw (s : State) : Prop :=
  match s.host.profile with
  | none => ∀ o ∈ s.outlets, o.session.state = .vacant ∧ o.share.target = 0 ∧ o.session.offer = 0
  | some p =>
    profileInRange p = true ∧ (∀ o ∈ s.outlets, OfferLaw p o) ∧
    (s.outlets.map fun o => o.share.target).sum ≤ p.postLimit

/-- The law of borrow (R133). -/
def BorrowLaw (s : State) : Prop :=
  ∀ o ∈ s.outlets,
    o.share.b ≤ o.session.vanMax - o.share.g ∧
    (s.census.participation ≠ .joined → o.share.b = 0) ∧
    (s.feeder.sense = .lost → o.share.b = 0) ∧
    (0 < s.shares.curtail → o.share.b = 0) ∧
    (inPair o.session.state = false → o.share.b = 0)

/-- The law of one supervision record (R150, R156, R157): its counts stand below the ends at which they are acted on, and a driven release
output is that of a FAULTED or VACANT outlet whose release count stands at 8. -/
def SupervisionLaw (o : Outlet) : Prop :=
  o.supervision.history.length = 8 ∧
  o.supervision.overdrawCount ≤ 3 ∧
  o.supervision.stallCount ≤ 239 ∧
  o.supervision.unstallCount ≤ 3 ∧
  o.supervision.releaseCount ≤ 8 ∧
  (o.supervision.releaseDriven = true ↔ o.supervision.releaseCount = 8) ∧
  (o.supervision.releaseDriven = true → o.session.state = .vacant ∨ o.session.state = .faulted)

/-- The law of one session record with its share record (R1, R4, R7, R9, R19, R22, R104): ranges, a VACANT record cleared, need above 0 in
PAUSED, CHARGING and STALLED and 0 in TOPPED, a need within the need set, a fault kind in FAULTED alone, and the overdue flag set where
T is 0 with need left. -/
def SessionLaw (o : Outlet) : Prop :=
  o.session.needSet ≤ 65535 ∧ o.session.need ≤ o.session.needSet ∧
  o.session.departure ≤ 2047 ∧
  o.session.delivered ≤ 65535 ∧
  o.session.tag.length ≤ 16 ∧
  (∀ l, o.session.laxity = some l → -2048 ≤ l ∧ l ≤ 2047) ∧
  (o.session.state = .vacant → o.session = Session.cleared ∧ o.share = Share.cleared) ∧
  (o.session.state = .paused ∨ o.session.state = .charging ∨ o.session.state = .stalled → 0 < o.session.need) ∧
  (o.session.state = .topped → o.session.need = 0) ∧
  (o.session.faultKind.isSome ↔ o.session.state = .faulted) ∧
  (o.session.departure = 0 → 0 < o.session.need → o.session.overdue = true)

/-- The law of one outlet's meter (R147, R149). -/
def MeterLaw (o : Outlet) : Prop :=
  o.meter.charge < 25000 ∧ o.meter.windowCount ≤ 65535 ∧ o.meter.remainder < 2400

/-- The law of the share line (R40 to R44, R54): a run in PULSE and none in FREE, a census in progress in FRAME alone, a frame bit driven
for a census in progress alone, and a drive held to the end of its bit in FRAME alone. -/
def LineLaw (s : State) : Prop :=
  (s.line.state = .pulse → s.line.run ≠ none) ∧
  (s.line.state = .free → s.line.run = none) ∧
  (s.census.frame ≠ none → s.line.state = .frame) ∧
  (s.line.bitDrive = true → s.census.frame ≠ none) ∧
  (s.line.bitHeld = true → s.line.state = .frame)

/-- The law of the straps (R1, R162): 1 to 4 outlets, one record for each of them, and a seat base that is a multiple of 4 up to 124. -/
def StrapLaw (s : State) : Prop :=
  s.outlets.length = s.host.straps.outlets ∧ 1 ≤ s.host.straps.outlets ∧ s.host.straps.outlets ≤ 4 ∧
  s.host.straps.seatBase % 4 = 0 ∧ s.host.straps.seatBase ≤ 124 ∧ s.host.straps.rate ≤ 3

/-- The law of the Feeder Watch (R117, R119, R121 to R123). -/
def FeederLaw (s : State) : Prop :=
  s.feeder.ring.length ≤ 8 ∧
  s.feeder.overCount ≤ 2 ∧ s.feeder.tripCount ≤ 2 ∧
  s.feeder.outOfBandCount ≤ 1 ∧ s.feeder.inBandCount ≤ 7 ∧
  (s.feeder.sense = .lost → s.feeder.overCount = 0 ∧ s.feeder.tripCount = 0 ∧ s.feeder.outOfBandCount = 0) ∧
  s.feeder.samples ≤ 40 ∧ s.feeder.windowSum ≤ 1023 * s.feeder.samples

/-- The lines of a part in reset (R173): `share` released, every setpoint at zero duty, every release output deasserted, `attn_n`
released, `miso` at high impedance. -/
def LinesReleased (s : State) : Prop :=
  (∀ bitOver, shareDriven bitOver s = false) ∧ attentionLow s = false ∧ (∀ csLow, misoDriven csLow s = false) ∧
  ∀ n, setpointDuty s n = 0 ∧ releaseDriven s n = false

/-- Reset is taken with a cause (R25, R173): the part is held in reset by it and by every cause that held it before, its lines are released,
its profile is gone, its sessions are cleared and it is OFFLINE; the straps and the queue of commands stand. -/
def ResetTaken (cause : ResetCause) (s t : State) : Prop :=
  cause ∈ t.host.resetHeld ∧ (∀ c ∈ s.host.resetHeld, c ∈ t.host.resetHeld) ∧ LinesReleased t ∧
  t.host.profile = none ∧ (∀ o ∈ t.outlets, o.session = Session.cleared) ∧ t.census.participation = .offline ∧
  t.host.straps = s.host.straps ∧ t.pending = s.pending

/-- The raw target of an outlet as the tables of R137 to R139 give it: 0 in OFFLINE and LISTENING and for a session that is VACANT, TOPPED or
FAULTED; the probe I_min for STALLED; for PAUSED and CHARGING in JOINED the lesser of Cmax and G + B, or 0 where that is below I_min; and in
ISLANDED the fallback by the stored band and the curtail count. -/
def tableTarget (p : Profile) (part : Participation) (curtail : Nat) (o : Outlet) : Nat :=
  if part = .offline ∨ part = .listening ∨ o.session.state = .vacant ∨ o.session.state = .topped ∨ o.session.state = .faulted then 0
  else if o.session.state = .stalled then p.minCurrent
  else if part = .joined then
    if o.session.vanMax < p.minCurrent ∨ o.share.g + o.share.b < p.minCurrent then 0 else min o.session.vanMax (o.share.g + o.share.b)
  else if o.session.band = .absent ∨ o.session.band = .unbanded then 0
  else if curtail = 0 then min o.session.vanMax p.fallback
  else if o.session.band = .late then p.minCurrent
  else 0

/-- A session record after an expiry in ISLANDED (R30): its laxity and band are taken anew; before the first frame zero that the part takes
part in, only as the open value between R37 and R30, R61 and R70 has it (log entry 20). -/
def sessionAtExpiry (p : Profile) (s : State) (r : Session) : Session :=
  if s.census.reachedFrameZero = true ∨ Config.snapshotBeforeFrameZero = true then snapshotSession p.tightThreshold r else r

/-- The targets are those of the tables after the post cap (R137 to R141): the raw targets where their sum keeps within Lp. Otherwise none is
above its raw target, each is 0 or at least I_min or its raw target, none is 0 while another stands above I_min, their sum keeps within Lp, and
the cap cuts no further than by I_min below Lp. -/
def TargetsFollowTable (p : Profile) (part : Participation) (curtail : Nat) (os : List Outlet) : Prop :=
  ((os.map (tableTarget p part curtail)).sum ≤ p.postLimit → ∀ o ∈ os, o.share.target = tableTarget p part curtail o) ∧
  (∀ o ∈ os, o.share.target ≤ tableTarget p part curtail o) ∧
  (∀ o ∈ os, o.share.target = 0 ∨ min p.minCurrent (tableTarget p part curtail o) ≤ o.share.target) ∧
  (∀ o ∈ os, ∀ u ∈ os, 0 < tableTarget p part curtail o → o.share.target = 0 → u.share.target ≤ p.minCurrent) ∧
  (os.map fun o => o.share.target).sum ≤ p.postLimit ∧
  (p.postLimit < (os.map (tableTarget p part curtail)).sum →
    p.postLimit ≤ (os.map fun o => o.share.target).sum + p.minCurrent)

/-- The highest offer that one window boundary can bring (R143): from 0 at least I_min, and from a nonzero offer one step of the ramp more. -/
def rampTop (p : Profile) (offer : Nat) : Nat := if offer = 0 then max p.minCurrent p.ramp else offer + p.ramp

/-- The session's state after a ramp or a lowered offer (R6): a PAUSED or CHARGING session is PAUSED with an offer of 0 and CHARGING with
another, and any other session stands. -/
def PairFollowsOffer (o o' : Outlet) : Prop :=
  o'.session.state = (if inPair o.session.state = true then (if o'.session.offer = 0 then .paused else .charging) else o.session.state)

/-- The target that a recomputation makes for outlet n: its raw target after the post cap (R137 to R140). That the cap leaves raw targets that
keep within Lp, and in which order it cuts others, is stated of its own (PostCapCutsInOrder). -/
def cappedTarget (p : Profile) (part : Participation) (curtail : Nat) (os : List Outlet) (n : Nat) : Nat :=
  (cappedTargets p part curtail os).getD n 0

/-- No target stands above the one that a recomputation makes, so that one that may not raise a target changes none (R141). -/
def TargetsSettled (p : Profile) (s : State) : Prop :=
  ∀ x ∈ s.outlets.zipIdx, x.1.share.target ≤ cappedTarget p s.census.participation s.shares.curtail s.outlets x.2

/-- The ramp of a window boundary as R143, R142 and R6 give it: every offer goes toward its target by one step, from 0 by at least I_min; a
PAUSED session whose offer leaves 0 goes CHARGING, and a CHARGING one whose target has gone to 0 goes PAUSED; no target rises, and the
targets stand where they are settled. -/
def RampedTo (p : Profile) (s t : State) : Prop :=
  ∀ (n : Nat) (o o' : Outlet), s.outlets[n]? = some o → t.outlets[n]? = some o' →
    o'.share.target ≤ o.share.target ∧
    o'.session.offer = min o'.share.target (rampTop p o.session.offer) ∧
    PairFollowsOffer o o' ∧
    (TargetsSettled p s → o'.share.target = o.share.target)

/-- No count of the Outlet Supervisor stands at the last window before its end, so that the full window end takes no session to another state
but by the ramp and by a lowered offer (R153 to R155). -/
def QuietOutlets (s : State) : Prop :=
  ∀ o ∈ s.outlets, o.supervision.overdrawCount < 3 ∧ o.supervision.stallCount < 239 ∧ o.supervision.unstallCount < 3

/-- No count of the Feeder Watch stands at the last window before its end, so that the full window end hands over no order on borrow
(R119, R122, R123). -/
def QuietFeeder (s : State) : Prop := s.feeder.overCount = 0 ∧ s.feeder.tripCount = 0 ∧ s.feeder.outOfBandCount = 0

/-- No count of the Feeder Watch and of the Outlet Supervisor stands at the last window before its end. -/
def QuietWindow (s : State) : Prop := QuietFeeder s ∧ QuietOutlets s

/-- An outlet with its B made anew by an order on borrow (R124, R135). -/
def withBorrow (borrow : Nat → Nat) (o : Outlet) : Outlet := { o with share.b := borrow o.share.b }

/-- An order on borrow taken at a full window end, with B made of the B held by `borrow` and the curtail count left at `curtail`, as R124, R135,
R141 to R144 and R151 give it. No target rises, each is within the raw target of the table on the records as they then stand, and no offer
stands above its target. From a lawful post with settled targets, where no session changes state but with its offer, each target is the lesser
of the target held and the one that the tables and the cap give on the new B, and where these raw targets keep within Lp the one that the table
gives; each offer is ramped and stands within the new target, whichever block is taken first; and the window maximum is the offer where the
order came first, and otherwise the offer ramped toward the target held. -/
def OrderTaken (p : Profile) (feederFirst : Bool) (borrow : Nat → Nat) (curtail : Nat) (s t : State) : Prop :=
  (∀ (n : Nat) (o o' : Outlet), s.outlets[n]? = some o → t.outlets[n]? = some o' →
    o'.share.target ≤ o.share.target ∧ o'.share.target ≤ tableTarget p s.census.participation curtail o' ∧
    o'.session.offer ≤ o'.share.target) ∧
  (PostLaw s → QuietOutlets s → TargetsSettled p s →
    ∀ (n : Nat) (o o' : Outlet), s.outlets[n]? = some o → t.outlets[n]? = some o' →
      o'.share.target =
        min o.share.target (cappedTarget p s.census.participation curtail (s.outlets.map (withBorrow borrow)) n) ∧
      (((s.outlets.map (withBorrow borrow)).map (tableTarget p s.census.participation curtail)).sum ≤ p.postLimit →
        o'.share.target = min o.share.target (tableTarget p s.census.participation curtail (withBorrow borrow o))) ∧
      o'.session.offer = min o'.share.target (rampTop p o.session.offer) ∧
      PairFollowsOffer o o' ∧
      o'.supervision.windowMax =
        (if feederFirst = true then o'.session.offer else min o.share.target (rampTop p o.session.offer)))

/-- The seat share that the water-fill gives a seat by its roster entry (R103). -/
def seatShare (minCurrent : Nat) (w : WaterFill) (r : Roster) (seat : Nat) : Nat :=
  match rotationRank (r.orderOf (entryOf r seat).band) seat with
  | some rank => (w.ofBand (entryOf r seat).band).share minCurrent rank
  | none => 0

/-- The effect of a request whose body is incomplete, or of a length that the request does not allow: BAD_LENGTH and nothing else (R164). -/
def RefusedForLength (s : State) (c : Instr) (code : Byte) (shifted : List Byte) (allowed : Nat → Prop) : Prop :=
  (∀ body, requestBody shifted = some body → ¬ allowed body.length) →
    exec c s = .next { s with host.response := ⟨code, .badLength, []⟩ }

/-- An event's flag is set. -/
def Flagged (s : State) (e : Event) : Prop := isRaised e s = true

/-- The window sum of the full window that ends is judged (R112, R113): the part is out of reset, it holds the profile, and it held it when
the window began. -/
def JudgedWindow (s : State) (p : Profile) : Prop :=
  s.host.resetHeld = [] ∧ s.host.profile = some p ∧ s.feeder.partialWindow = false

/-- In the Host Link only the events and the fault record differ. -/
def SameHostBut (s t : State) : Prop :=
  t.host = { s.host with
    events := t.host.events
    firstFault := t.host.firstFault
    furtherFaults := t.host.furtherFaults }

/-- The feeder average of a window sum (R116). -/
def feederFigure (p : Profile) (sum : Nat) : Nat := (max 4080 (min sum 36840) - 4080) * p.fullScale / 32760

/-- The grace ceiling that the full window end forms for an outlet (R151). -/
def ceilingAtEnd (o : Outlet) : Nat := (o.supervision.history.drop 1 ++ [o.supervision.windowMax]).foldl max 0

/-- The kinds of fault whose record names an outlet (R171). -/
def faultNamesOutlet : FaultKind → Bool
  | .overdraw => true
  | .stuckDraw => true
  | .vacantDraw => true
  | .seatClash => true
  | .lineStuck => false
  | .driver => false
  | .senseLost => false
  | .trip => false

/-- The commands that take or release reset, or clear the first-fault record. -/
def clearsFault : Instr → Bool
  | .clearFault _ => true
  | .restart _ => true
  | .powerOnReset => true
  | .resetNLow => true
  | .supplyLowReset => true
  | .resetRelease _ _ _ _ _ => true
  | _ => false

/-- The commands that take or release reset (R173). -/
def isReset : Instr → Bool
  | .restart _ => true
  | .powerOnReset => true
  | .resetNLow => true
  | .supplyLowReset => true
  | .resetRelease _ _ _ _ _ => true
  | _ => false

/-- The commands of the share line: what its transceiver samples, drives and reads (R38). -/
def isLineCommand : Instr → Bool
  | .leadingEdge _ => true
  | .trailingEdge _ _ => true
  | .lineFree => true
  | .startPulseEnd => true
  | .hushDriveEnd => true
  | .hushHoldOffExpiry => true
  | .lineStuck => true
  | .echoFault _ _ _ => true
  | .echoFaultPulse => true
  | .settleFault _ _ _ => true
  | .frameBitRead _ _ _ => true
  | .frameEnd => true
  | .seatClashFault _ => true
  | _ => false

/-- The commands that are, or can be, a window boundary: the full window end and the rows that name an outcome of it, and a trailing edge,
which can be a frame zero (R63, R64). -/
def isBoundary : Instr → Bool
  | .fullWindowEnd _ => true
  | .overload _ => true
  | .trip _ => true
  | .senseLost _ => true
  | .senseBack _ => true
  | .overdraw _ _ => true
  | .stall _ _ => true
  | .unstall _ _ => true
  | .release _ _ => true
  | .trailingEdge _ _ => true
  | _ => false

/-- The commands that can raise the missed-period count to 3 and so take the part to ISLANDED (R69, R70). -/
def mayEnterIslanded : Instr → Bool
  | .censusTimerExpiry => true
  | .islanded _ => true
  | .trailingEdge _ _ => true
  | .frameBitRead _ _ _ => true
  | .echoFault _ _ _ => true
  | .settleFault _ _ _ => true
  | .echoFaultPulse => true
  | .lineStuck => true
  | _ => false

/-- The commands that can give a session a need or a need set: OPEN, AMEND, CLOSE and the overdue row that stands for the first two
(R10, R12, R15, R22). -/
def setsNeed : Instr → Bool
  | .openSession _ => true
  | .amendSession _ => true
  | .closeSession _ => true
  | .overdue _ (.opening _) => true
  | .overdue _ (.amending _) => true
  | _ => false

/-- The fields of an outlet's records stand within what their places in the session report can hold (R1, R104, R150, 10.8). -/
def ReportableOutlet (n : Nat) (o : Outlet) : Prop :=
  n ≤ 255 ∧ o.session.need ≤ 65535 ∧ o.session.needSet ≤ 65535 ∧ o.session.departure ≤ 65535 ∧ o.session.vanMax ≤ 65535 ∧
  o.session.delivered ≤ 65535 ∧ (∀ l, o.session.laxity = some l → -32768 ≤ l ∧ l ≤ 32767) ∧ o.session.offer ≤ 65535 ∧
  o.share.g ≤ 65535 ∧ o.share.rank.getD 0 ≤ 255 ∧ o.share.b ≤ 65535 ∧ o.share.target ≤ 65535 ∧
  o.meter.lastAverage.getD 0 ≤ 65535 ∧ (∀ e ∈ o.supervision.history, e ≤ 65535) ∧ o.supervision.overdrawCount ≤ 255 ∧
  o.supervision.stallCount ≤ 255 ∧ o.supervision.unstallCount ≤ 255 ∧ o.supervision.releaseCount ≤ 255 ∧ o.session.tag.length ≤ 16

/-- The row that names an outcome of the full window end answers a next state, and it is the one that this window end answers. -/
def WindowEndOutcome (c : Instr) (feederFirst : Bool) (s t : State) : Prop :=
  exec c s = .next t ∧ exec (.fullWindowEnd feederFirst) s = .next t

/-- No outlet with a session is faulted for clashes at the completion of a census (R77). -/
def NoClashFault (s : State) (f : Frame) : Prop :=
  ∀ (n : Nat) (o : Outlet), s.outlets[n]? = some o → o.session.state ≠ .vacant → o.session.state ≠ .faulted →
    (clashBits f (s.host.straps.seatBase + n)).any = true → o.clashCount < 2

/-- The number field read bit by bit, with what the line shows at each frame bit (R73). -/
def readNumber (line : Nat → Bool) : Nat → Frame → Frame
  | 0, f => f
  | k + 1, f => storeBit (2 + k) (line (2 + k)) (f.sending && f.candidate.getLsbD (15 - k)) (readNumber line k f)

end Sys2Proof.Machine
end

