-- ==== Sys2Proof/Certificates/Slice0/Obligations.lean ====
section
/-! DEFINITION. The statements for the provers. Each says what the manual's rules give a command, or a law of the device over every command. -/

open Sys2Proof Sys2Proof.Machine

/-- The step takes the command at the front of the queue with the queue's rest (the cut of this row), and an empty queue leaves the state as
it stands (the model's choice, log entry 3). -/
def Obligations.StepTakesFrontCommand : Prop :=
  (∀ (c : Instr) (rest : List Instr) (s : State), s.pending = c :: rest → step s = exec c { s with pending := rest }) ∧
  (∀ s : State, s.pending = [] → step s = .next s)

/-- The state after reset meets every law of the device; its strap levels are the model's choice (log entry 1). -/
def Obligations.ResetMeetsEveryLaw : Prop :=
  StrapLaw State.reset ∧ RosterLaw State.reset ∧ ParticipationLaw State.reset ∧ PostLaw State.reset ∧ BorrowLaw State.reset ∧
  LineLaw State.reset ∧ FeederLaw State.reset ∧
  ∀ o ∈ State.reset.outlets, SupervisionLaw o ∧ SessionLaw o ∧ MeterLaw o

/-- At the release of the last cause of a reset the straps are sampled and every block starts from its values after reset (R25, R59, R86,
R97, R111, R128, R146, R161, R162, R174); that the next frame bit is 0, the echo stop and the mark of a partial window are clear and no
sample is counted is the model's choice (log entry 18). The release of one cause of several leaves the part in reset (R173). -/
def Obligations.ResetReleaseStartsEveryBlock : Prop :=
  ∀ (cause : ResetCause) (seat : BitVec 5) (out rate : BitVec 2) (csLow : Bool) (s : State),
    (s.host.resetHeld = [cause] →
      ∃ t, exec (.resetRelease cause seat out rate csLow) s = .next t ∧
        t.host = ⟨⟨4 * seat.toNat, out.toNat + 1, rate.toNat⟩, none, 0#32, 0#32, none, false, ⟨0x00#8, .done, []⟩, [], csLow⟩ ∧
        t.line = ⟨.settling, 0, none, .idle, false, 0, 0, false, false, false, false, none⟩ ∧
        t.census = ⟨.offline, 2000, 0, 0, 0#16, none, 0, none, none, false⟩ ∧
        t.roster = ⟨List.replicate 128 ⟨.absent, .absent, 0, false, false⟩, ⟨0, 0, 0, 0, 0⟩, none, [], [], []⟩ ∧
        t.feeder = ⟨0, 0, false, [], none, 0, 0, .valid, 0, 0, false⟩ ∧
        t.shares = ⟨none, none, 0⟩ ∧
        t.outlets = List.replicate (out.toNat + 1)
          ⟨⟨.vacant, [], 0, 0, 0, 0, 0, false, none, .absent, none, 0, none⟩, ⟨0, .absent, none, 0, 0⟩,
            ⟨[0, 0, 0, 0, 0, 0, 0, 0], 0, 0, 0, 0, 0, false⟩, ⟨0, 0, 0, none⟩, 0, 0⟩ ∧
        t.minuteMs = 60000 ∧ t.pending = s.pending) ∧
    (∀ other ∈ s.host.resetHeld, other ≠ cause →
      ∃ t, exec (.resetRelease cause seat out rate csLow) s = .next t ∧ other ∈ t.host.resetHeld)

/-- Each cause of a reset takes the whole part into reset (R25, R173). RESTART does once it has passed the checks of R164. -/
def Obligations.ResetIsTakenWhole : Prop :=
  ∀ s : State,
    (∃ t, exec .powerOnReset s = .next t ∧ ResetTaken .powerOn s t) ∧
    (∃ t, exec .resetNLow s = .next t ∧ ResetTaken .resetPin s t) ∧
    (∃ t, exec .supplyLowReset s = .next t ∧ ResetTaken .supplyLow s t) ∧
    (∀ shifted, Accepting s → requestBody shifted = some [] →
      ∃ t, exec (.restart shifted) s = .next t ∧ ResetTaken .restart s t)

/-- While reset is held nothing but reset itself acts on the part: no transaction is taken and nothing runs (R173). -/
def Obligations.HeldResetTakesNoCommand : Prop :=
  ∀ (c : Instr) (s : State), s.host.resetHeld ≠ [] → (isReset c = false ∨ ∃ shifted, c = .restart shifted) →
    exec c s = .next s

/-- The rate straps set the bit-time: 200, 100 or 50 µs. With rate code 11, the strap fault, there is no bit-time, no sample is taken and no
command of the share line has an effect (R38, R162). -/
def Obligations.StrapFaultStopsTheLine : Prop :=
  (∀ s : State, (s.host.straps.rate = 0 → bitTimeMicros s = some 200) ∧ (s.host.straps.rate = 1 → bitTimeMicros s = some 100) ∧
    (s.host.straps.rate = 2 → bitTimeMicros s = some 50) ∧ (s.host.straps.rate = 3 → bitTimeMicros s = none)) ∧
  (∀ (c : Instr) (s : State), s.host.straps.rate = 3 → isLineCommand c = true → exec c s = .next s)

/-- A code that is no request is refused UNKNOWN_REQUEST (R164), a transaction without a request leaves the buffer as it stands (R163), and
either ends a transaction that was in progress at reset release and is ignored; a request that was in progress then is not taken, and only
ends that transaction (R173). -/
def Obligations.UnknownCodeAndNullTransaction : Prop :=
  ∀ s : State, s.host.resetHeld = [] →
    (∀ (code : Byte) (shifted : List Byte), code ≠ 0x00#8 → code ∉ requestCodes →
      exec (.unknownRequest code shifted) s =
        .next (if s.host.ignoreTransaction then { s with host.ignoreTransaction := false }
          else { s with host.response := ⟨code, .unknownRequest, []⟩ })) ∧
    (∀ bytes : List Byte, bytes = [] ∨ bytes.head? = some 0x00#8 →
      exec (.nullTransaction bytes) s = .next { s with host.ignoreTransaction := false }) ∧
    (∀ shifted : List Byte, s.host.ignoreTransaction = true →
      ∀ c ∈ [Instr.loadProfile shifted, .openSession shifted, .amendSession shifted, .closeSession shifted, .readOutlet shifted,
          .readCensus shifted, .readRoster shifted, .readStatus shifted, .readFault shifted, .readEvents shifted, .clearFault shifted,
          .setMask shifted, .restart shifted],
        exec c s = .next { s with host.ignoreTransaction := false })

/-- Every request is refused BAD_LENGTH for a body that is incomplete or of a length it does not allow (R164, 10.8). -/
def Obligations.BadLengthIsRefused : Prop :=
  ∀ (s : State) (sh : List Byte), Accepting s →
    RefusedForLength s (.loadProfile sh) 0x10#8 sh (· = 22) ∧
    RefusedForLength s (.openSession sh) 0x20#8 sh (fun n => 7 ≤ n ∧ n ≤ 23) ∧
    RefusedForLength s (.amendSession sh) 0x21#8 sh (· = 7) ∧
    RefusedForLength s (.closeSession sh) 0x22#8 sh (· = 1) ∧
    RefusedForLength s (.readOutlet sh) 0x30#8 sh (· = 1) ∧
    RefusedForLength s (.readCensus sh) 0x31#8 sh (· = 0) ∧
    RefusedForLength s (.readRoster sh) 0x32#8 sh (· = 0) ∧
    RefusedForLength s (.readStatus sh) 0x33#8 sh (· = 0) ∧
    RefusedForLength s (.readFault sh) 0x34#8 sh (· = 0) ∧
    RefusedForLength s (.readEvents sh) 0x35#8 sh (· = 4) ∧
    RefusedForLength s (.clearFault sh) 0x40#8 sh (· = 0) ∧
    RefusedForLength s (.setMask sh) 0x41#8 sh (· = 4) ∧
    RefusedForLength s (.restart sh) 0x5A#8 sh (· = 0)

/-- The bytes of a transaction and the command agree both ways, the body is found by its length with the bytes after it ignored, and the
fields of LOAD PROFILE, OPEN and AMEND are read as they are written (R163, R166, R175, 10.8). -/
def Obligations.TransactionsDecodeAsEncoded : Prop :=
  (∀ (i : Instr) (bytes : List Byte), i.wellFormed = true → encodeTransaction i = some bytes → decodeTransaction bytes = i) ∧
  (∀ bytes : List Byte, encodeTransaction (decodeTransaction bytes) = some bytes) ∧
  (∀ bytes : List Byte, (decodeTransaction bytes).wellFormed = true) ∧
  (∀ body extra : List Byte, body.length ≤ 255 → requestBody (byteOf body.length :: (body ++ extra)) = some body) ∧
  (∀ (n : Byte) (rest : List Byte), rest.length < n.toNat → requestBody (n :: rest) = none) ∧
  requestBody [] = none ∧
  (∀ p : Profile, profileInRange p = true → (profileBytes p).length = 22 ∧ profileOf (profileBytes p) = p) ∧
  (∀ (n need departure vanMax : Nat) (tag : List Byte),
    n ≤ 255 → need ≤ 65535 → departure ≤ 65535 → vanMax ≤ 65535 →
      (sessionBytes n need departure vanMax tag).length = 7 + tag.length ∧
      byteAt (sessionBytes n need departure vanMax tag) 0 = n ∧
      wordAt (sessionBytes n need departure vanMax tag) 1 = need ∧
      wordAt (sessionBytes n need departure vanMax tag) 3 = departure ∧
      wordAt (sessionBytes n need departure vanMax tag) 5 = vanMax ∧
      tagOf (sessionBytes n need departure vanMax tag) = tag)

/-- LOAD PROFILE is refused BAD_VALUE with a strap fault, PROFILE_LOCKED with a profile loaded and BAD_VALUE for a field out of its range,
in that order, and otherwise stores and locks the profile, forms the pool, takes the part to LISTENING and has the window in progress
treated as cut; nothing else changes (R66, R98, R112, R165). -/
def Obligations.LoadProfileIsChecked : Prop :=
  ∀ (s : State) (shifted body : List Byte), Accepting s → requestBody shifted = some body → body.length = 22 →
    (s.host.straps.rate = 3 → exec (.loadProfile shifted) s = .next { s with host.response := ⟨0x10#8, .badValue, []⟩ }) ∧
    (s.host.straps.rate ≠ 3 → s.host.profile ≠ none →
      exec (.loadProfile shifted) s = .next { s with host.response := ⟨0x10#8, .profileLocked, []⟩ }) ∧
    (∀ p, p = profileOf body → s.host.straps.rate ≠ 3 → s.host.profile = none →
      ¬ (100 ≤ p.importLimit ∧ p.importLimit ≤ 40000 ∧ p.reserve ≤ p.importLimit ∧ 60 ≤ p.seatCeiling ∧ p.seatCeiling ≤ 800 ∧
          p.minCurrent ≤ p.seatCeiling ∧ 10 ≤ p.minCurrent ∧ p.minCurrent ≤ 160 ∧ p.minCurrent ≤ p.postLimit ∧ p.postLimit ≤ 3200 ∧
          p.tightThreshold ≤ 1023 ∧ p.growthMargin ≤ 1000 ∧ p.tripMargin ≤ 4000 ∧
          (p.fallback = 0 ∨ p.minCurrent ≤ p.fallback ∧ p.fallback ≤ p.seatCeiling) ∧
          1000 ≤ p.fullScale ∧ p.fullScale ≤ 65000 ∧ 5 ≤ p.ramp ∧ p.ramp ≤ 100) →
      exec (.loadProfile shifted) s = .next { s with host.response := ⟨0x10#8, .badValue, []⟩ }) ∧
    (∀ p, p = profileOf body → s.host.straps.rate ≠ 3 → s.host.profile = none → PostLaw s →
      100 ≤ p.importLimit ∧ p.importLimit ≤ 40000 ∧ p.reserve ≤ p.importLimit ∧ 60 ≤ p.seatCeiling ∧ p.seatCeiling ≤ 800 ∧
          p.minCurrent ≤ p.seatCeiling ∧ 10 ≤ p.minCurrent ∧ p.minCurrent ≤ 160 ∧ p.minCurrent ≤ p.postLimit ∧ p.postLimit ≤ 3200 ∧
          p.tightThreshold ≤ 1023 ∧ p.growthMargin ≤ 1000 ∧ p.tripMargin ≤ 4000 ∧
          (p.fallback = 0 ∨ p.minCurrent ≤ p.fallback ∧ p.fallback ≤ p.seatCeiling) ∧
          1000 ≤ p.fullScale ∧ p.fullScale ≤ 65000 ∧ 5 ≤ p.ramp ∧ p.ramp ≤ 100 →
      exec (.loadProfile shifted) s =
        .next { s with
          host.profile := some p
          host.response := ⟨0x10#8, .done, []⟩
          shares.pool := some (p.importLimit - p.reserve)
          census.participation := .listening
          feeder.partialWindow := true })

/-- A profile once loaded, the pool made from it and the straps stand unchanged until the next reset (R98, R162, R165); and every command
keeps the law of the straps, with one record for each strapped outlet (R1, R162). -/
def Obligations.ProfileStandsUntilReset : Prop :=
  (∀ (c : Instr) (s t : State) (p : Profile), s.host.profile = some p → isReset c = false → exec c s = .next t →
    t.host.profile = some p ∧ t.shares.pool = s.shares.pool ∧ t.host.straps = s.host.straps) ∧
  (∀ (c : Instr) (s t : State), StrapLaw s → exec c s = .next t → StrapLaw t)

/-- OPEN is refused NO_PROFILE, NO_SUCH_OUTLET or OUTLET_IN_USE, in that order, with nothing else changed, and otherwise creates the session
record, raises OVERDUE where the session opens overdue, sets the release count to 0, is handed to the Share Engine as a session change and
answers the state (R2, R3, R10, R11, R19, R158, R166). -/
def Obligations.OpenIsTakenOrRefused : Prop :=
  ∀ (s : State) (shifted body : List Byte), Accepting s → requestBody shifted = some body → 7 ≤ body.length → body.length ≤ 23 →
    (s.host.profile = none → exec (.openSession shifted) s = .next { s with host.response := ⟨0x20#8, .noProfile, []⟩ }) ∧
    (∀ p, s.host.profile = some p → s.outlets[byteAt body 0]? = none →
      exec (.openSession shifted) s = .next { s with host.response := ⟨0x20#8, .noSuchOutlet, []⟩ }) ∧
    (∀ p o, s.host.profile = some p → s.outlets[byteAt body 0]? = some o →
      o.session.state ≠ .vacant ∨ o.supervision.releaseDriven = true →
      exec (.openSession shifted) s = .next { s with host.response := ⟨0x20#8, .outletInUse, []⟩ }) ∧
    (∀ p o r, s.host.profile = some p → s.outlets[byteAt body 0]? = some o →
      o.session.state = .vacant → o.supervision.releaseDriven = false →
      r = (⟨if wordAt body 1 = 0 then .topped else .paused, body.drop 7, wordAt body 1, wordAt body 1, min (wordAt body 3) 2047,
        max p.minCurrent (min (wordAt body 5) p.seatCeiling), 0,
        decide (wordAt body 3 = 0 ∧ 0 < wordAt body 1), none, .absent, some s.census.number, 0, none⟩ : Session) →
      ∃ t, exec (.openSession shifted) s = .next t ∧
        t = { s with
          outlets := retarget p s.census.participation s.shares.curtail false
            (s.outlets.set (byteAt body 0) { o with session := r, supervision.releaseCount := 0 })
          host.events := if r.overdue then s.host.events ||| eventFlag (.overdue (byteAt body 0)) else s.host.events
          host.response := ⟨0x20#8, .done, [byteOf (sessionStateCode r.state)]⟩ } ∧
        ∃ o', t.outlets[byteAt body 0]? = some o' ∧ o'.session = r ∧ o'.supervision = { o.supervision with releaseCount := 0 } ∧
          o'.share = { o.share with target := o'.share.target } ∧ o'.share.target ≤ o.share.target ∧ o'.meter = o.meter)

/-- AMEND is refused NO_SUCH_OUTLET, NOT_OPEN or OUTLET_FAULTED, in that order, with nothing else changed, and otherwise applies its fields,
settles the session's state from the state found and the need left, raises TOPPED and OVERDUE where they come about, and is handed to the
Share Engine as a session change (R3, R5, R7, R12 to R14, R19, R107, R133, R158, R166). -/
def Obligations.AmendIsTakenOrRefused : Prop :=
  ∀ (s : State) (shifted body : List Byte), Accepting s → requestBody shifted = some body → body.length = 7 →
    (s.outlets[byteAt body 0]? = none →
      exec (.amendSession shifted) s = .next { s with host.response := ⟨0x21#8, .noSuchOutlet, []⟩ }) ∧
    (∀ o, s.outlets[byteAt body 0]? = some o → o.session.state = .vacant →
      exec (.amendSession shifted) s = .next { s with host.response := ⟨0x21#8, .notOpen, []⟩ }) ∧
    (∀ o, s.outlets[byteAt body 0]? = some o → o.session.state = .faulted →
      exec (.amendSession shifted) s = .next { s with host.response := ⟨0x21#8, .outletFaulted, []⟩ }) ∧
    (∀ p o need departure vanMax overdue state b, s.host.profile = some p → s.outlets[byteAt body 0]? = some o →
      o.session.state ≠ .vacant → o.session.state ≠ .faulted →
      need = (if wordAt body 1 = 65535 then o.session.need else wordAt body 1) →
      departure = (if wordAt body 3 = 65535 then o.session.departure else min (wordAt body 3) 2047) →
      vanMax = (if wordAt body 5 = 65535 then o.session.vanMax else max p.minCurrent (min (wordAt body 5) p.seatCeiling)) →
      overdue = (decide (departure = 0) && (o.session.overdue || decide (0 < need))) →
      state = (if need = 0 then .topped else if o.session.state = .topped ∨ o.session.state = .stalled then .paused
        else o.session.state) →
      b = min o.share.b (vanMax - o.share.g) →
      ∃ t, exec (.amendSession shifted) s = .next t ∧
        t = { s with
          outlets := retarget p s.census.participation s.shares.curtail false
            (s.outlets.set (byteAt body 0)
              { o with
                session := ⟨state, o.session.tag, need, need, departure, vanMax, o.session.delivered, overdue, o.session.laxity,
                  o.session.band, o.session.openedIn, if state = o.session.state then o.session.offer else 0, o.session.faultKind⟩
                share := ⟨if inPair o.session.state = true ∧ state = .topped then 0 else o.share.g, o.share.bandUsed, o.share.rank,
                  if inPair o.session.state = true ∧ state = .topped then 0 else b,
                  if o.session.state ≠ .topped ∧ state = .topped then 0 else o.share.target⟩
                supervision := ⟨o.supervision.history, o.supervision.windowMax, o.supervision.overdrawCount,
                  if state = o.session.state then o.supervision.stallCount else 0,
                  if state = o.session.state then o.supervision.unstallCount else 0,
                  o.supervision.releaseCount, o.supervision.releaseDriven⟩ })
          host.events :=
            (if overdue = true ∧ o.session.overdue = false then s.host.events ||| eventFlag (.overdue (byteAt body 0))
              else s.host.events) |||
            (if o.session.state ≠ .topped ∧ state = .topped then eventFlag (.topped (byteAt body 0)) else 0#32)
          host.response := ⟨0x21#8, .done, [byteOf (sessionStateCode (sessionState t (byteAt body 0)))]⟩ })

/-- CLOSE is refused NO_SUCH_OUTLET, and is otherwise taken in every state: it clears the outlet's session, share and supervision records,
answers VACANT and raises nothing; the meter, the clash count and the first-fault record stand (R4, R15, R77, R104, R148, R150, R157). -/
def Obligations.CloseIsTakenOrRefused : Prop :=
  ∀ (s : State) (shifted body : List Byte), Accepting s → requestBody shifted = some body → body.length = 1 →
    (s.outlets[byteAt body 0]? = none →
      exec (.closeSession shifted) s = .next { s with host.response := ⟨0x22#8, .noSuchOutlet, []⟩ }) ∧
    (∀ p o o', s.host.profile = some p → s.outlets[byteAt body 0]? = some o →
      o' = { o with
        session := ⟨.vacant, [], 0, 0, 0, 0, 0, false, none, .absent, none, 0, none⟩
        share := ⟨0, .absent, none, 0, 0⟩
        supervision := ⟨[0, 0, 0, 0, 0, 0, 0, 0], 0, 0, 0, 0, 0, false⟩ } →
      ∃ t, exec (.closeSession shifted) s = .next t ∧
        t = { s with
          outlets := retarget p s.census.participation s.shares.curtail false (s.outlets.set (byteAt body 0) o')
          host.response := ⟨0x22#8, .done, [0x00#8]⟩ } ∧
        t.outlets[byteAt body 0]? = some o') ∧
    (∀ o, s.host.profile = none → s.outlets[byteAt body 0]? = some o →
      exec (.closeSession shifted) s =
        .next { s with
          outlets := s.outlets.set (byteAt body 0)
            { o with
              session := ⟨.vacant, [], 0, 0, 0, 0, 0, false, none, .absent, none, 0, none⟩
              share := ⟨0, .absent, none, 0, 0⟩
              supervision := ⟨[0, 0, 0, 0, 0, 0, 0, 0], 0, 0, 0, 0, 0, false⟩ }
          host.response := ⟨0x22#8, .done, [0x00#8]⟩ })

/-- The five read requests answer the report of the state as it stands and change nothing but the response buffer (R85, R95, R167, R172). -/
def Obligations.ReadRequestsOnlyAnswer : Prop :=
  ∀ (s : State) (shifted : List Byte), Accepting s →
    (requestBody shifted = some [] →
      exec (.readCensus shifted) s = .next { s with host.response := ⟨0x31#8, .done, censusReport s⟩ } ∧
      exec (.readRoster shifted) s = .next { s with host.response := ⟨0x32#8, .done, rosterReport s⟩ } ∧
      exec (.readStatus shifted) s = .next { s with host.response := ⟨0x33#8, .done, statusReport s⟩ } ∧
      exec (.readFault shifted) s = .next { s with host.response := ⟨0x34#8, .done, faultReport s⟩ } ∧
      (s.census.summary = none → censusReport s = [])) ∧
    (∀ (n : Byte), requestBody shifted = some [n] →
      (s.outlets[n.toNat]? = none →
        exec (.readOutlet shifted) s = .next { s with host.response := ⟨0x30#8, .noSuchOutlet, []⟩ }) ∧
      (∀ o, s.outlets[n.toNat]? = some o →
        exec (.readOutlet shifted) s = .next { s with host.response := ⟨0x30#8, .done, sessionReport n.toNat o⟩ }))

/-- The session report has every field of 10.8 at its place, with the codes of R175 and the highest entry of the grace history as the
ceiling, the history as it stands after a CLOSE too (the model's choice, log entry 21); its length is 38 and the tag's. That bits 5 to 7 of
the flags byte are 0 is the model's choice (log entry 25). -/
def Obligations.SessionReportHasItsLayout : Prop :=
  ∀ (n : Nat) (o : Outlet) (r : List Byte), ReportableOutlet n o → r = sessionReport n o →
    r.length = 38 + o.session.tag.length ∧
    byteAt r 0 = n ∧
    byteAt r 1 = (match o.session.state with
      | .vacant => 0 | .paused => 1 | .charging => 2 | .topped => 3 | .stalled => 4 | .faulted => 5) ∧
    byteAt r 2 = (match o.session.faultKind with | none => 0 | some .overdraw => 1 | some .seatClash => 4) ∧
    (byteAt r 3).testBit 0 = o.session.overdue ∧ (byteAt r 3).testBit 1 = o.session.laxity.isSome ∧
    (byteAt r 3).testBit 2 = o.session.openedIn.isSome ∧ (byteAt r 3).testBit 3 = o.meter.lastAverage.isSome ∧
    (byteAt r 3).testBit 4 = o.supervision.releaseDriven ∧ byteAt r 3 < 32 ∧
    wordAt r 4 = o.session.need ∧ wordAt r 6 = o.session.needSet ∧ wordAt r 8 = o.session.departure ∧
    wordAt r 10 = o.session.vanMax ∧ wordAt r 12 = o.session.delivered ∧
    (BitVec.ofNat 16 (wordAt r 14)).toInt = o.session.laxity.getD 0 ∧
    byteAt r 16 = (match o.session.band with | .absent => 0 | .unbanded => 1 | .late => 2 | .tight => 3 | .steady => 4) ∧
    wordAt r 17 = (o.session.openedIn.getD 0#16).toNat ∧ wordAt r 19 = o.session.offer ∧ wordAt r 21 = o.share.g ∧
    byteAt r 23 = (match o.share.bandUsed with | .absent => 0 | .unbanded => 1 | .late => 2 | .tight => 3 | .steady => 4) ∧
    byteAt r 24 = o.share.rank.getD 0 ∧ wordAt r 25 = o.share.b ∧ wordAt r 27 = o.share.target ∧
    wordAt r 29 = o.meter.lastAverage.getD 0 ∧
    (∀ e ∈ o.supervision.history, e ≤ wordAt r 31) ∧ (wordAt r 31 = 0 ∨ wordAt r 31 ∈ o.supervision.history) ∧
    byteAt r 33 = o.supervision.overdrawCount ∧ byteAt r 34 = o.supervision.stallCount ∧
    byteAt r 35 = o.supervision.unstallCount ∧ byteAt r 36 = o.supervision.releaseCount ∧
    byteAt r 37 = o.session.tag.length ∧ r.drop 38 = o.session.tag

/-- The other reports have their lengths, and every field of 10.8 at its place with the codes of R175; each event has its flag (10.8); a
response is shifted out as its code, its status, its body length and its body, and 0xFF after that, and the bits shifted in make bytes, most
significant bit first both ways, with a byte cut off discarded (R163; the queue that the transaction's command joins is the model's, log
entry 15). That the bits of the flags bytes and of a ring entry's first byte that 10.8 gives no meaning are 0 is the model's choice (log
entry 25). -/
def Obligations.ReportsHaveTheirLayouts : Prop :=
  (∀ (s : State) (r : List Byte), r = statusReport s → s.host.straps.seatBase ≤ 255 → s.host.straps.outlets ≤ 255 →
    s.host.straps.rate ≤ 3 → s.shares.curtail ≤ 255 → s.census.missed ≤ 255 → s.feeder.ring.length ≤ 8 →
    r.length = 10 + 3 * s.feeder.ring.length ∧
    byteAt r 0 = (match s.census.participation with | .offline => 0 | .listening => 1 | .joined => 2 | .islanded => 3) ∧
    byteAt r 1 = (match s.line.state with | .settling => 0 | .free => 1 | .pulse => 2 | .frame => 3 | .stuck => 4) ∧
    byteAt r 2 = s.host.straps.seatBase ∧ byteAt r 3 = s.host.straps.outlets ∧ byteAt r 4 = s.host.straps.rate ∧
    byteAt r 5 = (if s.host.straps.rate = 3 then 1 else 0) + (if s.host.profile = none then 0 else 2) ∧
    byteAt r 6 = s.shares.curtail ∧ byteAt r 7 = (match s.feeder.sense with | .valid => 0 | .lost => 1) ∧
    byteAt r 8 = s.census.missed ∧ byteAt r 9 = s.feeder.ring.length ∧
    ∀ (i : Nat) (e : RingEntry), s.feeder.ring[i]? = some e → e.window ≤ 7 →
      byteAt r (10 + 3 * i) % 8 = e.window ∧ (byteAt r (10 + 3 * i)).testBit 4 = e.sinceCompletion ∧ byteAt r (10 + 3 * i) < 32 ∧
      (∀ f, e.reading = .inBand f → f ≤ 65535 → (byteAt r (10 + 3 * i)).testBit 3 = true ∧ wordAt r (11 + 3 * i) = f) ∧
      (∀ sum, e.reading = .outOfBand sum → sum ≤ 65535 → (byteAt r (10 + 3 * i)).testBit 3 = false ∧ wordAt r (11 + 3 * i) = sum)) ∧
  (∀ (m : Summary) (r : List Byte), r = summaryReport m → m.seats.length ≤ 4 → m.present ≤ 255 → m.late ≤ 255 → m.tight ≤ 255 →
    m.steady ≤ 255 → m.poolRemainder ≤ 65535 → m.age ≤ 65535 → (∀ k, m.peak = some k → k ≤ 65535) →
    (∀ h, m.headroom = some h → -2147483648 ≤ h ∧ h ≤ 2147483647) →
    r.length = 18 + 4 * m.seats.length ∧ wordAt r 0 = m.number.toNat ∧
    (byteAt r 2).testBit 0 = m.noisy ∧ (byteAt r 2).testBit 1 = m.peak.isSome ∧ byteAt r 2 < 4 ∧
    byteAt r 3 = m.present ∧ byteAt r 4 = m.late ∧ byteAt r 5 = m.tight ∧ byteAt r 6 = m.steady ∧
    wordAt r 7 = m.poolRemainder ∧ wordAt r 9 = m.peak.getD 0 ∧
    (BitVec.ofNat 32 (wordAt r 11 * 65536 + wordAt r 13)).toInt = m.headroom.getD 0 ∧ wordAt r 15 = m.age ∧
    byteAt r 17 = m.seats.length ∧
    ∀ (i : Nat) (x : SeatSummary), m.seats[i]? = some x → x.g ≤ 65535 →
      byteAt r (18 + 4 * i) = (if x.latch.present = false then 0
        else match x.latch.band with | .absent => 1 | .unbanded => 1 | .late => 2 | .tight => 3 | .steady => 4) ∧
      wordAt r (19 + 4 * i) = x.g ∧ byteAt r (21 + 4 * i) = (if x.clash then 1 else 0)) ∧
  (∀ s : State, RosterLaw s → (rosterReport s).length = 128 ∧
    ∀ (seat : Nat) (e : Entry), s.roster.entries[seat]? = some e →
      byteAt (rosterReport s) seat % 4 = (match e.state with | .absent => 0 | .present => 1 | .held => 2) ∧
      byteAt (rosterReport s) seat / 4 % 4 =
        (match e.band with | .absent => 0 | .unbanded => 0 | .late => 1 | .tight => 2 | .steady => 3) ∧
      byteAt (rosterReport s) seat / 16 % 4 = e.absence ∧ (byteAt (rosterReport s) seat).testBit 6 = e.multiBand ∧
      (byteAt (rosterReport s) seat).testBit 7 = e.irregular) ∧
  (∀ s : State, s.host.firstFault = none → faultReport s = List.replicate 8 0x00#8) ∧
  (∀ (s : State) (r : FaultRecord), s.host.firstFault = some r → (∀ n, r.outlet = some n → n ≤ 3) → r.window ≤ 7 → r.value ≤ 65535 →
    (faultReport s).length = 8 ∧ byteAt (faultReport s) 0 = (if s.host.furtherFaults then 3 else 1) ∧
    byteAt (faultReport s) 1 = (match r.kind with
      | .overdraw => 1 | .stuckDraw => 2 | .vacantDraw => 3 | .seatClash => 4 | .lineStuck => 5 | .driver => 6 | .senseLost => 7
      | .trip => 8) ∧
    byteAt (faultReport s) 2 = r.outlet.getD 255 ∧
    wordAt (faultReport s) 3 = r.census.toNat ∧ byteAt (faultReport s) 5 = r.window ∧ wordAt (faultReport s) 6 = r.value) ∧
  (∀ (s : State) (n i : Nat) (e : Event), n < 4 →
    [Event.census, .abandoned, .islanded, .rejoined, .stuck, .clash, .overload, .trip, .hush, .senseLost, .senseBack][i]? = some e ∨
      (11 + 5 * n ≤ i ∧ [Event.topped n, .overdue n, .stalled n, .faulted n, .release n][i - (11 + 5 * n)]? = some e) →
    raise e s = { s with host.events := s.host.events ||| BitVec.twoPow 32 i } ∧ isRaised e s = s.host.events.getLsbD i) ∧
  (∀ (s : State) (i : Nat), misoByte s 0 = s.host.response.code ∧
    (misoByte s 1).toNat = (match s.host.response.status with
      | .done => 0 | .unknownRequest => 1 | .badLength => 2 | .noProfile => 3 | .profileLocked => 4 | .badValue => 5
      | .noSuchOutlet => 6 | .outletInUse => 7 | .notOpen => 8 | .outletFaulted => 9) ∧
    misoByte s 2 = BitVec.ofNat 8 s.host.response.body.length ∧
    (∀ b, s.host.response.body[i]? = some b → misoByte s (3 + i) = b) ∧
    (3 + s.host.response.body.length ≤ i → misoByte s i = 0xFF#8) ∧
    (∀ k, k < 8 → misoBit s (8 * i + k) = (misoByte s i).getLsbD (7 - k))) ∧
  (∀ (bytes : List Byte) (cut : List Bool) (s : State), cut.length < 8 →
    receiveTransaction ((bytes.flatMap fun b => (List.range 8).map fun k => b.getLsbD (7 - k)) ++ cut) s =
      { s with pending := s.pending ++ [decodeTransaction bytes] })

/-- READ EVENTS answers the set as it stood and clears the named flags, SET MASK replaces the mask with its bit 31 stored as 0, nothing else
changes (R169), and `attn_n` is low while a flag is both set and masked, out of reset (R170). -/
def Obligations.EventsMaskAndAttention : Prop :=
  (∀ (s : State) (shifted : List Byte) (flags : EventSet), Accepting s → requestBody shifted = some (fourBytes flags.toNat) →
    exec (.readEvents shifted) s =
      .next { s with
        host.events := s.host.events &&& ~~~flags
        host.response := ⟨0x35#8, .done, fourBytes s.host.events.toNat⟩ } ∧
    exec (.setMask shifted) s =
      .next { s with host.mask := flags &&& 0x7FFFFFFF#32, host.response := ⟨0x41#8, .done, []⟩ }) ∧
  (∀ s : State, attentionLow s = true ↔
    s.host.resetHeld = [] ∧ ∃ i < 32, s.host.events.getLsbD i = true ∧ s.host.mask.getLsbD i = true)

/-- A capture fills an empty first-fault record and sets the further-faults flag of a filled one; CLEAR FAULT empties it and changes nothing
else; once filled, the record keeps its content under every other command but reset; and it names an outlet for the faults of one outlet
alone (R171, R172). -/
def Obligations.FirstFaultIsKept : Prop :=
  (∀ (kind : FaultKind) (outlet : Option Nat) (value : Nat) (s : State), s.host.firstFault = none →
    capture kind outlet value s =
      { s with host.firstFault := some ⟨kind, outlet, s.census.number, s.census.windowIndex, value⟩ }) ∧
  (∀ (kind : FaultKind) (outlet : Option Nat) (value : Nat) (s : State), s.host.firstFault ≠ none →
    capture kind outlet value s = { s with host.furtherFaults := true }) ∧
  (∀ (s : State) (shifted : List Byte), Accepting s → requestBody shifted = some [] →
    exec (.clearFault shifted) s =
      .next { s with host.firstFault := none, host.furtherFaults := false, host.response := ⟨0x40#8, .done, []⟩ }) ∧
  (∀ (c : Instr) (s t : State) (r : FaultRecord), s.host.firstFault = some r → clearsFault c = false → exec c s = .next t →
    t.host.firstFault = some r ∧ (s.host.furtherFaults = true → t.host.furtherFaults = true)) ∧
  (∀ (c : Instr) (s t : State), (∀ r, s.host.firstFault = some r → r.outlet.isSome = faultNamesOutlet r.kind) → exec c s = .next t →
    ∀ r, t.host.firstFault = some r → r.outlet.isSome = faultNamesOutlet r.kind)

/-- A minute tick takes 1 from the departure of every session that is not VACANT and has T above 0, and changes no other field but the
overdue flag; the flag passes to yes, with its OVERDUE event, where T goes from 1 to 0 with need left (R17 to R19). -/
def Obligations.MinuteTickCountsDown : Prop :=
  ∀ s : State, s.host.resetHeld = [] →
    ∃ t, exec .minuteTick s = .next t ∧
      t = { s with minuteMs := 60000, outlets := t.outlets, host.events := t.host.events } ∧
      t.outlets.length = s.outlets.length ∧
      (∀ (n : Nat) (o : Outlet), s.outlets[n]? = some o →
        t.outlets[n]? =
          some (if o.session.state ≠ .vacant ∧ 0 < o.session.departure then
              { o with
                session.departure := o.session.departure - 1
                session.overdue := o.session.overdue || decide (o.session.departure = 1 ∧ 0 < o.session.need) }
            else o)) ∧
      (∀ i < 32, t.host.events.getLsbD i = true ↔
        s.host.events.getLsbD i = true ∨
        ∃ (n : Nat) (o : Outlet), s.outlets[n]? = some o ∧ o.session.state ≠ .vacant ∧ o.session.departure = 1 ∧ 0 < o.session.need ∧
          o.session.overdue = false ∧ i = 12 + 5 * n)

/-- The overdue row is the event that sets the flag: a minute tick that takes T from 1 to 0 with need left, or an OPEN or an AMEND that
leaves T at 0 with need; it sets the flag and raises OVERDUE, and with the flag set already nothing happens (R19; the form of the row is the
model's choice, log entry 2). -/
def Obligations.OverdueIsSetOnce : Prop :=
  ∀ (s : State) (n : Nat) (o : Outlet), s.outlets[n]? = some o → n < 4 →
    (s.host.resetHeld = [] → o.session.state ≠ .vacant → o.session.departure = 1 → 0 < o.session.need → o.session.overdue = false →
      exec (.overdue n .minuteTick) s = exec .minuteTick s ∧
      ∃ t, exec (.overdue n .minuteTick) s = .next t ∧ isOverdue t n = true ∧ Flagged t (.overdue n)) ∧
    (∀ p need vanMax tag, Accepting s → s.host.profile = some p → o.session.state = .vacant → o.session.overdue = false →
      o.supervision.releaseDriven = false → 0 < need → need ≤ 65535 → vanMax ≤ 65535 → tag.length ≤ 16 →
      exec (.overdue n (.opening (withLength (sessionBytes n need 0 vanMax tag)))) s =
        exec (.openSession (withLength (sessionBytes n need 0 vanMax tag))) s ∧
      ∃ t, exec (.overdue n (.opening (withLength (sessionBytes n need 0 vanMax tag)))) s = .next t ∧
        isOverdue t n = true ∧ Flagged t (.overdue n)) ∧
    (∀ p need vanMax, Accepting s → s.host.profile = some p → o.session.state ≠ .vacant → o.session.state ≠ .faulted →
      o.session.overdue = false → 0 < need → need < 65535 → vanMax ≤ 65535 →
      exec (.overdue n (.amending (withLength (sessionBytes n need 0 vanMax [])))) s =
        exec (.amendSession (withLength (sessionBytes n need 0 vanMax []))) s ∧
      ∃ t, exec (.overdue n (.amending (withLength (sessionBytes n need 0 vanMax [])))) s = .next t ∧
        isOverdue t n = true ∧ Flagged t (.overdue n)) ∧
    (∀ cause, o.session.overdue = true → exec (.overdue n cause) s = .next s)

/-- The charge an outlet's input reports is conserved: it goes into quanta of 25000 µA·s and what is left stays in the integrator, every
quantum counts in the window count and in the quantum remainder, the remainder wraps at 2400, and short of that nothing but the meter
changes; another outlet's meter never does (R147, R149). -/
def Obligations.DrawQuantumConservesCharge : Prop :=
  ∀ (s : State) (n charge quanta : Nat) (o : Outlet), s.host.resetHeld = [] → s.outlets[n]? = some o → MeterLaw o → charge ≤ 25000 →
    quanta = (o.meter.charge + charge) / 25000 →
    ∃ t, exec (.drawQuantum n charge) s = .next t ∧
      (∀ o', t.outlets[n]? = some o' →
        o'.meter = ⟨(o.meter.charge + charge) % 25000, min (o.meter.windowCount + quanta) 65535, (o.meter.remainder + quanta) % 2400,
          o.meter.lastAverage⟩) ∧
      t.outlets.length = s.outlets.length ∧
      (∀ (m : Nat) (u u' : Outlet), m ≠ n → s.outlets[m]? = some u → t.outlets[m]? = some u' → u'.meter = u.meter) ∧
      (o.meter.remainder + quanta < 2400 →
        t = { s with outlets := (s.outlets.set n
          { o with meter := ⟨(o.meter.charge + charge) % 25000, min (o.meter.windowCount + quanta) 65535, o.meter.remainder + quanta,
            o.meter.lastAverage⟩ }) })

/-- The quantum that wraps the remainder completes an ampere-minute, which acts by the state it finds; where it takes the last of the need
the session goes TOPPED in the same event, with its event and the handover to the Share Engine. A charge that completes none is no such
event (R5, R7, R21, R107, R158; the form of the row is the model's choice, log entry 2). -/
def Obligations.AmpMinuteCompletionByState : Prop :=
  ∀ (s : State) (n charge : Nat) (o : Outlet) (m : Meter) (one : Outlet), s.host.resetHeld = [] → s.outlets[n]? = some o →
    m = ⟨o.meter.charge + charge - 25000, min (o.meter.windowCount + 1) 65535, 0, o.meter.lastAverage⟩ →
    (25000 ≤ o.meter.charge + charge → 2399 ≤ o.meter.remainder →
      exec (.ampMinuteCompletion n charge) s = exec (.drawQuantum n charge) s ∧
      (o.session.state = .vacant →
        exec (.ampMinuteCompletion n charge) s = .next { s with outlets := s.outlets.set n { o with meter := m } }) ∧
      (o.session.state = .topped →
        exec (.ampMinuteCompletion n charge) s = .next { s with outlets := (s.outlets.set n
          { o with meter := m, session.delivered := min (o.session.delivered + 1) 65535 }) }) ∧
      (one = { o with
          meter := m
          session.need := o.session.need - 1
          session.delivered := min (o.session.delivered + 1) 65535 } →
        o.session.state = .faulted ∨ (o.session.state ≠ .vacant ∧ o.session.state ≠ .topped ∧ 1 < o.session.need) →
        exec (.ampMinuteCompletion n charge) s = .next { s with outlets := s.outlets.set n one }) ∧
      (∀ p, s.host.profile = some p →
        o.session.state = .paused ∨ o.session.state = .charging ∨ o.session.state = .stalled → o.session.need = 1 →
        one = { o with
          meter := m
          session.need := 0
          session.delivered := min (o.session.delivered + 1) 65535
          session.state := .topped
          session.offer := 0
          share := ⟨if o.session.state = .stalled then o.share.g else 0, o.share.bandUsed, o.share.rank,
            if o.session.state = .stalled then o.share.b else 0, 0⟩
          supervision.stallCount := 0
          supervision.unstallCount := 0 } →
        exec (.ampMinuteCompletion n charge) s =
          .next { s with
            outlets := retarget p s.census.participation s.shares.curtail false (s.outlets.set n one)
            host.events := s.host.events ||| eventFlag (.topped n) })) ∧
    (o.meter.charge + charge < 25000 ∨ o.meter.remainder < 2399 → exec (.ampMinuteCompletion n charge) s = .next s)

/-- Under every command but OPEN, AMEND, CLOSE and reset, a session's need set, tag, opened-in census and van max stand; its need and its
delivered count move together, by one ampere-minute at a draw of its own outlet, and a need of 0 stays 0 (R2, R21, R22). -/
def Obligations.NeedIsConserved : Prop :=
  ∀ (c : Instr) (s t : State) (n : Nat) (o o' : Outlet), isReset c = false → setsNeed c = false → exec c s = .next t →
    s.outlets[n]? = some o → t.outlets[n]? = some o' →
    o'.session.needSet = o.session.needSet ∧ o'.session.tag = o.session.tag ∧ o'.session.openedIn = o.session.openedIn ∧
    o'.session.vanMax = o.session.vanMax ∧
    ((o'.session.need = o.session.need ∧ o'.session.delivered = o.session.delivered) ∨
      (∃ charge, (c = .drawQuantum n charge ∨ c = .ampMinuteCompletion n charge) ∧
        o'.session.delivered = min (o.session.delivered + 1) 65535 ∧
        (o'.session.need + 1 = o.session.need ∨
          (o.session.need = 0 ∨ o.session.state = .topped) ∧ o'.session.need = o.session.need)))

/-- A full window end takes the window clock to the next index, hands each outlet's count over as its last average, enters the window
maximum in the grace history, and clears the feeder's sum; a judged window adds one ring entry and its in-band average joins the peak, and
any other leaves ring, peak, counts and sense as they stood. Where no count reaches its end, every offer takes one step of the ramp and a
PAUSED session whose offer leaves 0 goes CHARGING. The window maximum starts again from the offer in force and follows the ramp. The line
stands but where a request can be served. Records that no rule of the window names stand (R6, R50, R63, R112, R113, R115 to R118, R142,
R143, R148, R151). That a window is judged by its sum however many samples were taken in it is the model's choice (log entry 13). -/
def Obligations.FullWindowEndMovesEveryConsumer : Prop :=
  ∀ (s : State) (feederFirst : Bool), s.host.resetHeld = [] →
    ∃ t, exec (.fullWindowEnd feederFirst) s = .next t ∧
      t.census = { s.census with windowIndex := (s.census.windowIndex + 1) % 8, windowMs := 0 } ∧
      t.roster = s.roster ∧ t.minuteMs = s.minuteMs ∧ t.pending = s.pending ∧ SameHostBut s t ∧
      t.line = { s.line with drive := t.line.drive, holdOffMs := t.line.holdOffMs, startRequest := t.line.startRequest } ∧
      (s.line.state ≠ .free ∨ s.line.drive ≠ .idle ∨
          ((t.feeder.hushPending = false ∨ s.line.holdOffMs ≠ 0) ∧ s.line.startRequest = false) → t.line = s.line) ∧
      t.shares = { s.shares with curtail := t.shares.curtail } ∧
      t.feeder.windowSum = 0 ∧ t.feeder.samples = 0 ∧ t.feeder.partialWindow = false ∧
      t.outlets.length = s.outlets.length ∧
      (∀ (n : Nat) (o o' : Outlet), s.outlets[n]? = some o → t.outlets[n]? = some o' →
        o'.meter = ⟨o.meter.charge, 0, o.meter.remainder, some o.meter.windowCount⟩ ∧
        o'.supervision.history = o.supervision.history.drop 1 ++ [o.supervision.windowMax] ∧
        o'.session.offer ≤ o'.supervision.windowMax ∧
        (∀ p, s.host.profile = some p →
          o'.supervision.windowMax ≤ max o.session.offer (min o.share.target (rampTop p o.session.offer))) ∧
        (s.host.profile = none → o'.supervision.windowMax = o.session.offer) ∧
        o'.setpointDuty = o.setpointDuty ∧ o'.clashCount = o.clashCount ∧
        o'.session = { o.session with
          state := o'.session.state, offer := o'.session.offer, faultKind := o'.session.faultKind } ∧
        o'.share = { o.share with g := o'.share.g, b := o'.share.b, target := o'.share.target }) ∧
      (∀ p r, JudgedWindow s p →
        r = (if 2040 ≤ s.feeder.windowSum ∧ s.feeder.windowSum ≤ 38880 then Reading.inBand (feederFigure p s.feeder.windowSum)
          else Reading.outOfBand s.feeder.windowSum) →
        t.feeder.ring = (if s.feeder.ring.length < 8 then s.feeder.ring else s.feeder.ring.drop 1) ++
          [⟨s.census.windowIndex, r, true⟩] ∧
        t.feeder.peak = (match r, s.feeder.peak with
          | .inBand f, none => some f
          | .inBand f, some k => some (max k f)
          | .outOfBand _, k => k)) ∧
      (s.host.profile = none ∨ s.feeder.partialWindow = true →
        t.feeder = { s.feeder with windowSum := 0, samples := 0, partialWindow := false } ∧ t.shares = s.shares) ∧
      (∀ p, s.host.profile = some p → PostLaw s → QuietWindow s → RampedTo p s t ∧
        (TargetsSettled p s → ∀ o' ∈ t.outlets, o'.supervision.windowMax = o'.session.offer))

/-- The second consecutive out-of-band window takes the sense LOST, with B at 0 everywhere and the targets and offers lowered with it, the
limit counts at 0, the event and the fault; the eighth in-band window in LOST takes it back to VALID with its event and no borrow; short of
these the out-of-band count goes up by 1 or back to 0 in VALID, and the in-band count in LOST (R119 to R121, R124, R135, R141, R142). The
form of the rows is the model's choice (log entry 2), and so is that a window is judged by its sum however many samples were taken in it
(log entry 13). -/
def Obligations.SenseIsLostAndRegained : Prop :=
  ∀ (s : State) (p : Profile) (feederFirst : Bool), JudgedWindow s p →
    (s.feeder.sense = .valid → s.feeder.outOfBandCount = 1 → s.feeder.windowSum < 2040 ∨ 38880 < s.feeder.windowSum →
      ∃ t, WindowEndOutcome (.senseLost feederFirst) feederFirst s t ∧ t.feeder.sense = .lost ∧ t.feeder.outOfBandCount = 0 ∧
        t.feeder.inBandCount = 0 ∧ t.feeder.overCount = 0 ∧ t.feeder.tripCount = 0 ∧ t.feeder.hushPending = s.feeder.hushPending ∧
        (∀ o ∈ t.outlets, o.share.b = 0) ∧ OrderTaken p feederFirst (fun _ => 0) s.shares.curtail s t ∧
        Flagged t .senseLost ∧ t.host.firstFault ≠ none ∧
        (s.host.firstFault = none → feederFirst = true →
          t.host.firstFault = some ⟨.senseLost, none, s.census.number, s.census.windowIndex, s.feeder.windowSum⟩)) ∧
    (s.feeder.sense = .lost → s.feeder.inBandCount = 7 → 2040 ≤ s.feeder.windowSum → s.feeder.windowSum ≤ 38880 →
      ∃ t, WindowEndOutcome (.senseBack feederFirst) feederFirst s t ∧ t.feeder.sense = .valid ∧ t.feeder.outOfBandCount = 0 ∧
        t.feeder.inBandCount = 0 ∧ t.feeder.overCount = s.feeder.overCount ∧ t.feeder.tripCount = s.feeder.tripCount ∧
        Flagged t .senseBack ∧
        ∀ (n : Nat) (o o' : Outlet), s.outlets[n]? = some o → t.outlets[n]? = some o' → o'.share.b ≤ o.share.b) ∧
    (s.feeder.sense = .valid → s.feeder.outOfBandCount = 0 → s.feeder.windowSum < 2040 ∨ 38880 < s.feeder.windowSum →
      ∃ t, exec (.fullWindowEnd feederFirst) s = .next t ∧ t.feeder.sense = .valid ∧ t.feeder.outOfBandCount = 1 ∧
        t.feeder.overCount = s.feeder.overCount ∧ t.feeder.tripCount = s.feeder.tripCount ∧
        isRaised .senseLost t = isRaised .senseLost s) ∧
    (s.feeder.sense = .valid → 2040 ≤ s.feeder.windowSum → s.feeder.windowSum ≤ 38880 →
      ∃ t, exec (.fullWindowEnd feederFirst) s = .next t ∧ t.feeder.sense = .valid ∧ t.feeder.outOfBandCount = 0) ∧
    (s.feeder.sense = .lost → s.feeder.inBandCount < 7 ∨ s.feeder.windowSum < 2040 ∨ 38880 < s.feeder.windowSum →
      exec (.senseBack feederFirst) s = .next s ∧
      ∃ t, exec (.fullWindowEnd feederFirst) s = .next t ∧ t.feeder.sense = .lost ∧
        t.feeder.inBandCount =
          (if 2040 ≤ s.feeder.windowSum ∧ s.feeder.windowSum ≤ 38880 then s.feeder.inBandCount + 1 else 0) ∧
        t.feeder.overCount = s.feeder.overCount ∧ t.feeder.tripCount = s.feeder.tripCount ∧
        isRaised .senseBack t = isRaised .senseBack s) ∧
    (s.feeder.sense = .valid → s.feeder.outOfBandCount = 0 → exec (.senseLost feederFirst) s = .next s) ∧
    (s.feeder.sense = .lost → s.feeder.inBandCount < 7 → exec (.senseBack feederFirst) s = .next s)

/-- A window above L with the over count at 1 or 2 is an overload: the count stands at 2, every B is halved unless its session leaves PAUSED
and CHARGING at the same window end, the targets and offers are lowered with it, and the event is raised at the first of the run alone;
where the window trips as well, the trip's zeroing takes the place of the halving. The first window above L takes the count to 1 and one at
or below L takes it to 0, and neither is an overload (R122, R124, R133, R135, R141, R142). The form of the row is the model's choice (log
entry 2), and so is that a window is judged by its sum however many samples were taken in it (log entry 13). -/
def Obligations.OverloadHalvesBorrow : Prop :=
  ∀ (s : State) (p : Profile) (feederFirst : Bool), JudgedWindow s p → BorrowLaw s → s.feeder.sense = .valid →
    2040 ≤ s.feeder.windowSum → s.feeder.windowSum ≤ 38880 →
    (p.importLimit < feederFigure p s.feeder.windowSum → 1 ≤ s.feeder.overCount → s.feeder.overCount ≤ 2 →
      feederFigure p s.feeder.windowSum ≤ p.importLimit + p.tripMargin ∨ s.feeder.tripCount = 0 →
      ∃ t, WindowEndOutcome (.overload feederFirst) feederFirst s t ∧ t.feeder.overCount = 2 ∧ t.shares.curtail = s.shares.curtail ∧
        t.feeder.hushPending = s.feeder.hushPending ∧
        (s.feeder.overCount = 1 → Flagged t .overload) ∧
        (s.feeder.overCount = 2 → isRaised .overload t = isRaised .overload s) ∧
        (∀ (n : Nat) (o o' : Outlet), s.outlets[n]? = some o → t.outlets[n]? = some o' →
          o'.share.b = if inPair o'.session.state = true then o.share.b / 2 else 0) ∧
        OrderTaken p feederFirst (fun b => b / 2) s.shares.curtail s t) ∧
    (p.importLimit + p.tripMargin < feederFigure p s.feeder.windowSum → 1 ≤ s.feeder.overCount → s.feeder.overCount ≤ 2 →
      1 ≤ s.feeder.tripCount → s.feeder.tripCount ≤ 2 →
      ∃ t, WindowEndOutcome (.overload feederFirst) feederFirst s t ∧ t.feeder.overCount = 2 ∧ t.feeder.tripCount = 2 ∧
        t.shares.curtail = 3 ∧ t.feeder.hushPending = true ∧ (∀ o ∈ t.outlets, o.share.b = 0) ∧
        OrderTaken p feederFirst (fun _ => 0) 3 s t ∧
        (s.feeder.overCount = 1 → Flagged t .overload) ∧
        (s.feeder.overCount = 2 → isRaised .overload t = isRaised .overload s)) ∧
    (feederFigure p s.feeder.windowSum ≤ p.importLimit ∨
        (s.feeder.overCount = 0 ∧
          (feederFigure p s.feeder.windowSum ≤ p.importLimit + p.tripMargin ∨ s.feeder.tripCount = 0)) →
      exec (.overload feederFirst) s = .next s ∧
      ∃ t, exec (.fullWindowEnd feederFirst) s = .next t ∧
        t.feeder.overCount = (if p.importLimit < feederFigure p s.feeder.windowSum then 1 else 0) ∧
        t.shares.curtail = s.shares.curtail ∧ t.feeder.hushPending = s.feeder.hushPending ∧
        isRaised .overload t = isRaised .overload s ∧
        (∀ (n : Nat) (o o' : Outlet), s.outlets[n]? = some o → t.outlets[n]? = some o' →
          o'.share.b = if inPair o'.session.state = true then o.share.b else 0))

/-- A window above L + M_hard with the trip count at 1 or 2 is a trip: the count stands at 2, every B is 0, the curtail count is 3, the
targets and offers are lowered with them and a hush is pending, which is driven at once, with its hold-off started, on a FREE line with no
drive and no hold-off; the event is raised and the fault captured at the first of the run alone. The first window above L + M_hard takes the
count to 1 and one at or below it takes it to 0, and neither is a trip (R50, R53, R123 to R125, R135, R141, R142). The form of the row is
the model's choice (log entry 2), and so is that a window is judged by its sum however many samples were taken in it (log entry 13). -/
def Obligations.TripZeroesBorrowAndCurtails : Prop :=
  ∀ (s : State) (p : Profile) (feederFirst : Bool), JudgedWindow s p → s.feeder.sense = .valid →
    2040 ≤ s.feeder.windowSum → s.feeder.windowSum ≤ 38880 →
    (p.importLimit + p.tripMargin < feederFigure p s.feeder.windowSum → 1 ≤ s.feeder.tripCount → s.feeder.tripCount ≤ 2 →
      ∃ t, WindowEndOutcome (.trip feederFirst) feederFirst s t ∧ t.feeder.tripCount = 2 ∧ t.shares.curtail = 3 ∧
        t.feeder.hushPending = true ∧ (∀ o ∈ t.outlets, o.share.b = 0) ∧ OrderTaken p feederFirst (fun _ => 0) 3 s t ∧
        (s.host.straps.rate ≠ 3 → s.line.state = .free → s.line.drive = .idle → s.line.holdOffMs = 0 →
          t.line = { s.line with drive := .hush, holdOffMs := 2000 }) ∧
        (s.line.state ≠ .free ∨ s.line.drive ≠ .idle ∨ (s.line.holdOffMs ≠ 0 ∧ s.line.startRequest = false) → t.line = s.line) ∧
        (s.feeder.overCount = 1 → Flagged t .overload) ∧
        (s.feeder.tripCount = 1 → Flagged t .trip ∧ t.host.firstFault ≠ none) ∧
        (s.feeder.tripCount = 1 → s.host.firstFault = none → feederFirst = true →
          t.host.firstFault =
            some ⟨.trip, none, s.census.number, s.census.windowIndex, feederFigure p s.feeder.windowSum⟩) ∧
        (s.feeder.tripCount = 2 → isRaised .trip t = isRaised .trip s)) ∧
    (feederFigure p s.feeder.windowSum ≤ p.importLimit + p.tripMargin ∨ s.feeder.tripCount = 0 →
      exec (.trip feederFirst) s = .next s ∧
      ∃ t, exec (.fullWindowEnd feederFirst) s = .next t ∧
        t.feeder.tripCount = (if p.importLimit + p.tripMargin < feederFigure p s.feeder.windowSum then 1 else 0) ∧
        t.shares.curtail = s.shares.curtail ∧ t.feeder.hushPending = s.feeder.hushPending ∧
        isRaised .trip t = isRaised .trip s)

/-- The fourth consecutive full window with draw above the grace ceiling by more than 20 faults the session: FAULTED with kind OVERDRAW,
offer, target and B at 0, the counts at 0, the FAULTED event and the fault with the window's draw; short of it the count goes up by 1 in
such a window and back to 0 in any other, and a VACANT or FAULTED outlet is not judged (R9, R151 to R153, R158; the form of the row is the
model's choice, log entry 2). -/
def Obligations.OverdrawFaultsTheSession : Prop :=
  ∀ (s : State) (n : Nat) (o : Outlet) (feederFirst : Bool), s.host.resetHeld = [] → s.outlets[n]? = some o → n < 4 →
    (BorrowLaw s → judgedForOverdraw o.session.state = true → o.supervision.overdrawCount = 3 →
      ceilingAtEnd o + 20 < o.meter.windowCount →
      ∃ t o', WindowEndOutcome (.overdraw n feederFirst) feederFirst s t ∧ t.outlets[n]? = some o' ∧
        o'.session.state = .faulted ∧ o'.session.faultKind = some .overdraw ∧ o'.session.offer = 0 ∧ o'.share.target = 0 ∧
        o'.share.b = 0 ∧ o'.supervision.overdrawCount = 0 ∧ o'.supervision.stallCount = 0 ∧ o'.supervision.unstallCount = 0 ∧
        o'.supervision.releaseCount = 0 ∧ Flagged t (.faulted n) ∧ t.host.firstFault ≠ none ∧
        (s.host.firstFault = none → feederFirst = false → n = 0 →
          t.host.firstFault = some ⟨.overdraw, some n, s.census.number, s.census.windowIndex, o.meter.windowCount⟩)) ∧
    (o.session.state = .vacant ∨ o.session.state = .faulted ∨ o.supervision.overdrawCount < 3 ∨
        o.meter.windowCount ≤ ceilingAtEnd o + 20 →
      exec (.overdraw n feederFirst) s = .next s ∧
      ∃ t o', exec (.fullWindowEnd feederFirst) s = .next t ∧ t.outlets[n]? = some o' ∧
        o'.supervision.overdrawCount =
          (if o.session.state = .vacant ∨ o.session.state = .faulted then o.supervision.overdrawCount
          else if ceilingAtEnd o + 20 < o.meter.windowCount then o.supervision.overdrawCount + 1 else 0)) ∧
    (o.session.state = .faulted → exec (.overdraw n feederFirst) s = .next s)

/-- The 240th consecutive full window of CHARGING with draw below 10 takes the session STALLED: its event, G and B at 0, the probe I_min as
target and as offer, the counts at 0. The probe is stated where the targets are within their raw targets, these within Lp, no other session
is about to leave STALLED and no order on borrow comes first; anywhere else the session goes STALLED with at most the probe, or has gone
PAUSED without a target before its own judgement. Short of the 240th the count goes up by 1 in a window with draw below 10 and back to 0 in
any other (R6, R8, R107, R137 to R142, R154, R158; the form of the row is the model's choice, log entry 2). -/
def Obligations.StallTakesTheProbe : Prop :=
  ∀ (s : State) (p : Profile) (n : Nat) (o : Outlet) (feederFirst : Bool), s.host.resetHeld = [] → s.host.profile = some p →
    s.outlets[n]? = some o → n < 4 → o.session.state = .charging →
    (o.supervision.stallCount = 239 → o.meter.windowCount < 10 → PostLaw s →
      s.census.participation = .joined ∨ s.census.participation = .islanded →
      feederFirst = false ∨ (s.feeder.overCount = 0 ∧ s.feeder.tripCount = 0 ∧ s.feeder.outOfBandCount = 0) →
      (∀ u ∈ s.outlets, u.share.target ≤ tableTarget p s.census.participation s.shares.curtail u ∧ u.supervision.unstallCount < 3) →
      (s.outlets.map (tableTarget p s.census.participation s.shares.curtail)).sum ≤ p.postLimit →
      ∃ t o', WindowEndOutcome (.stall n feederFirst) feederFirst s t ∧ t.outlets[n]? = some o' ∧ o'.session.state = .stalled ∧
        o'.share.g = 0 ∧ o'.share.b = 0 ∧ o'.share.target = p.minCurrent ∧ o'.session.offer = p.minCurrent ∧
        o'.supervision.stallCount = 0 ∧ o'.supervision.unstallCount = 0 ∧ Flagged t (.stalled n)) ∧
    (o.supervision.stallCount = 239 → o.meter.windowCount < 10 →
      ∃ t o', exec (.fullWindowEnd feederFirst) s = .next t ∧ t.outlets[n]? = some o' ∧
        o'.supervision.stallCount = 0 ∧
        ((o'.session.state = .stalled ∧ exec (.stall n feederFirst) s = .next t ∧ o'.share.g = 0 ∧ o'.share.b = 0 ∧
            o'.share.target ≤ p.minCurrent ∧ o'.session.offer ≤ o'.share.target ∧ o'.supervision.unstallCount = 0 ∧
            Flagged t (.stalled n)) ∨
          (o'.session.state = .paused ∧ exec (.stall n feederFirst) s = .next s ∧ o'.share.target = 0 ∧ o'.session.offer = 0))) ∧
    (o.supervision.stallCount < 239 ∨ 10 ≤ o.meter.windowCount →
      exec (.stall n feederFirst) s = .next s ∧
      ∃ t o', exec (.fullWindowEnd feederFirst) s = .next t ∧ t.outlets[n]? = some o' ∧
        (o'.session.state = .charging →
          o'.supervision.stallCount = (if o.meter.windowCount < 10 then o.supervision.stallCount + 1 else 0)) ∧
        (o'.session.state = .paused → o'.supervision.stallCount = 0))

/-- The fourth consecutive full window of STALLED with draw of 20 or more takes the session out of STALLED with both counts at 0 and a
target that has not risen and stands within the raw target; in JOINED, without a share, it goes on to PAUSED with offer and target 0; in
ISLANDED its target is the lesser of the target held and the one that the fallback and the post cap give, its offer follows, and it stays
CHARGING where that is above 0 (stated where the targets held are settled and no other count reaches its end); short of it the count goes up
by 1 in a window with draw of 20 or more and back to 0 in any other; a session that is not STALLED takes none (R8, R107, R138, R140 to R143,
R155, R158; the form of the row is the model's choice, log entry 2). -/
def Obligations.UnstallReturnsToThePair : Prop :=
  ∀ (s : State) (p : Profile) (n : Nat) (o : Outlet) (feederFirst : Bool), s.host.resetHeld = [] → s.host.profile = some p →
    s.outlets[n]? = some o →
    (o.session.state = .stalled → o.supervision.unstallCount = 3 → 20 ≤ o.meter.windowCount →
      o.supervision.overdrawCount < 3 ∨ o.meter.windowCount ≤ ceilingAtEnd o + 20 →
      ∃ t o', WindowEndOutcome (.unstall n feederFirst) feederFirst s t ∧ t.outlets[n]? = some o' ∧
        inPair o'.session.state = true ∧ o'.supervision.unstallCount = 0 ∧ o'.supervision.stallCount = 0 ∧
        o'.share.target ≤ o.share.target ∧ o'.share.target ≤ tableTarget p s.census.participation t.shares.curtail o' ∧
        (s.census.participation = .joined → o.share.g = 0 → o.share.b = 0 → 0 < p.minCurrent →
          o'.session.state = .paused ∧ o'.session.offer = 0 ∧ o'.share.target = 0) ∧
        (s.census.participation = .islanded → PostLaw s → QuietFeeder s → TargetsSettled p s →
          (∀ (m : Nat) (u : Outlet), m ≠ n → s.outlets[m]? = some u →
            u.supervision.overdrawCount < 3 ∧ u.supervision.stallCount < 239 ∧ u.supervision.unstallCount < 3) →
          o'.share.target =
            min o.share.target
              (cappedTarget p .islanded s.shares.curtail (s.outlets.set n { o with session.state := .charging }) n) ∧
          (((s.outlets.set n { o with session.state := .charging }).map (tableTarget p .islanded s.shares.curtail)).sum ≤ p.postLimit →
            o'.share.target =
              min o.share.target (tableTarget p .islanded s.shares.curtail { o with session.state := .charging })) ∧
          o'.session.offer = min o'.share.target (rampTop p o.session.offer) ∧
          o'.session.state = (if o'.session.offer = 0 then .paused else .charging))) ∧
    (o.session.state = .stalled → o.supervision.unstallCount < 3 ∨ o.meter.windowCount < 20 →
      o.supervision.overdrawCount < 3 ∨ o.meter.windowCount ≤ ceilingAtEnd o + 20 →
      exec (.unstall n feederFirst) s = .next s ∧
      ∃ t o', exec (.fullWindowEnd feederFirst) s = .next t ∧ t.outlets[n]? = some o' ∧ o'.session.state = .stalled ∧
        o'.supervision.unstallCount = (if 20 ≤ o.meter.windowCount then o.supervision.unstallCount + 1 else 0)) ∧
    (o.meter.windowCount < 20 ∨ o.session.state ≠ .stalled → exec (.unstall n feederFirst) s = .next s)

/-- The eighth consecutive full window of FAULTED or VACANT with draw above 20 drives the release output, raises RELEASE and captures the
fault, STUCK_DRAW or VACANT_DRAW, with the window's draw; short of it the count goes up by 1 in such a window and back to 0 in any other;
with the output driven already, the count and the output stand, and with a draw of at most 20 it is not driven then (R156, R157; the form of
the row is the model's choice, log entry 2). -/
def Obligations.ReleaseIsDriven : Prop :=
  ∀ (s : State) (n : Nat) (o : Outlet) (feederFirst : Bool), s.host.resetHeld = [] → s.outlets[n]? = some o → n < 4 →
    (o.session.state = .faulted ∨ o.session.state = .vacant → o.supervision.releaseDriven = false → o.supervision.releaseCount = 7 →
      20 < o.meter.windowCount →
      ∃ t o', WindowEndOutcome (.release n feederFirst) feederFirst s t ∧ t.outlets[n]? = some o' ∧
        o'.supervision.releaseDriven = true ∧ o'.supervision.releaseCount = 8 ∧ Flagged t (.release n) ∧ t.host.firstFault ≠ none ∧
        (s.host.firstFault = none → feederFirst = false → n = 0 →
          t.host.firstFault =
            some ⟨if o.session.state = .faulted then .stuckDraw else .vacantDraw, some n, s.census.number, s.census.windowIndex,
              o.meter.windowCount⟩)) ∧
    (o.session.state = .faulted ∨ o.session.state = .vacant →
      o.supervision.releaseDriven = true ∨ o.supervision.releaseCount < 7 ∨ o.meter.windowCount ≤ 20 →
      ∃ t o', exec (.fullWindowEnd feederFirst) s = .next t ∧ t.outlets[n]? = some o' ∧
        o'.supervision.releaseDriven = o.supervision.releaseDriven ∧
        o'.supervision.releaseCount =
          (if o.supervision.releaseDriven = true then o.supervision.releaseCount
          else if 20 < o.meter.windowCount then o.supervision.releaseCount + 1 else 0) ∧
        isRaised (.release n) t = isRaised (.release n) s) ∧
    (o.meter.windowCount ≤ 20 ∨ o.supervision.releaseDriven = true → exec (.release n feederFirst) s = .next s)

/-- Every command keeps the law of the supervision records, and a driven release output stays driven until CLOSE of the outlet or reset
(R150, R156, R157). -/
def Obligations.SupervisionLawIsKept : Prop :=
  (∀ (c : Instr) (s t : State), (∀ o ∈ s.outlets, SupervisionLaw o) → exec c s = .next t → ∀ o ∈ t.outlets, SupervisionLaw o) ∧
  (∀ (c : Instr) (s t : State) (n : Nat), (∀ o ∈ s.outlets, SupervisionLaw o) → isReset c = false →
    (∀ shifted, c ≠ .closeSession shifted) → exec c s = .next t → releaseDriven s n = true → releaseDriven t n = true)

/-- An outlet's offer rises only at a window boundary, a full window end or a trailing edge that is a frame zero, and then from 0 to at most
max(I_min, ramp), or from a nonzero value by at most ramp; the window maximum is raised with it (R143, R151). -/
def Obligations.OfferRisesByTheRamp : Prop :=
  ∀ (c : Instr) (s t : State) (n : Nat) (o o' : Outlet), exec c s = .next t → s.outlets[n]? = some o → t.outlets[n]? = some o' →
    o.session.offer < o'.session.offer →
    isBoundary c = true ∧
    (∀ samples boundaryFirst, c = .trailingEdge samples boundaryFirst → s.line.state ≠ .frame ∧ t.line.state = .frame) ∧
    ∃ p, s.host.profile = some p ∧
      o'.session.offer ≤ rampTop p o.session.offer ∧
      o'.session.offer ≤ o'.supervision.windowMax

/-- A target rises only at the events that may raise one: at a frame end that completes a census, which leaves the part JOINED; at the event
that takes the part to ISLANDED from a missed-period count of 2; and in ISLANDED at a census timer expiry or a frame zero. At no request,
window end, feeder order or completion of charge does one rise (R141). -/
def Obligations.TargetRisesOnlyWhereItMay : Prop :=
  ∀ (c : Instr) (s t : State) (n : Nat) (o o' : Outlet), exec c s = .next t → s.outlets[n]? = some o → t.outlets[n]? = some o' →
    o.share.target < o'.share.target →
    (t.census.participation = .joined ∧ s.census.frame ≠ none ∧ s.line.state = .frame ∧
      (c = .frameEnd ∨ ∃ m, c = .seatClashFault m)) ∨
    (t.census.participation = .islanded ∧ s.census.participation ≠ .islanded ∧ s.census.missed = 2 ∧ mayEnterIslanded c = true) ∨
    (t.census.participation = .islanded ∧ s.census.participation = .islanded ∧
      (c = .censusTimerExpiry ∨
        ∃ samples boundaryFirst, c = .trailingEdge samples boundaryFirst ∧ s.line.state ≠ .frame ∧ t.line.state = .frame))

/-- Every command keeps the law of the post; from it, the offers in force sum to at most the post limit and each is 0 or between I_min and
the session's Cmax (R140, R143). -/
def Obligations.PostLawIsKept : Prop :=
  (∀ (c : Instr) (s t : State), PostLaw s → exec c s = .next t → PostLaw t) ∧
  (∀ (s : State) (p : Profile), PostLaw s → s.host.profile = some p →
    (s.outlets.map fun o => o.session.offer).sum ≤ p.postLimit ∧
    ∀ o ∈ s.outlets, o.session.offer = 0 ∨ (p.minCurrent ≤ o.session.offer ∧ o.session.offer ≤ o.session.vanMax))

/-- Every command keeps the law of borrow, at a part whose participation is lawful (R133). -/
def Obligations.BorrowLawIsKept : Prop :=
  ∀ (c : Instr) (s t : State), ParticipationLaw s → BorrowLaw s → exec c s = .next t → BorrowLaw t

/-- Every command keeps the law of the roster (R87). -/
def Obligations.RosterLawIsKept : Prop :=
  ∀ (c : Instr) (s t : State), RosterLaw s → exec c s = .next t → RosterLaw t

/-- Every command keeps the laws of participation and of the share line (R40 to R45, R54, R65 to R71, R79, R80). -/
def Obligations.ParticipationAndLineLawsAreKept : Prop :=
  ∀ (c : Instr) (s t : State), ParticipationLaw s → LineLaw s → exec c s = .next t → ParticipationLaw t ∧ LineLaw t

/-- Every command whose operands stand in their ranges keeps the laws of the session records and the meters (R1, R4, R7, R9, R19, R22, R104,
R147, R149). -/
def Obligations.SessionAndMeterLawsAreKept : Prop :=
  ∀ (c : Instr) (s t : State), c.wellFormed = true → (∀ o ∈ s.outlets, SessionLaw o ∧ MeterLaw o) → exec c s = .next t →
    ∀ o ∈ t.outlets, SessionLaw o ∧ MeterLaw o

/-- Every command keeps the law of the Feeder Watch, and the curtail count stays within 3 (R117 to R123, R134). -/
def Obligations.FeederLawIsKept : Prop :=
  ∀ (c : Instr) (s t : State), FeederLaw s → s.shares.curtail ≤ 3 → exec c s = .next t → FeederLaw t ∧ t.shares.curtail ≤ 3

/-- The post cap: the targets sum to at most Lp, raw targets within Lp stand, and each result is 0 or between I_min and its raw target; no
target goes to 0 before every other has gone to I_min, and the cut falls in the cut order, whose earlier outlets are cut first in each of
its two passes: STALLED sessions, then PAUSED and CHARGING ones by their stored band, none or absent, Steady, Tight and Late, and within a
class the highest index first (R140). -/
def Obligations.PostCapCutsInOrder : Prop :=
  ∀ (p : Profile) (part : Participation) (curtail : Nat) (os : List Outlet) (raw ts : List Nat) (place : Session → Nat)
    (before : Nat → Nat → Prop),
    0 < p.minCurrent → raw = os.map (rawTarget p part curtail) → ts = cappedTargets p part curtail os →
    (∀ r ∈ raw, r = 0 ∨ p.minCurrent ≤ r) →
    (∀ r, place r = match r.state, r.band with
      | .stalled, _ => 1
      | _, .absent => 2
      | _, .unbanded => 2
      | _, .steady => 3
      | _, .tight => 4
      | _, .late => 5) →
    (∀ i j, before i j ↔ ∃ u v, os[i]? = some u ∧ os[j]? = some v ∧
      (place u.session < place v.session ∨ (place u.session = place v.session ∧ j < i))) →
    ts.length = os.length ∧ ts.sum ≤ p.postLimit ∧ (raw.sum ≤ p.postLimit → ts = raw) ∧
    (∀ i, i < os.length → ts.getD i 0 = 0 ∨ (p.minCurrent ≤ ts.getD i 0 ∧ ts.getD i 0 ≤ raw.getD i 0)) ∧
    (∀ i j, i < os.length → j < os.length → 0 < raw.getD i 0 → ts.getD i 0 = 0 → ts.getD j 0 ≤ p.minCurrent) ∧
    (∀ i j, before i j → 0 < raw.getD i 0 → 0 < raw.getD j 0 → ts.getD j 0 = 0 → ts.getD i 0 = 0) ∧
    (∀ i j, before i j → ts.getD j 0 < raw.getD j 0 → ts.getD i 0 ≤ p.minCurrent)

/-- One band of the water-fill: a full band takes its level times its count, the level between I_min and K; a short band serves fewer seats
than it has at I_min and leaves less than I_min; an empty or a closed band takes nothing (R100 to R102). -/
def Obligations.BandIsFilledOnce : Prop :=
  ∀ (ceiling minCurrent count remaining : Nat) (above : Bool) (fill : Fill) (left : Nat),
    0 < minCurrent → minCurrent ≤ ceiling → (fill, left) = fillBand ceiling minCurrent count remaining above →
    fill.given minCurrent count + left = remaining ∧
    (fill = .empty ↔ count = 0) ∧ (fill = .closed ↔ count ≠ 0 ∧ above = true) ∧
    (∀ level, fill = .full level →
      minCurrent ≤ level ∧ level = min ceiling (remaining / count) ∧ count * minCurrent ≤ remaining) ∧
    (∀ served, fill = .short served →
      served < count ∧ served = remaining / minCurrent ∧ left < minCurrent ∧ remaining < count * minCurrent)

/-- The guaranteed shares of one census, summed over every seat the roster counts in a band, never exceed the pool, and the pool remainder
is what they leave of it (R102, R103). -/
def Obligations.SharesKeepWithinThePool : Prop :=
  ∀ (m : Maps) (number : CensusNumber) (before r : Roster) (w : WaterFill) (ceiling minCurrent pool : Nat),
    0 < minCurrent → minCurrent ≤ ceiling → before.entries.length = 128 → r = updateRoster m number before →
    w = waterFill ceiling minCurrent pool r.counts.late r.counts.tight r.counts.steady →
    ((List.range 128).map (seatShare minCurrent w r)).sum + w.remainder = pool

/-- The roster update: every entry moves by its own seat's four bits, the counts are those of the entries, and the rotation order of a band
holds each of its PRESENT or HELD seats once, in rising order of the key (s − ρ) mod 128 (R88 to R92, R94). -/
def Obligations.RosterUpdateFollowsTheMaps : Prop :=
  ∀ (m : Maps) (number : CensusNumber) (before r : Roster), before.entries.length = 128 → (∀ e ∈ before.entries, EntryLaw e) →
    r = updateRoster m number before →
    (∀ (seat : Nat) (e : Entry) (late tight steady : Bool), before.entries[seat]? = some e →
      late = m.late.getLsbD seat → tight = m.tight.getLsbD seat → steady = m.steady.getLsbD seat →
      (m.present.getLsbD seat = true →
        r.entries[seat]? = some ⟨.present, if late then .late else if tight then .tight else if steady then .steady else .unbanded, 0,
          (late && tight) || (late && steady) || (tight && steady), false⟩) ∧
      (m.present.getLsbD seat = false → e.state = .present →
        r.entries[seat]? = some ⟨.held, e.band, 1, e.multiBand, e.irregular || late || tight || steady⟩) ∧
      (m.present.getLsbD seat = false → e.state = .held → e.absence = 1 →
        r.entries[seat]? = some ⟨.held, e.band, 2, e.multiBand, e.irregular || late || tight || steady⟩) ∧
      (m.present.getLsbD seat = false → e.state = .absent ∨ (e.state = .held ∧ e.absence = 2) →
        r.entries[seat]? = some ⟨.absent, .absent, 0, false, e.irregular || late || tight || steady⟩)) ∧
    r.counts.late = r.entries.countP (fun e => e.state ≠ .absent ∧ e.band = .late) ∧
    r.counts.tight = r.entries.countP (fun e => e.state ≠ .absent ∧ e.band = .tight) ∧
    r.counts.steady = r.entries.countP (fun e => e.state ≠ .absent ∧ e.band = .steady) ∧
    r.counts.demanding = r.counts.late + r.counts.tight + r.counts.steady ∧
    r.counts.present = r.entries.countP (fun e => e.state ≠ .absent) ∧
    r.origin = some (number.toNat / 16 % 128) ∧
    (∀ (b : Band) (order : List Nat), (b = .late ∧ order = r.lateOrder) ∨ (b = .tight ∧ order = r.tightOrder) ∨
        (b = .steady ∧ order = r.steadyOrder) →
      order.Pairwise (fun x y => rotationKey (number.toNat / 16 % 128) x < rotationKey (number.toNat / 16 % 128) y) ∧
      (∀ seat, seat ∈ order ↔ ∃ e, r.entries[seat]? = some e ∧ e.state ≠ .absent ∧ e.band = b) ∧
      ∀ (i seat : Nat), order[i]? = some seat → rotationRank order seat = some (i + 1))

/-- The end of a frame taken part in and not abandoned completes the census: the count of missed periods goes to 0, the number read is
adopted, the part is JOINED, with REJOINED from ISLANDED, the roster takes the maps, the peak is taken and cleared, the summary is written,
with what each own seat drove, its G and whether a map bit of it was read dominant and not driven, and CENSUS is raised; the timer and the
window clock run on, a run still in progress goes on (log entry 10), and the drive of bit 529 ends. The end of a frame not taken part in is
the transceiver's alone (R43, R54, R68, R74, R76, R81, R82, R84, R117, R118). -/
def Obligations.FrameEndCompletesTheCensus : Prop :=
  ∀ s : State, LineSampled s → s.line.state = .frame → 530 ≤ s.line.frameBit →
    (∀ f, s.census.frame = some f →
      ∃ t, exec .frameEnd s = .next t ∧
        t.line = { s.line with state := .settling, recessiveCount := 0, bitDrive := false, bitHeld := false } ∧
        t.census.number = f.number ∧ t.census.missed = 0 ∧ t.census.participation = .joined ∧ t.census.frame = none ∧
        t.census.timerMs = s.census.timerMs ∧ t.census.windowIndex = s.census.windowIndex ∧ t.census.windowMs = s.census.windowMs ∧
        t.census.ageMs = some 2000 ∧ t.census.reachedFrameZero = s.census.reachedFrameZero ∧ t.roster = updateRoster f.read f.number s.roster ∧
        t.feeder = { s.feeder with peak := none, ring := s.feeder.ring.map fun e => { e with sinceCompletion := false } } ∧
        Flagged t .census ∧
        isRaised .rejoined t = (isRaised .rejoined s || (s.census.participation == .islanded)) ∧
        (∃ sm, t.census.summary = some sm ∧ sm.number = f.number ∧ sm.noisy = s.line.noise ∧ sm.present = t.roster.counts.present ∧
          sm.late = t.roster.counts.late ∧ sm.tight = t.roster.counts.tight ∧ sm.steady = t.roster.counts.steady ∧
          sm.seats.length = t.outlets.length ∧
          (∀ (n seat : Nat) (x : Latch) (o' : Outlet), f.latch[n]? = some x → t.outlets[n]? = some o' →
            seat = s.host.straps.seatBase + n →
            sm.seats[n]? = some ⟨x, o'.share.g,
              (f.read.present.getLsbD seat && !f.driven.present.getLsbD seat) || (f.read.late.getLsbD seat && !f.driven.late.getLsbD seat) ||
              (f.read.tight.getLsbD seat && !f.driven.tight.getLsbD seat) ||
              (f.read.steady.getLsbD seat && !f.driven.steady.getLsbD seat)⟩) ∧
          sm.poolRemainder = t.shares.poolRemainder.getD 0 ∧ sm.peak = s.feeder.peak ∧ sm.age = 0 ∧
          (∀ p, s.host.profile = some p → sm.headroom = s.feeder.peak.map fun (k : Nat) => (p.importLimit : Int) - (k : Int))) ∧
        t.minuteMs = s.minuteMs ∧ t.pending = s.pending ∧ SameHostBut s t ∧ t.shares.pool = s.shares.pool ∧
        t.outlets.length = s.outlets.length ∧
        ∀ (n : Nat) (o o' : Outlet), s.outlets[n]? = some o → t.outlets[n]? = some o' →
          o'.meter = o.meter ∧ o'.setpointDuty = o.setpointDuty ∧ o'.supervision.history = o.supervision.history ∧
          o'.supervision.windowMax = o.supervision.windowMax ∧ o'.supervision.releaseDriven = o.supervision.releaseDriven ∧
          o'.session = { o.session with
            state := o'.session.state, offer := o'.session.offer, faultKind := o'.session.faultKind }) ∧
    (s.census.frame = none →
      exec .frameEnd s =
        .next { s with line := { s.line with state := .settling, recessiveCount := 0, bitDrive := false, bitHeld := false } })

/-- A valid completion writes every share record whose outlet is not VACANT: G, band used and rank from the roster entry, and B by growth,
reduction or force, clamped to Cmax − G; the curtail count falls by 1 and the water-fill's remainder is kept. A VACANT outlet's record
stands. The targets are then, under the law of the post, those of R137 and R139 on the G and B so written, min(Cmax, G + B) or 0 where that
is below I_min and I_min for STALLED, within the post cap; an offer above its target falls to it, and a CHARGING session without a target
goes PAUSED (R98, R99, R103, R105, R129 to R134, R137, R139 to R142). -/
def Obligations.CompletionWritesSharesAndBorrow : Prop :=
  ∀ (s t : State) (f : Frame) (p : Profile) (w : WaterFill), LineSampled s → s.line.state = .frame → 530 ≤ s.line.frameBit →
    s.census.frame = some f → s.host.profile = some p → NoClashFault s f → exec .frameEnd s = .next t →
    w = waterFill p.seatCeiling p.minCurrent (s.shares.pool.getD 0) t.roster.counts.late t.roster.counts.tight t.roster.counts.steady →
    t.shares.poolRemainder = some w.remainder ∧ t.shares.curtail = s.shares.curtail - 1 ∧
    (PostLaw s → TargetsFollowTable p .joined t.shares.curtail t.outlets) ∧
    ∀ (n seat : Nat) (o o' : Outlet) (band : Band) (free : Nat), s.outlets[n]? = some o → t.outlets[n]? = some o' →
      seat = s.host.straps.seatBase + n → band = (entryOf t.roster seat).band →
      o'.session.offer = min o.session.offer o'.share.target ∧
      o'.session.state = (if o.session.state = .charging ∧ o'.share.target = 0 then .paused else o.session.state) ∧
      (o.session.state = .vacant →
        o'.share.g = o.share.g ∧ o'.share.b = o.share.b ∧ o'.share.bandUsed = o.share.bandUsed ∧ o'.share.rank = o.share.rank) ∧
      (o.session.state ≠ .vacant →
        o'.share.bandUsed = band ∧ o'.share.rank = rotationRank (t.roster.orderOf band) seat ∧
        o'.share.g = (if inPair o.session.state = true then seatShare p.minCurrent w t.roster seat else 0) ∧
        (free = (if 0 < s.shares.curtail ∨ s.feeder.sense = .lost ∨ inPair o.session.state = false ∨ band = .absent ∨
              band = .unbanded then 0
            else match s.feeder.peak with
              | none => o.share.b
              | some k =>
                if k + p.growthMargin < p.importLimit then
                  o.share.b + min (match band with | .late => 40 | .tight => 20 | .steady => 10 | _ => 0)
                    ((p.importLimit - k - p.growthMargin) / t.roster.counts.demanding)
                else if p.importLimit < k then
                  o.share.b / 2 - (k - p.importLimit + t.roster.counts.demanding - 1) / t.roster.counts.demanding
                else o.share.b) →
          o'.share.b = min free (o.session.vanMax - o'.share.g)))

/-- A valid completion counts each own seat's clashes and raises CLASH once where there is one; at a count of 3 the outlet's session, if it
has one that is not FAULTED, goes FAULTED with kind SEAT_CLASH, its offer, target, G and B at 0, its event raised and the fault captured
with the seat's first clashing bit; a VACANT or FAULTED outlet takes no such fault (R9, R76, R77, R82, R158; the form of the row is the
model's choice, log entry 2). -/
def Obligations.SeatClashFaultsTheSession : Prop :=
  ∀ (s : State) (f : Frame), LineSampled s → s.line.state = .frame → 530 ≤ s.line.frameBit → s.census.frame = some f →
    (∀ t, exec .frameEnd s = .next t →
      t.outlets.length = s.outlets.length ∧
      (∀ (n : Nat) (o o' : Outlet), s.outlets[n]? = some o → t.outlets[n]? = some o' →
        o'.clashCount = (if (clashBits f (s.host.straps.seatBase + n)).any then min 3 (o.clashCount + 1) else 0)) ∧
      (isRaised .clash t = true ↔ isRaised .clash s = true ∨
        ∃ n, n < s.outlets.length ∧ (clashBits f (s.host.straps.seatBase + n)).any = true)) ∧
    (∀ (n seat : Nat) (o : Outlet), s.outlets[n]? = some o → n < 4 → seat = s.host.straps.seatBase + n →
      (s.host.profile ≠ none → o.session.state ≠ .vacant → o.session.state ≠ .faulted → BorrowLaw s →
        (clashBits f seat).any = true → 2 ≤ o.clashCount →
        ∃ t o', exec (.seatClashFault n) s = .next t ∧ exec .frameEnd s = .next t ∧ t.outlets[n]? = some o' ∧
          o'.session.state = .faulted ∧ o'.session.faultKind = some .seatClash ∧ o'.session.offer = 0 ∧ o'.share.target = 0 ∧
          o'.share.g = 0 ∧ o'.share.b = 0 ∧ o'.supervision.overdrawCount = 0 ∧ o'.supervision.releaseCount = 0 ∧
          Flagged t (.faulted n) ∧ t.host.firstFault ≠ none ∧
          (s.host.firstFault = none → n = 0 →
            t.host.firstFault =
              some ⟨.seatClash, some n, f.number, s.census.windowIndex,
                if (clashBits f seat).present then 18 + seat else if (clashBits f seat).late then 146 + seat
                else if (clashBits f seat).tight then 274 + seat else 402 + seat⟩)) ∧
      (o.session.state = .vacant ∨ o.session.state = .faulted → exec (.seatClashFault n) s = .next s))

/-- A dominant sample on a recessive line begins a run: classifiable in FREE alone; the line goes PULSE from SETTLING and FREE and stays in
FRAME and in STUCK; in FRAME the run keeps the frame bit of its edge. A run still in progress at the end of a frame has no new edge: the
next dominant sample takes the line from SETTLING to PULSE with that run, unclassifiable (log entry 10); in any other state a run in
progress has no edge at all (R39 to R41, R43, R45, R49, R58). -/
def Obligations.LeadingEdgeBeginsARun : Prop :=
  (∀ (s : State) (bit : Nat) (r : Run), LineSampled s → s.line.run = some r →
    (s.line.state = .settling → exec (.leadingEdge bit) s =
      .next { s with line := { s.line with state := .pulse, recessiveCount := 0, run := some { r with classifiable := false } } }) ∧
    (s.line.state ≠ .settling → exec (.leadingEdge bit) s = .next s)) ∧
  ∀ (s : State) (bit : Nat) (drove : Bool) (drive : Drive), LineSampled s → s.line.run = none →
    (drove = match s.line.drive with | .startPulse _ => true | _ => false) →
    (drive = match s.line.drive with | .startPulse _ => .startPulse true | d => d) →
    (s.line.state = .settling → exec (.leadingEdge bit) s =
      .next { s with line := { s.line with state := .pulse, recessiveCount := 0, run := some ⟨false, none, drove, false⟩, drive := drive } }) ∧
    (s.line.state = .free → exec (.leadingEdge bit) s =
      .next { s with line := { s.line with state := .pulse, recessiveCount := 0, run := some ⟨true, none, drove, false⟩, drive := drive } }) ∧
    (s.line.state = .frame → exec (.leadingEdge bit) s =
      .next { s with line := { s.line with recessiveCount := 0, run := some ⟨false, some bit, drove, false⟩, drive := drive } }) ∧
    (s.line.state = .stuck → exec (.leadingEdge bit) s =
      .next { s with line := { s.line with recessiveCount := 0, run := some ⟨false, none, drove, false⟩, drive := drive } })

/-- A run that is not the start class ends in SETTLING: without a class if it is unclassifiable, as a glitch or malformed with nothing
handed over, as this part's own hush, which clears the pending flag, or as a hush heard, as is a hush of this part's that an echo fault cut
short (the model's choice, log entry 23); where this part drove a start pulse in a classifiable run, a period is missed as well, after what
the class hands over (that order is the model's choice, log entry 6; the third missed period is stated of its own). So does an
unclassifiable run that a frame end left in SETTLING (log entry 10). A heard hush zeroes every B, sets the curtail count to 3 and lowers
targets and offers to what the tables then give. In FRAME, short of 600 bit-times, and in STUCK a run ends without a class; a run of 600
bit-times whose entry into STUCK was not commanded takes it first (read from R44 and R46, log entry 14) (R42 to R46, R48, R49, R62, R69,
R125, R126, R135, R137 to R142). -/
def Obligations.OtherRunsEndInSettling : Prop :=
  ∀ (s : State) (r : Run) (samples : Nat) (boundaryFirst : Bool) (l : Transceiver) (e : CensusEngine), LineSampled s →
    s.line.run = some r →
    l = { s.line with state := .settling, recessiveCount := 0, run := none } →
    e = { s.census with
      missed := if r.droveStart = true ∧ s.census.participation ≠ .offline then min 3 (s.census.missed + 1) else s.census.missed } →
    (s.line.state = .stuck ∨ (s.line.state = .frame ∧ samples / 16 < 600) → exec (.trailingEdge samples boundaryFirst) s =
      .next { s with line := { s.line with recessiveCount := 0, run := none } }) ∧
    (s.line.state = .frame ∨ s.line.state = .pulse ∨ s.line.state = .settling → 600 ≤ samples / 16 →
      ∃ t, exec .lineStuck s = .next t ∧ t.line.state = .stuck ∧ exec (.trailingEdge samples boundaryFirst) s =
        .next { t with line := { t.line with recessiveCount := 0, run := none } }) ∧
    (s.line.state = .pulse ∨ s.line.state = .settling → r.classifiable = false → samples / 16 < 600 →
      exec (.trailingEdge samples boundaryFirst) s = .next { s with line := l }) ∧
    (s.line.state = .pulse → r.classifiable = true →
      r.droveStart = false ∨ s.census.missed ≠ 2 ∨ s.census.participation = .offline ∨ s.census.participation = .islanded →
      (samples / 16 ≤ 5 ∨ (12 ≤ samples / 16 ∧ samples / 16 ≤ 19) ∨ (41 ≤ samples / 16 ∧ samples / 16 ≤ 599) →
        exec (.trailingEdge samples boundaryFirst) s = .next { s with line := l, census := e }) ∧
      (20 ≤ samples / 16 → samples / 16 ≤ 40 →
        (r.hushComplete = true → exec (.trailingEdge samples boundaryFirst) s =
          .next { s with line := l, census := e, feeder := { s.feeder with hushPending := false } }) ∧
        (r.hushComplete = false → s.host.profile = none →
          exec (.trailingEdge samples boundaryFirst) s =
            .next { s with line := l, census := e, host.events := s.host.events ||| eventFlag .hush }) ∧
        (∀ p zeroed, r.hushComplete = false → s.host.profile = some p →
          zeroed = (s.outlets.map fun o => { o with share := { o.share with b := 0 } }) →
          ∃ t, exec (.trailingEdge samples boundaryFirst) s = .next t ∧
            t = { s with
              line := l
              census := e
              feeder.hushPending := false
              shares.curtail := 3
              host.events := s.host.events ||| eventFlag .hush
              outlets := retarget p s.census.participation 3 false zeroed } ∧
            t.outlets.length = s.outlets.length ∧
            ∀ (n : Nat) (o z o' : Outlet), s.outlets[n]? = some o → zeroed[n]? = some z → t.outlets[n]? = some o' →
              o'.share = { o.share with b := 0, target := o'.share.target } ∧
              o'.share.target ≤ min o.share.target (tableTarget p s.census.participation 3 z) ∧
              ((zeroed.map (tableTarget p s.census.participation 3)).sum ≤ p.postLimit →
                o'.share.target = min o.share.target (tableTarget p s.census.participation 3 z)) ∧
              o'.session = { o.session with state := o'.session.state, offer := o'.session.offer } ∧
              o'.session.offer = min o.session.offer o'.share.target ∧
              o'.session.state = (if o.session.state = .charging ∧ o'.share.target = 0 then .paused else o.session.state) ∧
              o'.meter = o.meter)))

/-- The trailing edge of a start-class run is frame zero: FRAME at bit 0 with the noise mark clear and the start request withdrawn, the
census timer loaded, the window cut and window 0 begun, with one step of the ramp at every outlet; outside OFFLINE the part takes part, with
a candidate of the number held plus 1, clear maps and each outlet's latch by its state and the band just stored; in OFFLINE it does not. The
window maximum stands and is raised by the ramp. In ISLANDED the fallback targets are made of the bands just stored, before or after the
ramp as boundaryFirst says, so that the ramp goes toward the new target or toward the old one, and no offer stands above the new one. That
outside ISLANDED the ramp is taken before the snapshot point and its latch is the model's choice (log entry 4) (R6, R29, R32, R37, R43, R46,
R47, R60, R62, R64, R65, R67, R72, R81, R114, R138 to R144, R148, R151). -/
def Obligations.StartPulseEndsInFrameZero : Prop :=
  ∀ (s : State) (r : Run) (samples : Nat) (boundaryFirst : Bool), LineSampled s → s.line.state = .pulse → s.line.run = some r →
    r.classifiable = true → 6 ≤ samples / 16 → samples / 16 ≤ 11 →
    ∃ t, exec (.trailingEdge samples boundaryFirst) s = .next t ∧
      t.line = { s.line with
        state := .frame, recessiveCount := 0, run := none, startRequest := false, frameBit := 0, bitDrive := false, bitHeld := false,
        echoStopped := false, noise := false } ∧
      t.census.timerMs = 2000 ∧ t.census.windowIndex = 0 ∧ t.census.windowMs = 0 ∧ t.census.number = s.census.number ∧
      t.census.missed = s.census.missed ∧ t.census.participation = s.census.participation ∧ t.census.summary = s.census.summary ∧
      t.feeder = { s.feeder with windowSum := 0, samples := 0, partialWindow := false } ∧ t.roster = s.roster ∧
      t.host = s.host ∧ t.shares = s.shares ∧ t.census.ageMs = s.census.ageMs ∧
      t.census.reachedFrameZero = (s.census.reachedFrameZero || s.census.participation != .offline) ∧ t.minuteMs = s.minuteMs ∧
      t.pending = s.pending ∧ t.outlets.length = s.outlets.length ∧
      (∀ (n : Nat) (o o' : Outlet), s.outlets[n]? = some o → t.outlets[n]? = some o' →
        o'.meter = { o.meter with windowCount := 0 } ∧ o'.setpointDuty = o.setpointDuty ∧ o'.clashCount = o.clashCount ∧
        o'.share = { o.share with target := o'.share.target } ∧
        o'.session = { o.session with
          state := o'.session.state, offer := o'.session.offer, laxity := o'.session.laxity, band := o'.session.band } ∧
        o'.supervision = { o.supervision with
          windowMax := o'.supervision.windowMax, stallCount := o'.supervision.stallCount }) ∧
      (∀ (n : Nat) (o o' : Outlet), s.outlets[n]? = some o → t.outlets[n]? = some o' →
        o.supervision.windowMax ≤ o'.supervision.windowMax ∧
        (o.session.offer < o'.session.offer → o'.session.offer ≤ o'.supervision.windowMax) ∧
        (s.host.profile = none → o'.supervision.windowMax = o.supervision.windowMax) ∧
        (∀ p, s.host.profile = some p → o'.supervision.windowMax ≤ max o.supervision.windowMax (rampTop p o.session.offer))) ∧
      (∀ p, s.host.profile = some p → PostLaw s → s.census.participation ≠ .islanded → RampedTo p s t ∧
        (TargetsSettled p s → ∀ (n : Nat) (o o' : Outlet), s.outlets[n]? = some o → t.outlets[n]? = some o' →
          o'.supervision.windowMax =
            (if o.session.offer < o'.session.offer then max o.supervision.windowMax o'.session.offer else o.supervision.windowMax))) ∧
      (∀ p, s.host.profile = some p → PostLaw s → s.census.participation = .islanded →
        TargetsFollowTable p .islanded s.shares.curtail t.outlets ∧
        ∀ (n : Nat) (o o' : Outlet), s.outlets[n]? = some o → t.outlets[n]? = some o' →
          o'.session.offer ≤ o'.share.target ∧ o'.session.offer ≤ rampTop p o.session.offer ∧ PairFollowsOffer o o' ∧
          (boundaryFirst = false → o'.session.offer = min o'.share.target (rampTop p o.session.offer)) ∧
          (boundaryFirst = true → TargetsSettled p s →
            o'.session.offer = min o'.share.target (min o.share.target (rampTop p o.session.offer)))) ∧
      (s.census.participation = .offline → t.census.frame = none) ∧
      (s.census.participation ≠ .offline →
        ∃ latch, t.census.frame = some ⟨latch, s.census.number + 1#16, true, (false, false), 0#16,
            ⟨0#128, 0#128, 0#128, 0#128⟩, ⟨0#128, 0#128, 0#128, 0#128⟩⟩ ∧ latch.length = t.outlets.length ∧
          ∀ (n : Nat) (o' : Outlet) (x : Latch), t.outlets[n]? = some o' → latch[n]? = some x →
            (x.present = true ↔ o'.session.state ≠ .vacant) ∧
            x.band = (if inPair o'.session.state = true then o'.session.band else .unbanded))

/-- A snapshot point computes t_full = ceil(10 × R / Cmax), the laxity T − t_full clamped into [−2048, 2047] and the band from it and θ; a
session without need takes laxity absent and band none; a VACANT record is not touched (R26 to R29). -/
def Obligations.SnapshotTakesLaxityAndBand : Prop :=
  ∀ (s t : State) (r : Run) (p : Profile) (samples : Nat) (boundaryFirst : Bool) (n : Nat) (o o' : Outlet), LineSampled s →
    s.line.state = .pulse → s.line.run = some r → r.classifiable = true → 6 ≤ samples / 16 → samples / 16 ≤ 11 →
    s.census.participation ≠ .offline → s.host.profile = some p → exec (.trailingEdge samples boundaryFirst) s = .next t →
    s.outlets[n]? = some o → t.outlets[n]? = some o' →
    (o.session.state = .vacant → o'.session.laxity = o.session.laxity ∧ o'.session.band = o.session.band) ∧
    (o.session.state ≠ .vacant → o.session.need = 0 → o'.session.laxity = none ∧ o'.session.band = .unbanded) ∧
    (∀ tFull : Nat, ∀ laxity : Int, o.session.state ≠ .vacant → 0 < o.session.need → 0 < o.session.vanMax →
      10 * o.session.need ≤ tFull * o.session.vanMax →
      (∀ u, u < tFull → u * o.session.vanMax < 10 * o.session.need) →
      laxity = max (-2048) (min 2047 ((o.session.departure : Int) - (tFull : Int))) →
      o'.session.laxity = some laxity ∧
      (laxity ≤ 0 → o'.session.band = .late) ∧
      (0 < laxity → laxity ≤ (p.tightThreshold : Int) → o'.session.band = .tight) ∧
      (0 < laxity → (p.tightThreshold : Int) < laxity → o'.session.band = .steady))

/-- The twelfth recessive bit-time takes SETTLING and STUCK to FREE and serves a standing request: a hush first, with its hold-off started,
then a start pulse, whose request is consumed; nothing is served while a pulse is driven. `share` is dominant while a start pulse or a hush
is driven, and a drive's end releases it; a hush driven whole marks its run; a request that waited for the end is served there on a FREE
line (log entry 9). The hold-off's expiry lets a pending hush stand again, which is driven at once on a FREE line (R40, R41, R45, R48, R50
to R53, R125). -/
def Obligations.FreeLineServesTheDriver : Prop :=
  ∀ (s : State), LineSampled s →
    (s.line.run = none → s.line.drive = .idle → s.line.state = .settling ∨ s.line.state = .stuck →
      (s.feeder.hushPending = true → s.line.holdOffMs = 0 → exec .lineFree s =
        .next { s with line := { s.line with state := .free, recessiveCount := 12, drive := .hush, holdOffMs := 2000 } }) ∧
      (s.feeder.hushPending = false ∨ s.line.holdOffMs ≠ 0 → s.line.startRequest = true → exec .lineFree s =
        .next { s with line := { s.line with
          state := .free, recessiveCount := 12, drive := .startPulse false, startRequest := false } }) ∧
      (s.feeder.hushPending = false ∨ s.line.holdOffMs ≠ 0 → s.line.startRequest = false → exec .lineFree s =
        .next { s with line := { s.line with state := .free, recessiveCount := 12 } })) ∧
    (s.line.run = none → s.line.drive ≠ .idle → s.line.state = .settling ∨ s.line.state = .stuck →
      exec .lineFree s = .next { s with line := { s.line with state := .free, recessiveCount := 12 } }) ∧
    (∀ bitOver, s.line.drive = .startPulse false ∨ s.line.drive = .startPulse true ∨ s.line.drive = .hush →
      shareDriven bitOver s = true) ∧
    (∀ bitOver, s.line.drive = .idle → s.line.bitDrive = false → s.line.bitHeld = false → shareDriven bitOver s = false) ∧
    (∀ sawRun, s.line.drive = .startPulse sawRun → s.line.state ≠ .free →
      exec .startPulseEnd s = .next { s with line := { s.line with drive := .idle } }) ∧
    (∀ r, s.line.drive = .hush → s.line.state ≠ .free → s.line.run = some r →
      exec .hushDriveEnd s =
        .next { s with line := { s.line with drive := .idle, run := some { r with hushComplete := true } } }) ∧
    (∀ l : Transceiver, s.line.state = .free → s.line.run = none →
      (s.feeder.hushPending = true → s.line.holdOffMs = 0 → l = { s.line with drive := .hush, holdOffMs := 2000 }) →
      (s.feeder.hushPending = false ∨ s.line.holdOffMs ≠ 0 → s.line.startRequest = true →
        l = { s.line with drive := .startPulse false, startRequest := false }) →
      (s.feeder.hushPending = false ∨ s.line.holdOffMs ≠ 0 → s.line.startRequest = false → l = { s.line with drive := .idle }) →
      (∀ sawRun, s.line.drive = .startPulse sawRun → exec .startPulseEnd s = .next { s with line := l }) ∧
      (s.line.drive = .hush → exec .hushDriveEnd s = .next { s with line := l })) ∧
    (s.line.holdOffMs ≠ 0 → s.line.state ≠ .free ∨ s.line.drive ≠ .idle →
      exec .hushHoldOffExpiry s = .next { s with line := { s.line with holdOffMs := 0 } }) ∧
    (s.line.holdOffMs ≠ 0 → s.line.state = .free → s.line.drive = .idle → s.feeder.hushPending = true →
      exec .hushHoldOffExpiry s = .next { s with line := { s.line with drive := .hush, holdOffMs := 2000 } })

/-- A run of 600 bit-times takes the line STUCK: every drive is released, STUCK is raised, LINE_STUCK is captured with the frame bit of the
run's edge or 65535, and a census in progress is abandoned, with ABANDONED and a missed period. In STUCK nothing more comes of it (R44, R45,
R58, R69, R80, R81). -/
def Obligations.StuckLineReleasesTheDriver : Prop :=
  ∀ (s : State) (r : Run), LineSampled s → s.line.run = some r →
    (s.line.state ≠ .stuck →
      ∃ t, exec .lineStuck s = .next t ∧
        t.line = { s.line with state := .stuck, recessiveCount := 0, drive := .idle, bitDrive := false, bitHeld := false } ∧
        (∀ bitOver, shareDriven bitOver t = false) ∧
        Flagged t .stuck ∧
        (s.host.firstFault = none → t.host.firstFault =
          some ⟨.lineStuck, none, s.census.number, s.census.windowIndex, r.leadBit.getD 65535⟩) ∧
        t.census.frame = none ∧ t.census.number = s.census.number ∧ t.roster = s.roster ∧ t.census.summary = s.census.summary ∧
        t.feeder = s.feeder ∧ t.shares = s.shares ∧ SameHostBut s t ∧
        (s.census.frame = none ∨ s.census.missed < 2 → t.outlets = s.outlets) ∧
        (s.census.frame = none → t.census = s.census) ∧
        (s.census.frame ≠ none → Flagged t .abandoned ∧
          (s.census.participation ≠ .offline → t.census.missed = min 3 (s.census.missed + 1)))) ∧
    (s.line.state = .stuck → exec .lineStuck s = .next s)

/-- An echo fault in a frame releases the line, stops this part's drive, captures DRIVER with the frame bit and abandons the census; one in
a pulse ends the pulse and captures DRIVER with 65534 or 65535, and a start pulse that left no run, on a line that stayed FREE, is a failed
start attempt; a request that stands then is served (log entry 9); a dominant settle bit abandons the census (R56 to R58, R62, R69, R75,
R80; the form of the rows ECHO_FAULT and SETTLE_FAULT is the model's choice, log entry 2; the third missed period is stated of its own). -/
def Obligations.EchoAndSettleFaults : Prop :=
  ∀ (s : State), LineSampled s →
    (∀ a b c f, s.line.state = .frame → s.line.frameBit < 530 → s.line.bitDrive = true → majority a b c = false →
      s.census.frame = some f →
      ∃ t, exec (.echoFault a b c) s = .next t ∧ exec (.frameBitRead a b c) s = .next t ∧
        t.line = { s.line with
          triple := some (a, b, c), noise := s.line.noise || disagree a b c, frameBit := s.line.frameBit + 1, echoStopped := true,
          bitDrive := false, bitHeld := false } ∧
        t.census.frame = none ∧ t.census.number = s.census.number ∧ Flagged t .abandoned ∧
        t.roster = s.roster ∧ t.feeder = s.feeder ∧ t.shares = s.shares ∧ SameHostBut s t ∧
        (s.census.missed < 2 → t.outlets = s.outlets) ∧
        (s.census.participation ≠ .offline → t.census.missed = min 3 (s.census.missed + 1)) ∧
        (s.host.firstFault = none → t.host.firstFault =
          some ⟨.driver, none, s.census.number, s.census.windowIndex, s.line.frameBit⟩)) ∧
    (∀ a b c, s.line.bitDrive = false ∨ majority a b c = true → exec (.echoFault a b c) s = .next s) ∧
    (∀ a b c f, s.line.state = .frame → s.line.frameBit < 2 → s.line.bitDrive = false → majority a b c = true →
      s.census.frame = some f →
      ∃ t, exec (.settleFault a b c) s = .next t ∧ exec (.frameBitRead a b c) s = .next t ∧ t.census.frame = none ∧
        t.line.bitDrive = false ∧ t.line.bitHeld = false ∧ t.line.frameBit = s.line.frameBit + 1 ∧ t.line.state = .frame ∧
        t.census.number = s.census.number ∧ t.roster = s.roster ∧ Flagged t .abandoned ∧
        t.feeder = s.feeder ∧ t.shares = s.shares ∧ SameHostBut s t ∧ t.host.firstFault = s.host.firstFault ∧
        (s.census.missed < 2 → t.outlets = s.outlets) ∧
        (s.census.participation ≠ .offline → t.census.missed = min 3 (s.census.missed + 1))) ∧
    (∀ a b c, 2 ≤ s.line.frameBit ∨ majority a b c = false → exec (.settleFault a b c) s = .next s) ∧
    (∀ (h : HostLink) (l : Transceiver) (value : Nat),
      h = { s.host with
        firstFault := some (s.host.firstFault.getD ⟨.driver, none, s.census.number, s.census.windowIndex, value⟩)
        furtherFaults := s.host.furtherFaults || s.host.firstFault.isSome } →
      (s.line.state ≠ .free ∨ (s.line.startRequest = false ∧ (s.feeder.hushPending = false ∨ s.line.holdOffMs ≠ 0)) →
        l = { s.line with drive := .idle }) →
      (s.line.state = .free → s.feeder.hushPending = true → s.line.holdOffMs = 0 →
        l = { s.line with drive := .hush, holdOffMs := 2000 }) →
      (s.line.state = .free → s.feeder.hushPending = false ∨ s.line.holdOffMs ≠ 0 → s.line.startRequest = true →
        l = { s.line with drive := .startPulse false, startRequest := false }) →
      (s.line.drive = .hush → value = 65535 → exec .echoFaultPulse s = .next { s with line := l, host := h }) ∧
      (s.line.drive = .startPulse true → value = 65534 → exec .echoFaultPulse s = .next { s with line := l, host := h }) ∧
      (s.line.drive = .startPulse false → value = 65534 →
        s.census.missed ≠ 2 ∨ s.census.participation = .offline ∨ s.census.participation = .islanded →
        exec .echoFaultPulse s = .next { s with
          line := l
          host := h
          census := { s.census with
            missed := if s.census.participation = .offline then s.census.missed else min 3 (s.census.missed + 1) } })) ∧
    (s.line.drive = .idle → exec .echoFaultPulse s = .next s)

/-- A frame bit that is read is the majority of its three samples; three that differ set the noise mark; a census in progress stores a bit
of the number at its weight and a bit of a map at its seat, with what this part drove, and yields where it reads a 1 at a 0 of its
candidate. The next bit is driven from its start where it is a 1 of the candidate of a part that still sends, or the Present bit of an own
seat whose latch is present, or the bit of the one band map that its latch names; bits 0 and 1 and, after an echo fault, any bit are not.
The drive of the bit read is held to its end (R32, R54 to R56, R72, R73, R75; that the end of a bit comes as an operand of shareDriven is
log entry 17). -/
def Obligations.FrameBitIsStored : Prop :=
  (∀ (base seat : Nat) (f : Frame), seat < 128 →
    (drivesBit base f (146 + seat)).toNat + (drivesBit base f (274 + seat)).toNat + (drivesBit base f (402 + seat)).toNat ≤
      (drivesBit base f (18 + seat)).toNat) ∧
  ∀ (s : State) (a b c v : Bool), LineSampled s → s.line.state = .frame → s.line.frameBit < 530 →
    v = decide (2 ≤ a.toNat + b.toNat + c.toNat) →
    ∀ l : Transceiver, l = { s.line with
      triple := some (a, b, c), noise := s.line.noise || !(a == b && b == c), frameBit := s.line.frameBit + 1,
      bitHeld := s.line.bitDrive } →
    (s.census.frame = none → s.line.bitDrive = false →
      exec (.frameBitRead a b c) s = .next { s with line := { l with bitDrive := false } }) ∧
    (∀ f f' : Frame, s.census.frame = some f → s.line.bitDrive = false ∨ v = true → 2 ≤ s.line.frameBit ∨ v = false →
      (s.line.frameBit = 0 → f' = { f with settle := (v, f.settle.2) }) →
      (s.line.frameBit = 1 → f' = { f with settle := (f.settle.1, v) }) →
      (∀ j, j < 16 → s.line.frameBit = 2 + j →
        f' = { f with
          number := if v then f.number ||| BitVec.twoPow 16 (15 - j) else f.number
          sending := f.sending && !(v && !f.candidate.getLsbD (15 - j)) }) →
      (∀ seat, seat < 128 → s.line.frameBit = 18 + seat →
        f' = { f with
          read.present := if v then f.read.present ||| BitVec.twoPow 128 seat else f.read.present
          driven.present := if s.line.bitDrive then f.driven.present ||| BitVec.twoPow 128 seat else f.driven.present }) →
      (∀ seat, seat < 128 → s.line.frameBit = 146 + seat →
        f' = { f with
          read.late := if v then f.read.late ||| BitVec.twoPow 128 seat else f.read.late
          driven.late := if s.line.bitDrive then f.driven.late ||| BitVec.twoPow 128 seat else f.driven.late }) →
      (∀ seat, seat < 128 → s.line.frameBit = 274 + seat →
        f' = { f with
          read.tight := if v then f.read.tight ||| BitVec.twoPow 128 seat else f.read.tight
          driven.tight := if s.line.bitDrive then f.driven.tight ||| BitVec.twoPow 128 seat else f.driven.tight }) →
      (∀ seat, seat < 128 → s.line.frameBit = 402 + seat →
        f' = { f with
          read.steady := if v then f.read.steady ||| BitVec.twoPow 128 seat else f.read.steady
          driven.steady := if s.line.bitDrive then f.driven.steady ||| BitVec.twoPow 128 seat else f.driven.steady }) →
      ∃ t drives, exec (.frameBitRead a b c) s = .next t ∧
        t = { s with line := { l with bitDrive := drives }, census := { s.census with frame := some f' } } ∧
        (s.line.drive = .idle → shareDriven false t = s.line.bitDrive ∧ shareDriven true t = drives) ∧
        (drives = true ↔ s.line.echoStopped = false ∧
          ((∃ j, j < 16 ∧ s.line.frameBit + 1 = 2 + j ∧ f'.sending = true ∧ f'.candidate.getLsbD (15 - j) = true) ∨
            ∃ (n : Nat) (x : Latch), f'.latch[n]? = some x ∧ x.present = true ∧ s.host.straps.seatBase + n < 128 ∧
              (s.line.frameBit + 1 = 18 + (s.host.straps.seatBase + n) ∨
                (s.line.frameBit + 1 = 146 + (s.host.straps.seatBase + n) ∧ x.band = .late) ∨
                (s.line.frameBit + 1 = 274 + (s.host.straps.seatBase + n) ∧ x.band = .tight) ∨
                (s.line.frameBit + 1 = 402 + (s.host.straps.seatBase + n) ∧ x.band = .steady)))))

/-- Arbitration of the census number: a part whose driven bits all read dominant reads a value no smaller than its own candidate, keeps
sending to the end exactly where it reads its own candidate, and reads exactly the sixteen values of the line, most significant bit first;
and the parts of a set whose driven bits the line ORs all read the largest of their candidates (R73). -/
def Obligations.ArbitrationReadsTheLargest : Prop :=
  (∀ (line : Nat → Bool) (f g : Frame), f.sending = true → f.number = 0#16 → g = readNumber line 16 f →
    (∀ j, j < 16 → drivesBit 0 (readNumber line j f) (2 + j) = true → line (2 + j) = true) →
    f.candidate.toNat ≤ g.number.toNat ∧ (g.sending = true ↔ g.number = f.candidate) ∧ g.candidate = f.candidate ∧
    g.latch = f.latch ∧ g.read = f.read ∧ g.driven = f.driven ∧ g.settle = f.settle ∧
    ∀ j, j < 16 → g.number.getLsbD (15 - j) = line (2 + j)) ∧
  ∀ (line : Nat → Bool) (parts : List Frame), (∀ f ∈ parts, f.sending = true ∧ f.number = 0#16) →
    (∀ j, j < 16 → line (2 + j) = parts.any fun f => drivesBit 0 (readNumber line j f) (2 + j)) →
    ∀ f ∈ parts,
      (∀ g ∈ parts, g.candidate.toNat ≤ (readNumber line 16 f).number.toNat) ∧
      ∃ g ∈ parts, (readNumber line 16 f).number = g.candidate

/-- A census timer expiry loads the timer anew; in OFFLINE it does nothing else; elsewhere it places the start request, which a FREE line
with no hush to send serves at once, or keeps while a pulse is driven, and which counts a missed period on any other line; in ISLANDED the
bands are taken and the targets made of them by the fallback, under the law of the post: min(Cmax, Ifb) for a banded session while the
curtail count is 0, and otherwise I_min for a Late one and 0, within the post cap (R30, R37, R50, R60, R61, R65, R69, R71, R138 to R141;
before the first frame zero taken part in, whether the bands are taken is left open, log entry 20). -/
def Obligations.CensusTimerExpiryActsByState : Prop :=
  ∀ s : State, s.host.resetHeld = [] →
    (s.census.participation = .offline →
      exec .censusTimerExpiry s = .next { s with census := { s.census with timerMs := 2000 } }) ∧
    (s.census.participation = .listening ∨ s.census.participation = .joined → s.line.state = .free → s.line.drive = .idle →
      s.feeder.hushPending = false ∨ s.line.holdOffMs ≠ 0 → s.host.straps.rate ≠ 3 →
      exec .censusTimerExpiry s = .next { s with
        census := { s.census with timerMs := 2000 }
        line := { s.line with drive := .startPulse false, startRequest := false } }) ∧
    (s.census.participation = .listening ∨ s.census.participation = .joined → s.line.state = .free → s.line.drive ≠ .idle →
      exec .censusTimerExpiry s = .next { s with
        census := { s.census with timerMs := 2000 }
        line := { s.line with startRequest := true } }) ∧
    (s.census.participation = .listening ∨ s.census.participation = .joined → s.line.state ≠ .free → s.census.missed < 2 →
      exec .censusTimerExpiry s = .next { s with
        census := { s.census with timerMs := 2000, missed := s.census.missed + 1 }
        line := { s.line with startRequest := true } }) ∧
    (∀ p, s.census.participation = .islanded → s.line.state ≠ .free → s.host.profile = some p →
      ∃ t, exec .censusTimerExpiry s = .next t ∧
        t = { s with
          census := { s.census with timerMs := 2000, missed := min 3 (s.census.missed + 1) }
          line := { s.line with startRequest := true }
          outlets := retarget p .islanded s.shares.curtail true
            (s.outlets.map fun o => { o with session := sessionAtExpiry p s o.session }) } ∧
        (PostLaw s → TargetsFollowTable p .islanded s.shares.curtail t.outlets)) ∧
    (∀ p, s.census.participation = .islanded → s.line.state = .free → s.line.drive = .idle →
      s.feeder.hushPending = false ∨ s.line.holdOffMs ≠ 0 → s.host.straps.rate ≠ 3 → s.host.profile = some p →
      ∃ t, exec .censusTimerExpiry s = .next t ∧
        t = { s with
          census := { s.census with timerMs := 2000 }
          line := { s.line with drive := .startPulse false, startRequest := false }
          outlets := retarget p .islanded s.shares.curtail true
            (s.outlets.map fun o => { o with session := sessionAtExpiry p s o.session }) } ∧
        (PostLaw s → TargetsFollowTable p .islanded s.shares.curtail t.outlets))

/-- The third missed period takes a LISTENING or JOINED part to ISLANDED, at whichever event it is counted: an expiry on a line that is not
FREE, the end of a run in which this part drove a start pulse that became no frame, a start pulse that left no run, an echo fault or a
dominant settle bit in a census, or a stuck line in one. The event is raised, B is 0 everywhere and the targets are made by the fallback of
R138, under the law of the post within the post cap, on bands taken afresh at an expiry and as stored elsewhere. Where the count does not
stand at 2, in OFFLINE and ISLANDED, and where the event counts no missed period, the count does not reach 3 and the row is no event (R30,
R37, R62, R69, R70, R80, R138 to R141; the form of the row is the model's choice, log entry 2, and so is the curtailment before the missed
period at a hush-class run in which this part drove a start pulse, log entry 6; whether the bands are taken afresh before the first frame
zero taken part in is left open, log entry 20; a trailing edge of 600 bit-times in FRAME is log entry 14's). -/
def Obligations.ThirdMissedPeriodIslandsThePart : Prop :=
  (∀ (s : State) (cause : MissedBy),
    s.census.missed ≠ 2 ∨ s.census.participation = .offline ∨ s.census.participation = .islanded →
    exec (.islanded cause) s = .next s) ∧
  ∀ (s : State) (p : Profile), LineSampled s → s.host.profile = some p → s.census.missed = 2 →
    s.census.participation = .listening ∨ s.census.participation = .joined →
    (∀ (cause : MissedBy) (event : Instr),
      (cause = .timerExpiry ∧ event = .censusTimerExpiry ∧ s.line.state ≠ .free) ∨
      (∃ r samples boundaryFirst, cause = .runEnd samples boundaryFirst ∧ event = .trailingEdge samples boundaryFirst ∧
        s.line.run = some r ∧
        ((s.line.state = .pulse ∧ r.classifiable = true ∧ r.droveStart = true ∧
            (samples / 16 ≤ 5 ∨ (12 ≤ samples / 16 ∧ samples / 16 ≤ 599))) ∨
          (s.line.state = .frame ∧ s.census.frame ≠ none ∧ 600 ≤ samples / 16))) ∨
      (cause = .pulseEcho ∧ event = .echoFaultPulse ∧ s.line.drive = .startPulse false) ∨
      (∃ a b c, cause = .bitRead a b c ∧ event = .frameBitRead a b c ∧ s.line.state = .frame ∧ s.line.frameBit < 530 ∧
        s.census.frame ≠ none ∧
        ((s.line.bitDrive = true ∧ majority a b c = false) ∨
          (s.line.bitDrive = false ∧ s.line.frameBit < 2 ∧ majority a b c = true))) ∨
      (∃ r, cause = .lineStuck ∧ event = .lineStuck ∧ s.line.run = some r ∧ s.line.state ≠ .stuck ∧ s.census.frame ≠ none) →
      ∃ t, exec (.islanded cause) s = .next t ∧ exec event s = .next t ∧ t.census.participation = .islanded ∧
        t.census.missed = 3 ∧ Flagged t .islanded ∧ t.census.number = s.census.number ∧ t.census.summary = s.census.summary ∧
        t.roster = s.roster ∧ SameHostBut s t ∧ t.outlets.length = s.outlets.length ∧ (∀ o ∈ t.outlets, o.share.b = 0) ∧
        t.census.reachedFrameZero = s.census.reachedFrameZero ∧
        (∀ (n : Nat) (o o' : Outlet), s.outlets[n]? = some o → t.outlets[n]? = some o' → cause ≠ .timerExpiry →
          o'.session.band = o.session.band) ∧
        (PostLaw s → TargetsFollowTable p .islanded t.shares.curtail t.outlets)) ∧
    (s.line.state ≠ .free →
      exec (.islanded .timerExpiry) s = .next { s with
        census := { s.census with timerMs := 2000, missed := 3, participation := .islanded }
        line := { s.line with startRequest := true }
        host.events := s.host.events ||| eventFlag .islanded
        outlets := retarget p .islanded s.shares.curtail true
          (s.outlets.map fun o =>
            { o with session := sessionAtExpiry p s o.session, share := { o.share with b := 0 } }) }) ∧
    (∀ r, s.line.run = some r → s.line.state ≠ .stuck → s.census.frame ≠ none →
      ∃ t, exec (.islanded .lineStuck) s = .next t ∧ t.outlets = retarget p .islanded s.shares.curtail true
        (s.outlets.map fun o => { o with share := { o.share with b := 0 } })) ∧
    (s.line.state = .free → exec (.islanded .timerExpiry) s = .next s) ∧
    (∀ r samples boundaryFirst, s.line.run = some r →
      (s.line.state = .pulse ∧ samples / 16 < 600 ∧
          (r.classifiable = false ∨ r.droveStart = false ∨ (6 ≤ samples / 16 ∧ samples / 16 ≤ 11))) ∨
        (s.line.state = .frame ∧ samples / 16 < 600) ∨ s.line.state = .stuck ∨ (s.census.frame = none ∧ 600 ≤ samples / 16) →
      exec (.islanded (.runEnd samples boundaryFirst)) s = .next s) ∧
    (s.line.drive ≠ .startPulse false → exec (.islanded .pulseEcho) s = .next s) ∧
    (∀ a b c, s.census.frame = none ∨
        ((s.line.bitDrive = false ∨ majority a b c = true) ∧ (2 ≤ s.line.frameBit ∨ majority a b c = false)) →
      exec (.islanded (.bitRead a b c)) s = .next s) ∧
    (s.line.run = none ∨ s.line.state = .stuck ∨ s.census.frame = none → exec (.islanded .lineStuck) s = .next s)

/-- The summary's age goes up by 1 every 2 s, saturating; each setpoint output takes the duty of its offer at the period start, which is one
for all outlets (log entry 24); and a feeder sample adds its code to the window sum under a profile (R84, R112, R145). -/
def Obligations.AgeDutyAndSample : Prop :=
  ∀ s : State, s.host.resetHeld = [] →
    (∀ m, s.census.summary = some m →
      exec .summaryAgeTick s =
        .next { s with census := { s.census with summary := some { m with age := min (m.age + 1) 65535 }, ageMs := some 2000 } }) ∧
    (s.census.summary = none → exec .summaryAgeTick s = .next s) ∧
    (∃ t, exec .pwmPeriodStart s = .next t ∧ t = { s with outlets := t.outlets } ∧ t.outlets.length = s.outlets.length ∧
      (∀ (n : Nat) (o : Outlet), s.outlets[n]? = some o →
        t.outlets[n]? = some { o with setpointDuty := o.session.offer * 1000 / 800 } ∧ setpointDuty t n = o.session.offer * 1000 / 800) ∧
      ∀ n, s.outlets.length ≤ n → setpointDuty t n = 0) ∧
    (∀ code : BitVec 10, s.host.profile ≠ none → s.feeder.samples < 40 →
      exec (.feederSample code) s =
        .next { s with feeder := { s.feeder with windowSum := s.feeder.windowSum + code.toNat, samples := s.feeder.samples + 1 } }) ∧
    (∀ code : BitVec 10, s.host.profile = none → exec (.feederSample code) s = .next s)
end

