-- ==== Sys2Proof/Laws/State.lean ====
section
/-! SUPPORT. One lemma for each field and each named update of the state, true by unfolding the update, so that later proofs never
unfold a record update. -/

namespace Sys2Proof.Machine

@[simp] theorem raise_straps (e : Event) (s : State) : (raise e s).host.straps = s.host.straps := rfl
@[simp] theorem raise_profile (e : Event) (s : State) : (raise e s).host.profile = s.host.profile := rfl
@[simp] theorem raise_mask (e : Event) (s : State) : (raise e s).host.mask = s.host.mask := rfl
@[simp] theorem raise_firstFault (e : Event) (s : State) : (raise e s).host.firstFault = s.host.firstFault := rfl
@[simp] theorem raise_furtherFaults (e : Event) (s : State) : (raise e s).host.furtherFaults = s.host.furtherFaults := rfl
@[simp] theorem raise_response (e : Event) (s : State) : (raise e s).host.response = s.host.response := rfl
@[simp] theorem raise_resetHeld (e : Event) (s : State) : (raise e s).host.resetHeld = s.host.resetHeld := rfl
@[simp] theorem raise_ignoreTransaction (e : Event) (s : State) : (raise e s).host.ignoreTransaction = s.host.ignoreTransaction := rfl
@[simp] theorem raise_line (e : Event) (s : State) : (raise e s).line = s.line := rfl
@[simp] theorem raise_census (e : Event) (s : State) : (raise e s).census = s.census := rfl
@[simp] theorem raise_roster (e : Event) (s : State) : (raise e s).roster = s.roster := rfl
@[simp] theorem raise_feeder (e : Event) (s : State) : (raise e s).feeder = s.feeder := rfl
@[simp] theorem raise_shares (e : Event) (s : State) : (raise e s).shares = s.shares := rfl
@[simp] theorem raise_outlets (e : Event) (s : State) : (raise e s).outlets = s.outlets := rfl
@[simp] theorem raise_minuteMs (e : Event) (s : State) : (raise e s).minuteMs = s.minuteMs := rfl
@[simp] theorem raise_pending (e : Event) (s : State) : (raise e s).pending = s.pending := rfl
@[simp] theorem raise_events (e : Event) (s : State) : (raise e s).host.events = s.host.events ||| eventFlag e := rfl

@[simp] theorem clearEvents_straps (named : EventSet) (s : State) : (clearEvents named s).host.straps = s.host.straps := rfl
@[simp] theorem clearEvents_profile (named : EventSet) (s : State) : (clearEvents named s).host.profile = s.host.profile := rfl
@[simp] theorem clearEvents_mask (named : EventSet) (s : State) : (clearEvents named s).host.mask = s.host.mask := rfl
@[simp] theorem clearEvents_firstFault (named : EventSet) (s : State) : (clearEvents named s).host.firstFault = s.host.firstFault := rfl
@[simp] theorem clearEvents_furtherFaults (named : EventSet) (s : State) : (clearEvents named s).host.furtherFaults = s.host.furtherFaults := rfl
@[simp] theorem clearEvents_response (named : EventSet) (s : State) : (clearEvents named s).host.response = s.host.response := rfl
@[simp] theorem clearEvents_resetHeld (named : EventSet) (s : State) : (clearEvents named s).host.resetHeld = s.host.resetHeld := rfl
@[simp] theorem clearEvents_ignoreTransaction (named : EventSet) (s : State) : (clearEvents named s).host.ignoreTransaction = s.host.ignoreTransaction := rfl
@[simp] theorem clearEvents_line (named : EventSet) (s : State) : (clearEvents named s).line = s.line := rfl
@[simp] theorem clearEvents_census (named : EventSet) (s : State) : (clearEvents named s).census = s.census := rfl
@[simp] theorem clearEvents_roster (named : EventSet) (s : State) : (clearEvents named s).roster = s.roster := rfl
@[simp] theorem clearEvents_feeder (named : EventSet) (s : State) : (clearEvents named s).feeder = s.feeder := rfl
@[simp] theorem clearEvents_shares (named : EventSet) (s : State) : (clearEvents named s).shares = s.shares := rfl
@[simp] theorem clearEvents_outlets (named : EventSet) (s : State) : (clearEvents named s).outlets = s.outlets := rfl
@[simp] theorem clearEvents_minuteMs (named : EventSet) (s : State) : (clearEvents named s).minuteMs = s.minuteMs := rfl
@[simp] theorem clearEvents_pending (named : EventSet) (s : State) : (clearEvents named s).pending = s.pending := rfl
@[simp] theorem clearEvents_events (named : EventSet) (s : State) : (clearEvents named s).host.events = s.host.events &&& ~~~named := rfl

@[simp] theorem setAttentionMask_straps (body : EventSet) (s : State) : (setAttentionMask body s).host.straps = s.host.straps := rfl
@[simp] theorem setAttentionMask_profile (body : EventSet) (s : State) : (setAttentionMask body s).host.profile = s.host.profile := rfl
@[simp] theorem setAttentionMask_events (body : EventSet) (s : State) : (setAttentionMask body s).host.events = s.host.events := rfl
@[simp] theorem setAttentionMask_firstFault (body : EventSet) (s : State) : (setAttentionMask body s).host.firstFault = s.host.firstFault := rfl
@[simp] theorem setAttentionMask_furtherFaults (body : EventSet) (s : State) : (setAttentionMask body s).host.furtherFaults = s.host.furtherFaults := rfl
@[simp] theorem setAttentionMask_response (body : EventSet) (s : State) : (setAttentionMask body s).host.response = s.host.response := rfl
@[simp] theorem setAttentionMask_resetHeld (body : EventSet) (s : State) : (setAttentionMask body s).host.resetHeld = s.host.resetHeld := rfl
@[simp] theorem setAttentionMask_ignoreTransaction (body : EventSet) (s : State) : (setAttentionMask body s).host.ignoreTransaction = s.host.ignoreTransaction := rfl
@[simp] theorem setAttentionMask_line (body : EventSet) (s : State) : (setAttentionMask body s).line = s.line := rfl
@[simp] theorem setAttentionMask_census (body : EventSet) (s : State) : (setAttentionMask body s).census = s.census := rfl
@[simp] theorem setAttentionMask_roster (body : EventSet) (s : State) : (setAttentionMask body s).roster = s.roster := rfl
@[simp] theorem setAttentionMask_feeder (body : EventSet) (s : State) : (setAttentionMask body s).feeder = s.feeder := rfl
@[simp] theorem setAttentionMask_shares (body : EventSet) (s : State) : (setAttentionMask body s).shares = s.shares := rfl
@[simp] theorem setAttentionMask_outlets (body : EventSet) (s : State) : (setAttentionMask body s).outlets = s.outlets := rfl
@[simp] theorem setAttentionMask_minuteMs (body : EventSet) (s : State) : (setAttentionMask body s).minuteMs = s.minuteMs := rfl
@[simp] theorem setAttentionMask_pending (body : EventSet) (s : State) : (setAttentionMask body s).pending = s.pending := rfl
@[simp] theorem setAttentionMask_mask (body : EventSet) (s : State) : (setAttentionMask body s).host.mask = maskOf body := rfl

@[simp] theorem respond_straps (code : Byte) (status : Status) (body : List Byte) (s : State) : (respond code status body s).host.straps = s.host.straps := rfl
@[simp] theorem respond_profile (code : Byte) (status : Status) (body : List Byte) (s : State) : (respond code status body s).host.profile = s.host.profile := rfl
@[simp] theorem respond_events (code : Byte) (status : Status) (body : List Byte) (s : State) : (respond code status body s).host.events = s.host.events := rfl
@[simp] theorem respond_mask (code : Byte) (status : Status) (body : List Byte) (s : State) : (respond code status body s).host.mask = s.host.mask := rfl
@[simp] theorem respond_firstFault (code : Byte) (status : Status) (body : List Byte) (s : State) : (respond code status body s).host.firstFault = s.host.firstFault := rfl
@[simp] theorem respond_furtherFaults (code : Byte) (status : Status) (body : List Byte) (s : State) : (respond code status body s).host.furtherFaults = s.host.furtherFaults := rfl
@[simp] theorem respond_resetHeld (code : Byte) (status : Status) (body : List Byte) (s : State) : (respond code status body s).host.resetHeld = s.host.resetHeld := rfl
@[simp] theorem respond_ignoreTransaction (code : Byte) (status : Status) (body : List Byte) (s : State) : (respond code status body s).host.ignoreTransaction = s.host.ignoreTransaction := rfl
@[simp] theorem respond_line (code : Byte) (status : Status) (body : List Byte) (s : State) : (respond code status body s).line = s.line := rfl
@[simp] theorem respond_census (code : Byte) (status : Status) (body : List Byte) (s : State) : (respond code status body s).census = s.census := rfl
@[simp] theorem respond_roster (code : Byte) (status : Status) (body : List Byte) (s : State) : (respond code status body s).roster = s.roster := rfl
@[simp] theorem respond_feeder (code : Byte) (status : Status) (body : List Byte) (s : State) : (respond code status body s).feeder = s.feeder := rfl
@[simp] theorem respond_shares (code : Byte) (status : Status) (body : List Byte) (s : State) : (respond code status body s).shares = s.shares := rfl
@[simp] theorem respond_outlets (code : Byte) (status : Status) (body : List Byte) (s : State) : (respond code status body s).outlets = s.outlets := rfl
@[simp] theorem respond_minuteMs (code : Byte) (status : Status) (body : List Byte) (s : State) : (respond code status body s).minuteMs = s.minuteMs := rfl
@[simp] theorem respond_pending (code : Byte) (status : Status) (body : List Byte) (s : State) : (respond code status body s).pending = s.pending := rfl
@[simp] theorem respond_response (code : Byte) (status : Status) (body : List Byte) (s : State) : (respond code status body s).host.response = ⟨code, status, body⟩ := rfl

@[simp] theorem modifyOutlet_host (n : Nat) (f : Outlet → Outlet) (s : State) : (modifyOutlet n f s).host = s.host := rfl
@[simp] theorem modifyOutlet_line (n : Nat) (f : Outlet → Outlet) (s : State) : (modifyOutlet n f s).line = s.line := rfl
@[simp] theorem modifyOutlet_census (n : Nat) (f : Outlet → Outlet) (s : State) : (modifyOutlet n f s).census = s.census := rfl
@[simp] theorem modifyOutlet_roster (n : Nat) (f : Outlet → Outlet) (s : State) : (modifyOutlet n f s).roster = s.roster := rfl
@[simp] theorem modifyOutlet_feeder (n : Nat) (f : Outlet → Outlet) (s : State) : (modifyOutlet n f s).feeder = s.feeder := rfl
@[simp] theorem modifyOutlet_shares (n : Nat) (f : Outlet → Outlet) (s : State) : (modifyOutlet n f s).shares = s.shares := rfl
@[simp] theorem modifyOutlet_minuteMs (n : Nat) (f : Outlet → Outlet) (s : State) : (modifyOutlet n f s).minuteMs = s.minuteMs := rfl
@[simp] theorem modifyOutlet_pending (n : Nat) (f : Outlet → Outlet) (s : State) : (modifyOutlet n f s).pending = s.pending := rfl
@[simp] theorem modifyOutlet_outlets (n : Nat) (f : Outlet → Outlet) (s : State) : (modifyOutlet n f s).outlets = s.outlets.modify n f := rfl

@[simp] theorem mapOutlets_host (f : Outlet → Outlet) (s : State) : (mapOutlets f s).host = s.host := rfl
@[simp] theorem mapOutlets_line (f : Outlet → Outlet) (s : State) : (mapOutlets f s).line = s.line := rfl
@[simp] theorem mapOutlets_census (f : Outlet → Outlet) (s : State) : (mapOutlets f s).census = s.census := rfl
@[simp] theorem mapOutlets_roster (f : Outlet → Outlet) (s : State) : (mapOutlets f s).roster = s.roster := rfl
@[simp] theorem mapOutlets_feeder (f : Outlet → Outlet) (s : State) : (mapOutlets f s).feeder = s.feeder := rfl
@[simp] theorem mapOutlets_shares (f : Outlet → Outlet) (s : State) : (mapOutlets f s).shares = s.shares := rfl
@[simp] theorem mapOutlets_minuteMs (f : Outlet → Outlet) (s : State) : (mapOutlets f s).minuteMs = s.minuteMs := rfl
@[simp] theorem mapOutlets_pending (f : Outlet → Outlet) (s : State) : (mapOutlets f s).pending = s.pending := rfl
@[simp] theorem mapOutlets_outlets (f : Outlet → Outlet) (s : State) : (mapOutlets f s).outlets = s.outlets.map f := rfl

@[simp] theorem curtailBorrow_host (s : State) : (curtailBorrow s).host = s.host := rfl
@[simp] theorem curtailBorrow_line (s : State) : (curtailBorrow s).line = s.line := rfl
@[simp] theorem curtailBorrow_census (s : State) : (curtailBorrow s).census = s.census := rfl
@[simp] theorem curtailBorrow_roster (s : State) : (curtailBorrow s).roster = s.roster := rfl
@[simp] theorem curtailBorrow_feeder (s : State) : (curtailBorrow s).feeder = s.feeder := rfl
@[simp] theorem curtailBorrow_outlets (s : State) : (curtailBorrow s).outlets = s.outlets := rfl
@[simp] theorem curtailBorrow_minuteMs (s : State) : (curtailBorrow s).minuteMs = s.minuteMs := rfl
@[simp] theorem curtailBorrow_pending (s : State) : (curtailBorrow s).pending = s.pending := rfl
@[simp] theorem curtailBorrow_curtail (s : State) : (curtailBorrow s).shares.curtail = 3 := rfl
@[simp] theorem curtailBorrow_pool (s : State) : (curtailBorrow s).shares.pool = s.shares.pool := rfl
@[simp] theorem curtailBorrow_poolRemainder (s : State) : (curtailBorrow s).shares.poolRemainder = s.shares.poolRemainder := rfl

@[simp] theorem placeStartRequest_host (s : State) : (placeStartRequest s).host = s.host := rfl
@[simp] theorem placeStartRequest_census (s : State) : (placeStartRequest s).census = s.census := rfl
@[simp] theorem placeStartRequest_roster (s : State) : (placeStartRequest s).roster = s.roster := rfl
@[simp] theorem placeStartRequest_feeder (s : State) : (placeStartRequest s).feeder = s.feeder := rfl
@[simp] theorem placeStartRequest_shares (s : State) : (placeStartRequest s).shares = s.shares := rfl
@[simp] theorem placeStartRequest_outlets (s : State) : (placeStartRequest s).outlets = s.outlets := rfl
@[simp] theorem placeStartRequest_minuteMs (s : State) : (placeStartRequest s).minuteMs = s.minuteMs := rfl
@[simp] theorem placeStartRequest_pending (s : State) : (placeStartRequest s).pending = s.pending := rfl

@[simp] theorem feederCutWindow_host (s : State) : (feederCutWindow s).host = s.host := rfl
@[simp] theorem feederCutWindow_line (s : State) : (feederCutWindow s).line = s.line := rfl
@[simp] theorem feederCutWindow_census (s : State) : (feederCutWindow s).census = s.census := rfl
@[simp] theorem feederCutWindow_roster (s : State) : (feederCutWindow s).roster = s.roster := rfl
@[simp] theorem feederCutWindow_shares (s : State) : (feederCutWindow s).shares = s.shares := rfl
@[simp] theorem feederCutWindow_outlets (s : State) : (feederCutWindow s).outlets = s.outlets := rfl
@[simp] theorem feederCutWindow_minuteMs (s : State) : (feederCutWindow s).minuteMs = s.minuteMs := rfl
@[simp] theorem feederCutWindow_pending (s : State) : (feederCutWindow s).pending = s.pending := rfl

@[simp] theorem capture_straps (k : FaultKind) (n : Option Nat) (v : Nat) (s : State) : (capture k n v s).host.straps = s.host.straps := by unfold capture; split <;> rfl
@[simp] theorem capture_profile (k : FaultKind) (n : Option Nat) (v : Nat) (s : State) : (capture k n v s).host.profile = s.host.profile := by unfold capture; split <;> rfl
@[simp] theorem capture_events (k : FaultKind) (n : Option Nat) (v : Nat) (s : State) : (capture k n v s).host.events = s.host.events := by unfold capture; split <;> rfl
@[simp] theorem capture_mask (k : FaultKind) (n : Option Nat) (v : Nat) (s : State) : (capture k n v s).host.mask = s.host.mask := by unfold capture; split <;> rfl
@[simp] theorem capture_response (k : FaultKind) (n : Option Nat) (v : Nat) (s : State) : (capture k n v s).host.response = s.host.response := by unfold capture; split <;> rfl
@[simp] theorem capture_resetHeld (k : FaultKind) (n : Option Nat) (v : Nat) (s : State) : (capture k n v s).host.resetHeld = s.host.resetHeld := by unfold capture; split <;> rfl
@[simp] theorem capture_ignoreTransaction (k : FaultKind) (n : Option Nat) (v : Nat) (s : State) : (capture k n v s).host.ignoreTransaction = s.host.ignoreTransaction := by unfold capture; split <;> rfl
@[simp] theorem capture_line (k : FaultKind) (n : Option Nat) (v : Nat) (s : State) : (capture k n v s).line = s.line := by unfold capture; split <;> rfl
@[simp] theorem capture_census (k : FaultKind) (n : Option Nat) (v : Nat) (s : State) : (capture k n v s).census = s.census := by unfold capture; split <;> rfl
@[simp] theorem capture_roster (k : FaultKind) (n : Option Nat) (v : Nat) (s : State) : (capture k n v s).roster = s.roster := by unfold capture; split <;> rfl
@[simp] theorem capture_feeder (k : FaultKind) (n : Option Nat) (v : Nat) (s : State) : (capture k n v s).feeder = s.feeder := by unfold capture; split <;> rfl
@[simp] theorem capture_shares (k : FaultKind) (n : Option Nat) (v : Nat) (s : State) : (capture k n v s).shares = s.shares := by unfold capture; split <;> rfl
@[simp] theorem capture_outlets (k : FaultKind) (n : Option Nat) (v : Nat) (s : State) : (capture k n v s).outlets = s.outlets := by unfold capture; split <;> rfl
@[simp] theorem capture_minuteMs (k : FaultKind) (n : Option Nat) (v : Nat) (s : State) : (capture k n v s).minuteMs = s.minuteMs := by unfold capture; split <;> rfl
@[simp] theorem capture_pending (k : FaultKind) (n : Option Nat) (v : Nat) (s : State) : (capture k n v s).pending = s.pending := by unfold capture; split <;> rfl

@[simp] theorem raiseIf_straps (c : Bool) (e : Event) (s : State) : (raiseIf c e s).host.straps = s.host.straps := by unfold raiseIf; split <;> rfl
@[simp] theorem raiseIf_profile (c : Bool) (e : Event) (s : State) : (raiseIf c e s).host.profile = s.host.profile := by unfold raiseIf; split <;> rfl
@[simp] theorem raiseIf_mask (c : Bool) (e : Event) (s : State) : (raiseIf c e s).host.mask = s.host.mask := by unfold raiseIf; split <;> rfl
@[simp] theorem raiseIf_firstFault (c : Bool) (e : Event) (s : State) : (raiseIf c e s).host.firstFault = s.host.firstFault := by unfold raiseIf; split <;> rfl
@[simp] theorem raiseIf_furtherFaults (c : Bool) (e : Event) (s : State) : (raiseIf c e s).host.furtherFaults = s.host.furtherFaults := by unfold raiseIf; split <;> rfl
@[simp] theorem raiseIf_response (c : Bool) (e : Event) (s : State) : (raiseIf c e s).host.response = s.host.response := by unfold raiseIf; split <;> rfl
@[simp] theorem raiseIf_resetHeld (c : Bool) (e : Event) (s : State) : (raiseIf c e s).host.resetHeld = s.host.resetHeld := by unfold raiseIf; split <;> rfl
@[simp] theorem raiseIf_ignoreTransaction (c : Bool) (e : Event) (s : State) : (raiseIf c e s).host.ignoreTransaction = s.host.ignoreTransaction := by unfold raiseIf; split <;> rfl
@[simp] theorem raiseIf_line (c : Bool) (e : Event) (s : State) : (raiseIf c e s).line = s.line := by unfold raiseIf; split <;> rfl
@[simp] theorem raiseIf_census (c : Bool) (e : Event) (s : State) : (raiseIf c e s).census = s.census := by unfold raiseIf; split <;> rfl
@[simp] theorem raiseIf_roster (c : Bool) (e : Event) (s : State) : (raiseIf c e s).roster = s.roster := by unfold raiseIf; split <;> rfl
@[simp] theorem raiseIf_feeder (c : Bool) (e : Event) (s : State) : (raiseIf c e s).feeder = s.feeder := by unfold raiseIf; split <;> rfl
@[simp] theorem raiseIf_shares (c : Bool) (e : Event) (s : State) : (raiseIf c e s).shares = s.shares := by unfold raiseIf; split <;> rfl
@[simp] theorem raiseIf_outlets (c : Bool) (e : Event) (s : State) : (raiseIf c e s).outlets = s.outlets := by unfold raiseIf; split <;> rfl
@[simp] theorem raiseIf_minuteMs (c : Bool) (e : Event) (s : State) : (raiseIf c e s).minuteMs = s.minuteMs := by unfold raiseIf; split <;> rfl
@[simp] theorem raiseIf_pending (c : Bool) (e : Event) (s : State) : (raiseIf c e s).pending = s.pending := by unfold raiseIf; split <;> rfl

@[simp] theorem recompute_host (m : Bool) (s : State) : (recompute m s).host = s.host := by unfold recompute; split <;> rfl
@[simp] theorem recompute_line (m : Bool) (s : State) : (recompute m s).line = s.line := by unfold recompute; split <;> rfl
@[simp] theorem recompute_census (m : Bool) (s : State) : (recompute m s).census = s.census := by unfold recompute; split <;> rfl
@[simp] theorem recompute_roster (m : Bool) (s : State) : (recompute m s).roster = s.roster := by unfold recompute; split <;> rfl
@[simp] theorem recompute_feeder (m : Bool) (s : State) : (recompute m s).feeder = s.feeder := by unfold recompute; split <;> rfl
@[simp] theorem recompute_shares (m : Bool) (s : State) : (recompute m s).shares = s.shares := by unfold recompute; split <;> rfl
@[simp] theorem recompute_minuteMs (m : Bool) (s : State) : (recompute m s).minuteMs = s.minuteMs := by unfold recompute; split <;> rfl
@[simp] theorem recompute_pending (m : Bool) (s : State) : (recompute m s).pending = s.pending := by unfold recompute; split <;> rfl

@[simp] theorem snapshot_host (s : State) : (snapshot s).host = s.host := by unfold snapshot; split <;> rfl
@[simp] theorem snapshot_line (s : State) : (snapshot s).line = s.line := by unfold snapshot; split <;> rfl
@[simp] theorem snapshot_census (s : State) : (snapshot s).census = s.census := by unfold snapshot; split <;> rfl
@[simp] theorem snapshot_roster (s : State) : (snapshot s).roster = s.roster := by unfold snapshot; split <;> rfl
@[simp] theorem snapshot_feeder (s : State) : (snapshot s).feeder = s.feeder := by unfold snapshot; split <;> rfl
@[simp] theorem snapshot_shares (s : State) : (snapshot s).shares = s.shares := by unfold snapshot; split <;> rfl
@[simp] theorem snapshot_minuteMs (s : State) : (snapshot s).minuteMs = s.minuteMs := by unfold snapshot; split <;> rfl
@[simp] theorem snapshot_pending (s : State) : (snapshot s).pending = s.pending := by unfold snapshot; split <;> rfl

@[simp] theorem snapshotAtExpiry_host (s : State) : (snapshotAtExpiry s).host = s.host := by unfold snapshotAtExpiry; split <;> simp
@[simp] theorem snapshotAtExpiry_line (s : State) : (snapshotAtExpiry s).line = s.line := by unfold snapshotAtExpiry; split <;> simp
@[simp] theorem snapshotAtExpiry_census (s : State) : (snapshotAtExpiry s).census = s.census := by unfold snapshotAtExpiry; split <;> simp
@[simp] theorem snapshotAtExpiry_roster (s : State) : (snapshotAtExpiry s).roster = s.roster := by unfold snapshotAtExpiry; split <;> simp
@[simp] theorem snapshotAtExpiry_feeder (s : State) : (snapshotAtExpiry s).feeder = s.feeder := by unfold snapshotAtExpiry; split <;> simp
@[simp] theorem snapshotAtExpiry_shares (s : State) : (snapshotAtExpiry s).shares = s.shares := by unfold snapshotAtExpiry; split <;> simp
@[simp] theorem snapshotAtExpiry_minuteMs (s : State) : (snapshotAtExpiry s).minuteMs = s.minuteMs := by unfold snapshotAtExpiry; split <;> simp
@[simp] theorem snapshotAtExpiry_pending (s : State) : (snapshotAtExpiry s).pending = s.pending := by unfold snapshotAtExpiry; split <;> simp

@[simp] theorem countMissed_host (s : State) : (countMissed s).host = s.host := by unfold countMissed; split <;> rfl
@[simp] theorem countMissed_line (s : State) : (countMissed s).line = s.line := by unfold countMissed; split <;> rfl
@[simp] theorem countMissed_roster (s : State) : (countMissed s).roster = s.roster := by unfold countMissed; split <;> rfl
@[simp] theorem countMissed_feeder (s : State) : (countMissed s).feeder = s.feeder := by unfold countMissed; split <;> rfl
@[simp] theorem countMissed_shares (s : State) : (countMissed s).shares = s.shares := by unfold countMissed; split <;> rfl
@[simp] theorem countMissed_outlets (s : State) : (countMissed s).outlets = s.outlets := by unfold countMissed; split <;> rfl
@[simp] theorem countMissed_minuteMs (s : State) : (countMissed s).minuteMs = s.minuteMs := by unfold countMissed; split <;> rfl
@[simp] theorem countMissed_pending (s : State) : (countMissed s).pending = s.pending := by unfold countMissed; split <;> rfl

@[simp] theorem serve_host (s : State) : (serve s).host = s.host := by unfold serve; split <;> (try split) <;> (try split) <;> rfl
@[simp] theorem serve_census (s : State) : (serve s).census = s.census := by unfold serve; split <;> (try split) <;> (try split) <;> rfl
@[simp] theorem serve_roster (s : State) : (serve s).roster = s.roster := by unfold serve; split <;> (try split) <;> (try split) <;> rfl
@[simp] theorem serve_feeder (s : State) : (serve s).feeder = s.feeder := by unfold serve; split <;> (try split) <;> (try split) <;> rfl
@[simp] theorem serve_shares (s : State) : (serve s).shares = s.shares := by unfold serve; split <;> (try split) <;> (try split) <;> rfl
@[simp] theorem serve_outlets (s : State) : (serve s).outlets = s.outlets := by unfold serve; split <;> (try split) <;> (try split) <;> rfl
@[simp] theorem serve_minuteMs (s : State) : (serve s).minuteMs = s.minuteMs := by unfold serve; split <;> (try split) <;> (try split) <;> rfl
@[simp] theorem serve_pending (s : State) : (serve s).pending = s.pending := by unfold serve; split <;> (try split) <;> (try split) <;> rfl

end Sys2Proof.Machine
end

