-- ==== Sys2Proof/Laws/Ops.lean ====
section
/-! SUPPORT. What the shared operations can do, said once: when an event is taken, access to the outlets, a repetition over the outlets,
capturing a fault, answering a request, and reset (R38, R164, R171, R173). -/

namespace Sys2Proof.Machine

/-- A line event either does not occur or is the event, at a part whose transceiver takes samples (R38). -/
theorem onLine_cases (event : State → State) (s : State) :
    (lineAlive s = false ∧ onLine event s = s) ∨ (lineAlive s = true ∧ onLine event s = event s) := by
  unfold onLine; cases h : lineAlive s <;> simp

/-- An event either does not occur or is the event, at a part out of reset (R173). -/
theorem whenRunning_cases (event : State → State) (s : State) :
    (running s = false ∧ whenRunning event s = s) ∨ (running s = true ∧ whenRunning event s = event s) := by
  unfold whenRunning; cases h : running s <;> simp

/-- An event taken only where it has an outcome is the event there, and elsewhere nothing. -/
theorem onlyWhere_cases (outcome : State → State → Bool) (event : State → State) (s : State) :
    (outcome s (event s) = false ∧ onlyWhere outcome event s = s) ∨
      (outcome s (event s) = true ∧ onlyWhere outcome event s = event s) := by
  unfold onlyWhere; cases h : outcome s (event s) <;> simp

theorem running_iff (s : State) : running s = true ↔ OutOfReset s := by simp [running, OutOfReset]

theorem lineAlive_iff (s : State) : lineAlive s = true ↔ LineSampled s := by
  simp [lineAlive, running, strapFault, LineSampled]

theorem modifyOutlet_getElem? (n : Nat) (f : Outlet → Outlet) (s : State) (m : Nat) :
    (modifyOutlet n f s).outlets[m]? = if n = m then s.outlets[m]?.map f else s.outlets[m]? := by
  simp only [modifyOutlet, List.getElem?_modify]; split <;> simp

theorem modifyOutlet_length (n : Nat) (f : Outlet → Outlet) (s : State) :
    (modifyOutlet n f s).outlets.length = s.outlets.length := by simp [modifyOutlet]

theorem mapOutlets_getElem? (f : Outlet → Outlet) (s : State) (m : Nat) :
    (mapOutlets f s).outlets[m]? = s.outlets[m]?.map f := by simp [mapOutlets]

theorem mapOutlets_length (f : Outlet → Outlet) (s : State) : (mapOutlets f s).outlets.length = s.outlets.length := by
  simp [mapOutlets]

/-- A repetition over no outlet does nothing. -/
@[simp] theorem forOutlets_zero (f : Nat → State → State) (s : State) : forOutlets 0 f s = s := rfl

/-- A repetition over the outlets takes the highest outlet last. -/
theorem forOutlets_succ (count : Nat) (f : Nat → State → State) (s : State) :
    forOutlets (count + 1) f s = f count (forOutlets count f s) := by
  simp [forOutlets, List.range_succ, List.foldl_append]

/-- What every turn of a repetition keeps, the whole keeps. -/
theorem forOutlets_keeps (P : State → Prop) (f : Nat → State → State) (keep : ∀ n t, P t → P (f n t)) (count : Nat) (s : State)
    (h : P s) : P (forOutlets count f s) := by
  induction count with
  | zero => exact h
  | succ k ih => rw [forOutlets_succ]; exact keep _ _ ih

/-- A field that no turn of a repetition changes stands after it. -/
theorem forOutlets_field {α : Type} (field : State → α) (f : Nat → State → State) (same : ∀ n t, field (f n t) = field t)
    (count : Nat) (s : State) : field (forOutlets count f s) = field s :=
  forOutlets_keeps (fun t => field t = field s) f (fun n t h => (same n t).trans h) count s rfl

/-- A capture fills an empty record and otherwise sets the further-faults flag alone (R171). -/
theorem capture_cases (kind : FaultKind) (outlet : Option Nat) (value : Nat) (s : State) :
    (s.host.firstFault = none ∧ capture kind outlet value s =
      { s with host.firstFault := some ⟨kind, outlet, s.census.number, s.census.windowIndex, value⟩ }) ∨
    (s.host.firstFault.isSome = true ∧ capture kind outlet value s = { s with host.furtherFaults := true }) := by
  unfold capture; cases h : s.host.firstFault <;> simp

/-- What a request can do (R164, R173): nothing in reset, the end of an ignored transaction, BAD_LENGTH, or its own checks and effect on its
body. -/
theorem takeRequest_cases (code : Byte) (lengthOk : Nat → Bool) (act : List Byte → State → State) (shifted : List Byte) (s : State) :
    (running s = false ∧ takeRequest code lengthOk act shifted s = s) ∨
    (running s = true ∧ s.host.ignoreTransaction = true ∧
      takeRequest code lengthOk act shifted s = { s with host.ignoreTransaction := false }) ∨
    (Accepting s ∧ (∀ body, requestBody shifted = some body → lengthOk body.length = false) ∧
      takeRequest code lengthOk act shifted s = respond code .badLength [] s) ∨
    (Accepting s ∧ ∃ body, requestBody shifted = some body ∧ lengthOk body.length = true ∧
      takeRequest code lengthOk act shifted s = act body s) := by
  unfold takeRequest
  cases hr : running s with
  | false => simp
  | true =>
    have hh : s.host.resetHeld = [] := (running_iff s).mp hr
    cases hi : s.host.ignoreTransaction with
    | true => simp
    | false =>
      cases hb : requestBody shifted with
      | none => simp [Accepting, hh, hi]
      | some body => cases hl : lengthOk body.length <;> simp [Accepting, hh, hi, hl]

/-- A request at a part that takes it: BAD_LENGTH for a body that is missing or of a length it does not allow, and otherwise its effect. -/
theorem takeRequest_of_accepting {code : Byte} {lengthOk : Nat → Bool} {act : List Byte → State → State} {shifted body : List Byte}
    {s : State} (h : Accepting s) (hb : requestBody shifted = some body) (hl : lengthOk body.length = true) :
    takeRequest code lengthOk act shifted s = act body s := by
  simp [takeRequest, running, h.1, h.2, hb, hl]

/-- Reset with one more cause: the part stands at its reset values and is held by it (R173). -/
theorem takeReset_eq (cause : ResetCause) (s : State) :
    ∃ held, cause ∈ held ∧ (∀ c ∈ s.host.resetHeld, c ∈ held) ∧
      takeReset cause s = .afterReset s.host.straps held false s.pending := by
  refine ⟨_, ?_, ?_, rfl⟩
  · split
    · assumption
    · exact List.mem_cons_self
  · intro c hc; split
    · exact hc
    · exact List.mem_cons_of_mem _ hc

/-- What the release of a cause can do: nothing where it does not hold reset, reset held on by the others, or reset released (R173, R174). -/
theorem releaseReset_cases (cause : ResetCause) (straps : Straps) (csLow : Bool) (s : State) :
    (cause ∉ s.host.resetHeld ∧ releaseReset cause straps csLow s = s) ∨
    (cause ∈ s.host.resetHeld ∧ (∀ c ∈ s.host.resetHeld, c = cause) ∧
      releaseReset cause straps csLow s = .afterReset straps [] csLow s.pending) ∨
    (cause ∈ s.host.resetHeld ∧ ∃ held, held ≠ [] ∧ held = s.host.resetHeld.filter (fun c => c ≠ cause) ∧
      releaseReset cause straps csLow s = .afterReset s.host.straps held false s.pending) := by
  unfold releaseReset
  split
  · rename_i h
    split
    · rename_i h'
      refine .inr (.inl ⟨h, ?_, rfl⟩)
      simpa [List.filter_eq_nil_iff] using h'
    · rename_i h'
      exact .inr (.inr ⟨h, _, by simpa using h', rfl, rfl⟩)
  · rename_i h; exact .inl ⟨h, rfl⟩

/-- The first-fault record keeps its content once it is filled (R171). -/
theorem capture_keeps {kind : FaultKind} {outlet : Option Nat} {value : Nat} {s : State} {r : FaultRecord}
    (h : s.host.firstFault = some r) : (capture kind outlet value s).host.firstFault = some r := by
  simp [capture, h]

/-- `share` reads the drive of the bit read until that bit ends, and the drive of the next from then on, where no pulse is driven (R54). -/
theorem shareDriven_idle {s : State} (bitOver : Bool) (h : s.line.drive = .idle) :
    shareDriven bitOver s = if bitOver then s.line.bitDrive else s.line.bitHeld := by simp [shareDriven, h]

end Sys2Proof.Machine

namespace Sys2Proof

/-- Eight bits make a byte, most significant bit first (R163). -/
theorem bytesOfBits_byte (b : Byte) (rest : List Bool) :
    bytesOfBits (((List.range 8).map fun k => b.getLsbD (7 - k)) ++ rest) = b :: bytesOfBits rest := by
  have h : BitVec.ofNat 8 (((List.range 8).map fun k => b.getLsbD (7 - k)).foldl (fun v x => 2 * v + x.toNat) 0) = b := by
    revert b; decide +kernel
  simp only [bytesOfBits, List.range, List.range.loop, List.map, List.cons_append, List.nil_append, List.foldl] at h ⊢
  simp only [shiftIn, reduceIte, Nat.reduceEqDiff, Nat.reduceAdd]
  rw [h]

/-- Bits that make no whole byte are discarded (R163). -/
theorem bytesOfBits_cut {bits : List Bool} (h : bits.length < 8) : bytesOfBits bits = [] := by
  have cut : ∀ (bits : List Bool) (count value : Nat), bits.length + count < 8 → shiftIn count value bits = [] := by
    intro bits
    induction bits with
    | nil => intros; rfl
    | cons b rest ih =>
      intro count value hc
      simp only [List.length_cons] at hc
      rw [shiftIn, if_neg (by omega)]
      exact ih _ _ (by omega)
  exact cut bits 0 0 h

end Sys2Proof
end

