-- ==== Sys2Proof/Laws/Shares.lean ====
section
/-! SUPPORT. What the Share Engine's operations can do: the two passes of the post cap, a recomputation at one outlet, and the lowering of an
offer that it brings with it (R137 to R142). -/

namespace Sys2Proof.Machine

theorem trimPass_length (m : Nat) (order : List Nat) (e : Nat) (ts : List Nat) : (trimPass m order e ts).2.length = ts.length := by
  induction order generalizing e ts with
  | nil => rfl
  | cons i rest ih => simp [trimPass, ih]

theorem dropPass_length (order : List Nat) (e : Nat) (ts : List Nat) : (dropPass order e ts).length = ts.length := by
  induction order generalizing e ts with
  | nil => rfl
  | cons i rest ih => unfold dropPass; split <;> simp [ih]

theorem postCap_length (m l : Nat) (order ts : List Nat) : (postCap m l order ts).length = ts.length := by
  simp [postCap, dropPass_length, trimPass_length]

theorem getD_set (ts : List Nat) (i j v : Nat) :
    (ts.set i v).getD j 0 = if i = j ∧ j < ts.length then v else ts.getD j 0 := by
  simp only [List.getD_eq_getElem?_getD, List.getElem?_set]
  by_cases h : i = j
  · subst h
    by_cases hl : i < ts.length <;> simp [hl]
  · simp [h]

/-- The first pass raises no target. -/
theorem trimPass_le (m : Nat) (order : List Nat) (e : Nat) (ts : List Nat) (j : Nat) :
    (trimPass m order e ts).2.getD j 0 ≤ ts.getD j 0 := by
  induction order generalizing e ts with
  | nil => exact le_rfl
  | cons i rest ih =>
    refine (ih _ _).trans ?_
    rw [getD_set]; split
    · rename_i h; rw [h.1]; omega
    · exact le_rfl

/-- The second pass leaves a target as it stands or sets it to 0. -/
theorem dropPass_cases (order : List Nat) (e : Nat) (ts : List Nat) (j : Nat) :
    (dropPass order e ts).getD j 0 = ts.getD j 0 ∨ (dropPass order e ts).getD j 0 = 0 := by
  induction order generalizing e ts with
  | nil => exact .inl rfl
  | cons i rest ih =>
    unfold dropPass; split
    · exact .inl rfl
    · rcases ih (e - ts.getD i 0) (ts.set i 0) with h | h
      · rw [h, getD_set]; split
        · exact .inr rfl
        · exact .inl rfl
      · exact .inr h

/-- The post cap raises no target. -/
theorem postCap_le (m l : Nat) (order ts : List Nat) (j : Nat) : (postCap m l order ts).getD j 0 ≤ ts.getD j 0 := by
  unfold postCap
  rcases dropPass_cases order (trimPass m order (ts.sum - l) ts).1 (trimPass m order (ts.sum - l) ts).2 j with h | h
  · rw [h]; exact trimPass_le _ _ _ _ _
  · rw [h]; exact Nat.zero_le _

/-- The raw target is that of the tables of R137 to R139. -/
theorem rawTarget_eq_tableTarget (p : Profile) (part : Participation) (c : Nat) (o : Outlet) :
    rawTarget p part c o = tableTarget p part c o := by
  unfold rawTarget tableTarget joinedTarget fallbackTarget
  cases part <;> cases o.session.state <;> cases o.session.band <;> simp

/-- The place of a session in the cut order, by its state and its stored band (R140). -/
theorem cutClass_eq (r : Session) (h : r.state = .stalled ∨ inPair r.state = true) :
    cutClass r = match r.state, r.band with
      | .stalled, _ => 1
      | _, .absent => 2
      | _, .unbanded => 2
      | _, .steady => 3
      | _, .tight => 4
      | _, .late => 5 := by
  unfold cutClass
  cases hs : r.state <;> cases r.band <;> simp_all [inPair]

theorem cappedTargets_length (p : Profile) (part : Participation) (c : Nat) (os : List Outlet) :
    (cappedTargets p part c os).length = os.length := by simp [cappedTargets, postCap_length]

/-- A capped target is at most the raw target of its outlet (R140). -/
theorem cappedTargets_le (p : Profile) (part : Participation) (c : Nat) (os : List Outlet) (n : Nat) (o : Outlet)
    (h : os[n]? = some o) : (cappedTargets p part c os).getD n 0 ≤ rawTarget p part c o := by
  refine (postCap_le _ _ _ _ _).trans ?_
  simp [List.getD_eq_getElem?_getD, h]

theorem retarget_length (p : Profile) (part : Participation) (c : Nat) (mr : Bool) (os : List Outlet) :
    (retarget p part c mr os).length = os.length := by simp [retarget, cappedTargets_length]

/-- A recomputation at one outlet: it gives the outlet its capped target (R141). -/
theorem retarget_getElem? (p : Profile) (part : Participation) (c : Nat) (mr : Bool) (os : List Outlet) (n : Nat) :
    (retarget p part c mr os)[n]? = os[n]?.map fun o => giveTarget mr o ((cappedTargets p part c os).getD n 0) := by
  unfold retarget
  rw [List.getElem?_zipWith]
  cases h : os[n]? with
  | none => simp
  | some o =>
    have hl : n < (cappedTargets p part c os).length := by
      rw [cappedTargets_length]; exact (List.getElem?_eq_some_iff.mp h).1
    simp [List.getElem?_eq_getElem hl, List.getD_eq_getElem?_getD]

theorem recompute_outlets_length (mr : Bool) (s : State) : (recompute mr s).outlets.length = s.outlets.length := by
  unfold recompute; split
  · rfl
  · exact retarget_length _ _ _ _ _

theorem recompute_of_profile {s : State} {p : Profile} (mr : Bool) (h : s.host.profile = some p) :
    recompute mr s = { s with outlets := retarget p s.census.participation s.shares.curtail mr s.outlets } := by
  unfold recompute; rw [h]

theorem recompute_of_none {s : State} (mr : Bool) (h : s.host.profile = none) : recompute mr s = s := by
  unfold recompute; rw [h]

/-- The snapshot point of an expiry under a profile: each session as R30 takes it where the snapshot is due, and as it stood elsewhere. -/
theorem snapshotAtExpiry_of_profile {s : State} {p : Profile} (h : s.host.profile = some p) :
    snapshotAtExpiry s = { s with outlets := s.outlets.map fun o => { o with session := sessionAtExpiry p s o.session } } := by
  unfold snapshotAtExpiry expirySnapshotDue sessionAtExpiry
  by_cases hd : s.census.reachedFrameZero = true ∨ Config.snapshotBeforeFrameZero = true
  · simp [hd, snapshot, h, mapOutlets]
  · simp [hd]

/-- What each order on borrow does under a profile: the B of every own outlet, the curtail count, and the targets, which may not rise
(R124, R135, R141). -/
theorem takeOrder_halve {s : State} {p : Profile} (h : s.host.profile = some p) :
    takeOrder .halve s =
      { s with outlets := retarget p s.census.participation s.shares.curtail false (s.outlets.map halveBorrow) } :=
  recompute_of_profile (s := mapOutlets halveBorrow s) false h

theorem takeOrder_zero {s : State} {p : Profile} (h : s.host.profile = some p) :
    takeOrder .zero s =
      { s with outlets := retarget p s.census.participation s.shares.curtail false (s.outlets.map zeroBorrow) } :=
  recompute_of_profile (s := mapOutlets zeroBorrow s) false h

theorem takeOrder_zeroAndCurtail {s : State} {p : Profile} (h : s.host.profile = some p) :
    takeOrder .zeroAndCurtail s =
      { s with
        shares.curtail := 3
        outlets := retarget p s.census.participation 3 false (s.outlets.map zeroBorrow) } :=
  recompute_of_profile (s := curtailBorrow (mapOutlets zeroBorrow s)) false h

/-- What a lowering can do to an outlet (R142, R6): nothing, a lower offer equal to the target, or a CHARGING session gone PAUSED at target
and offer 0 with its stall count at 0. -/
theorem lowerOffer_cases (o : Outlet) :
    (lowerOffer o = o ∧ o.session.offer ≤ o.share.target ∧ (o.session.state = .charging → o.share.target ≠ 0)) ∨
    (lowerOffer o = { o with session.offer := o.share.target } ∧ o.share.target < o.session.offer ∧
      (o.session.state = .charging → o.share.target ≠ 0)) ∨
    (lowerOffer o = { o with session.offer := 0, session.state := .paused, supervision.stallCount := 0 } ∧ o.share.target = 0 ∧
      o.session.state = .charging) := by
  unfold lowerOffer
  split
  · rename_i h; exact .inr (.inr ⟨rfl, h.1, h.2⟩)
  · rename_i h
    split
    · rename_i h'; exact .inr (.inl ⟨rfl, h', fun hs ht => h ⟨ht, hs⟩⟩)
    · rename_i h'; exact .inl ⟨rfl, by omega, fun hs ht => h ⟨ht, hs⟩⟩

section
variable (o : Outlet) (mr : Bool) (t : Nat)

@[simp] theorem lowerOffer_share : (lowerOffer o).share = o.share := by
  unfold lowerOffer; split <;> (try split) <;> rfl
@[simp] theorem lowerOffer_meter : (lowerOffer o).meter = o.meter := by
  unfold lowerOffer; split <;> (try split) <;> rfl
@[simp] theorem lowerOffer_setpointDuty : (lowerOffer o).setpointDuty = o.setpointDuty := by
  unfold lowerOffer; split <;> (try split) <;> rfl
@[simp] theorem lowerOffer_clashCount : (lowerOffer o).clashCount = o.clashCount := by
  unfold lowerOffer; split <;> (try split) <;> rfl

@[simp] theorem giveTarget_meter : (giveTarget mr o t).meter = o.meter := by simp [giveTarget]
@[simp] theorem giveTarget_setpointDuty : (giveTarget mr o t).setpointDuty = o.setpointDuty := by simp [giveTarget]
@[simp] theorem giveTarget_clashCount : (giveTarget mr o t).clashCount = o.clashCount := by simp [giveTarget]
@[simp] theorem giveTarget_share :
    (giveTarget mr o t).share = { o.share with target := if mr then t else min t o.share.target } := by simp [giveTarget]

/-- A lowering changes only the offer and the state of the session record. -/
theorem lowerOffer_session :
    (lowerOffer o).session = { o.session with offer := (lowerOffer o).session.offer, state := (lowerOffer o).session.state } := by
  rcases lowerOffer_cases o with ⟨h, -, -⟩ | ⟨h, -, -⟩ | ⟨h, -, -⟩ <;> rw [h]

/-- A lowering changes only the stall count of the supervision record, and only to 0. -/
theorem lowerOffer_supervision :
    (lowerOffer o).supervision = o.supervision ∨ (lowerOffer o).supervision = { o.supervision with stallCount := 0 } := by
  rcases lowerOffer_cases o with ⟨h, -, -⟩ | ⟨h, -, -⟩ | ⟨h, -, -⟩ <;> rw [h] <;> simp

/-- A recomputation's session record: only the offer and, for a CHARGING session, the state can change. -/
theorem giveTarget_session :
    (giveTarget mr o t).session =
      { o.session with offer := (giveTarget mr o t).session.offer, state := (giveTarget mr o t).session.state } :=
  lowerOffer_session _

/-- A recomputation's supervision record: only the stall count can change, and only to 0. -/
theorem giveTarget_supervision :
    (giveTarget mr o t).supervision = o.supervision ∨
      (giveTarget mr o t).supervision = { o.supervision with stallCount := 0 } :=
  lowerOffer_supervision _

/-- After a recomputation no offer stands above its target (R142). -/
theorem giveTarget_offer_le_target : (giveTarget mr o t).session.offer ≤ (giveTarget mr o t).share.target := by
  unfold giveTarget
  rcases lowerOffer_cases { o with share.target := if mr then t else min t o.share.target } with ⟨h, h', -⟩ | ⟨h, -, -⟩ | ⟨h, -, -⟩ <;>
    rw [h]
  · exact h'
  · exact Nat.zero_le _

/-- A recomputation raises no offer. -/
theorem giveTarget_offer_le : (giveTarget mr o t).session.offer ≤ o.session.offer := by
  unfold giveTarget
  rcases lowerOffer_cases { o with share.target := if mr then t else min t o.share.target } with ⟨h, -, -⟩ | ⟨h, h', -⟩ | ⟨h, -, -⟩ <;>
    rw [h]
  · exact h'.le
  · exact Nat.zero_le _

/-- An offer that a recomputation lowers takes the value of the target. -/
theorem giveTarget_offer_cases :
    (giveTarget mr o t).session.offer = o.session.offer ∨
      (giveTarget mr o t).session.offer = (giveTarget mr o t).share.target := by
  unfold giveTarget
  rcases lowerOffer_cases { o with share.target := if mr then t else min t o.share.target } with ⟨h, -, -⟩ | ⟨h, -, -⟩ | ⟨h, h', -⟩ <;>
    rw [h]
  · exact .inl rfl
  · exact .inr rfl
  · exact .inr h'.symm

/-- A recomputation leaves every session state but CHARGING, which can go PAUSED. -/
theorem giveTarget_state :
    (giveTarget mr o t).session.state = o.session.state ∨
      (o.session.state = .charging ∧ (giveTarget mr o t).session.state = .paused ∧ (giveTarget mr o t).share.target = 0 ∧
        (giveTarget mr o t).session.offer = 0) := by
  unfold giveTarget
  rcases lowerOffer_cases { o with share.target := if mr then t else min t o.share.target } with ⟨h, -, -⟩ | ⟨h, -, -⟩ | ⟨h, h', h''⟩ <;>
    rw [h]
  · exact .inl rfl
  · exact .inl rfl
  · exact .inr ⟨h'', rfl, h', rfl⟩

end

theorem giveTarget_inPair (o : Outlet) (mr : Bool) (t : Nat) :
    inPair (giveTarget mr o t).session.state = inPair o.session.state := by
  rcases giveTarget_state o mr t with h | ⟨h, h', -⟩
  · rw [h]
  · rw [h, h']; rfl

/-- An outlet that is not CHARGING, with an offer that its new target covers, keeps its records but the target. -/
theorem giveTarget_of_le {o : Outlet} {mr : Bool} {t : Nat} (hs : o.session.state ≠ .charging)
    (ho : o.session.offer ≤ if mr then t else min t o.share.target) :
    giveTarget mr o t = { o with share.target := if mr then t else min t o.share.target } := by
  unfold giveTarget
  rcases lowerOffer_cases { o with share.target := if mr then t else min t o.share.target } with ⟨h, -, -⟩ | ⟨-, h, -⟩ | ⟨-, -, h⟩
  · exact h
  · exact absurd h (by simpa using ho)
  · exact absurd h hs

end Sys2Proof.Machine
end

