-- ==== Sys2Proof/Laws/Windows.lean ====
section
/-! SUPPORT. What a window boundary does at the outlets: it changes the outlets' records, the events and the fault record alone, and each of
the Outlet Supervisor's steps has a few outcomes (R143, R151 to R156). -/

namespace Sys2Proof.Machine

/-- Only the outlets' records, the events and the fault record differ. -/
def OutletFrame (s t : State) : Prop :=
  t = { s with
    outlets := t.outlets
    host.events := t.host.events
    host.firstFault := t.host.firstFault
    host.furtherFaults := t.host.furtherFaults }

theorem OutletFrame.refl (s : State) : OutletFrame s s := rfl

theorem OutletFrame.trans {s t u : State} (h : OutletFrame s t) (k : OutletFrame t u) : OutletFrame s u := by
  unfold OutletFrame at *; rw [k, h]

theorem OutletFrame.census {s t : State} (h : OutletFrame s t) : t.census = s.census := by rw [h]
theorem OutletFrame.line {s t : State} (h : OutletFrame s t) : t.line = s.line := by rw [h]
theorem OutletFrame.roster {s t : State} (h : OutletFrame s t) : t.roster = s.roster := by rw [h]
theorem OutletFrame.feeder {s t : State} (h : OutletFrame s t) : t.feeder = s.feeder := by rw [h]
theorem OutletFrame.shares {s t : State} (h : OutletFrame s t) : t.shares = s.shares := by rw [h]
theorem OutletFrame.minuteMs {s t : State} (h : OutletFrame s t) : t.minuteMs = s.minuteMs := by rw [h]
theorem OutletFrame.pending {s t : State} (h : OutletFrame s t) : t.pending = s.pending := by rw [h]
theorem OutletFrame.profile {s t : State} (h : OutletFrame s t) : t.host.profile = s.host.profile := by rw [h]
theorem OutletFrame.straps {s t : State} (h : OutletFrame s t) : t.host.straps = s.host.straps := by rw [h]
theorem OutletFrame.mask {s t : State} (h : OutletFrame s t) : t.host.mask = s.host.mask := by rw [h]
theorem OutletFrame.response {s t : State} (h : OutletFrame s t) : t.host.response = s.host.response := by rw [h]
theorem OutletFrame.resetHeld {s t : State} (h : OutletFrame s t) : t.host.resetHeld = s.host.resetHeld := by rw [h]

theorem raise_frame (e : Event) (s : State) : OutletFrame s (raise e s) := rfl

theorem modifyOutlet_frame (n : Nat) (f : Outlet → Outlet) (s : State) : OutletFrame s (modifyOutlet n f s) := rfl

theorem mapOutlets_frame (f : Outlet → Outlet) (s : State) : OutletFrame s (mapOutlets f s) := rfl

theorem recompute_frame (mayRaise : Bool) (s : State) : OutletFrame s (recompute mayRaise s) := by
  unfold recompute; split <;> rfl

theorem capture_frame (kind : FaultKind) (outlet : Option Nat) (value : Nat) (s : State) : OutletFrame s (capture kind outlet value s) := by
  rcases capture_cases kind outlet value s with ⟨-, h⟩ | ⟨-, h⟩ <;> rw [h] <;> rfl

theorem enterTopped_frame (n : Nat) (s : State) : OutletFrame s (enterTopped n s) :=
  ((modifyOutlet_frame n topOutlet s).trans (raise_frame _ _)).trans (recompute_frame _ _)

theorem enterFaulted_frame (n : Nat) (kind : SessionFault) (s : State) : OutletFrame s (enterFaulted n kind s) :=
  ((modifyOutlet_frame n (faultOutlet kind) s).trans (raise_frame _ _)).trans (recompute_frame _ _)

theorem enterStalled_frame (n : Nat) (s : State) : OutletFrame s (enterStalled n s) :=
  ((modifyOutlet_frame n stallOutlet s).trans (raise_frame _ _)).trans (recompute_frame _ _)

theorem leaveStalled_frame (n : Nat) (s : State) : OutletFrame s (leaveStalled n s) :=
  (modifyOutlet_frame n unstallOutlet s).trans (recompute_frame _ _)

/-- What judging overdraw can do: nothing, a new count, or the fault of the session and its capture (R153). -/
theorem judgeOverdraw_cases (n : Nat) (s : State) :
    judgeOverdraw n s = s ∨
    (∃ c, c ≤ 3 ∧ judgeOverdraw n s = modifyOutlet n (fun o => { o with supervision.overdrawCount := c }) s) ∨
    (∃ o, s.outlets[n]? = some o ∧ judgedForOverdraw o.session.state = true ∧ overdraws o = true ∧
      judgeOverdraw n s = capture .overdraw (some n) (drawOf o) (enterFaulted n .overdraw s)) := by
  unfold judgeOverdraw
  cases ho : s.outlets[n]? with
  | none => exact .inl rfl
  | some o =>
    simp only
    split
    · rename_i hj
      split
      · rename_i hd
        split
        · exact .inr (.inr ⟨o, rfl, hj, hd, rfl⟩)
        · rename_i hc
          refine .inr (.inl ⟨o.supervision.overdrawCount + 1, by omega, ?_⟩)
          simp only [modifyOutlet]
          congr 1
          refine List.ext_getElem? fun m => ?_
          simp only [List.getElem?_modify]
          split
          · rename_i e; subst e; simp [ho]
          · rfl
      · exact .inr (.inl ⟨0, by omega, rfl⟩)
    · exact .inl rfl

theorem judgeOverdraw_frame (n : Nat) (s : State) : OutletFrame s (judgeOverdraw n s) := by
  rcases judgeOverdraw_cases n s with h | ⟨c, -, h⟩ | ⟨o, -, -, -, h⟩ <;> rw [h]
  · exact .refl s
  · exact modifyOutlet_frame _ _ _
  · exact (enterFaulted_frame _ _ _).trans (capture_frame _ _ _ _)

theorem judgeStall_frame (n : Nat) (o : Outlet) (s : State) : OutletFrame s (judgeStall n o s) := by
  unfold judgeStall; repeat' split
  · exact enterStalled_frame _ _
  · exact modifyOutlet_frame _ _ _
  · exact modifyOutlet_frame _ _ _

theorem judgeUnstall_frame (n : Nat) (o : Outlet) (s : State) : OutletFrame s (judgeUnstall n o s) := by
  unfold judgeUnstall; repeat' split
  · exact leaveStalled_frame _ _
  · exact modifyOutlet_frame _ _ _
  · exact modifyOutlet_frame _ _ _

/-- What judging the response can do: nothing, or stall judged for a CHARGING session, or unstall for a STALLED one (R152). -/
theorem judgeResponse_cases (n : Nat) (s : State) :
    judgeResponse n s = s ∨
    (∃ o, s.outlets[n]? = some o ∧ o.session.state = .charging ∧ judgeResponse n s = judgeStall n o s) ∨
    (∃ o, s.outlets[n]? = some o ∧ o.session.state = .stalled ∧ judgeResponse n s = judgeUnstall n o s) := by
  unfold judgeResponse
  cases ho : s.outlets[n]? with
  | none => exact .inl rfl
  | some o => cases hs : o.session.state <;> simp [hs]

theorem judgeResponse_frame (n : Nat) (s : State) : OutletFrame s (judgeResponse n s) := by
  rcases judgeResponse_cases n s with h | ⟨o, -, -, h⟩ | ⟨o, -, -, h⟩ <;> rw [h]
  · exact .refl s
  · exact judgeStall_frame _ _ _
  · exact judgeUnstall_frame _ _ _

theorem judgeRelease_frame (n : Nat) (found : SessionState) (s : State) : OutletFrame s (judgeRelease n found s) := by
  unfold judgeRelease; repeat' split
  · exact .refl s
  · exact ((modifyOutlet_frame _ _ _).trans (raise_frame _ _)).trans (capture_frame _ _ _ _)
  · exact modifyOutlet_frame _ _ _
  · exact modifyOutlet_frame _ _ _
  · exact .refl s

theorem ramp_frame (n : Nat) (s : State) : OutletFrame s (ramp n s) := by
  unfold ramp; repeat' split
  · exact (modifyOutlet_frame _ _ _).trans (recompute_frame _ _)
  · exact modifyOutlet_frame _ _ _
  · exact .refl s

theorem superviseOutlet_frame (n : Nat) (s : State) : OutletFrame s (superviseOutlet n s) :=
  ((((modifyOutlet_frame n enterHistory s).trans (judgeOverdraw_frame n _)).trans (judgeResponse_frame n _)).trans
    (judgeRelease_frame n _ _)).trans (ramp_frame n _)

/-- The full window end at the outlets changes their records, the events and the fault record alone. -/
theorem outletsFullWindow_frame (s : State) : OutletFrame s (outletsFullWindow s) :=
  (mapOutlets_frame meterFullWindow s).trans
    (forOutlets_keeps (OutletFrame _) _ (fun n _ h => h.trans (superviseOutlet_frame n _)) _ _ (.refl _))

/-- The cut window end at the outlets changes their records alone. -/
theorem outletsCutWindow_frame (s : State) : OutletFrame s (outletsCutWindow s) :=
  (mapOutlets_frame meterCutWindow s).trans
    (forOutlets_keeps (OutletFrame _) _ (fun n _ h => h.trans (ramp_frame n _)) _ _ (.refl _))

theorem takeCompletion_frame (n : Nat) (s : State) : OutletFrame s (takeCompletion n s) := by
  unfold takeCompletion; repeat' split
  · exact .refl s
  · exact (modifyOutlet_frame _ _ _).trans (enterTopped_frame _ _)
  · exact modifyOutlet_frame _ _ _

/-- The charge of an outlet's input changes the outlets' records and the events alone (R147, R149). -/
theorem takeCharge_frame (n charge : Nat) (s : State) : OutletFrame s (takeCharge n charge s) := by
  unfold takeCharge; repeat' split
  · exact .refl s
  · exact (modifyOutlet_frame _ _ _).trans (takeCompletion_frame _ _)
  · exact modifyOutlet_frame _ _ _
  · exact modifyOutlet_frame _ _ _

/-- An offer at a boundary rises by the ramp's step at most, and never above its target (R143). -/
theorem rampedOffer_bounds (p : Profile) (offer target : Nat) :
    offer ≤ rampedOffer p offer target ∧ rampedOffer p offer target ≤ max offer target ∧
      rampedOffer p offer target ≤ if offer = 0 then max p.minCurrent p.ramp else offer + p.ramp := by
  unfold rampedOffer; split
  · refine ⟨le_rfl, le_max_left _ _, ?_⟩; split <;> omega
  · split
    · rename_i h0; subst h0; omega
    · omega

/-- From an offer within its target, the offer at a boundary is the lesser of the target and one step of the ramp (R143). -/
theorem rampedOffer_eq_min (p : Profile) {offer target : Nat} (h : offer ≤ target) :
    rampedOffer p offer target = min target (rampTop p offer) := by
  unfold rampedOffer rampTop; split_ifs <;> omega

/-- The ramp leaves the target, and brings an offer within it to the lesser of the target and one step (R143). -/
theorem rampOutlet_share (p : Profile) (o : Outlet) : (rampOutlet p o).share = o.share := by
  unfold rampOutlet; split_ifs <;> rfl

theorem rampOutlet_offer (p : Profile) (o : Outlet) (h : o.session.offer ≤ o.share.target) :
    (rampOutlet p o).session.offer = min o.share.target (rampTop p o.session.offer) := by
  rw [← rampedOffer_eq_min p h]
  unfold rampOutlet; split_ifs <;> simp_all [rampedOffer]

/-- The ramp raises the window maximum to the offer where the offer rises, and leaves it elsewhere (R143, R151). -/
theorem rampOutlet_windowMax (p : Profile) (o : Outlet) :
    (rampOutlet p o).supervision.windowMax =
      if o.share.target ≤ o.session.offer then o.supervision.windowMax
      else max o.supervision.windowMax (rampedOffer p o.session.offer o.share.target) := by
  unfold rampOutlet; split_ifs <;> rfl

end Sys2Proof.Machine
end

