-- ==== Sys2Proof/Laws/Census.lean ====
section
/-! SUPPORT. What the Census Engine's shared operations can do: a standing request served, a missed period, an abandoned census, and the
water-fill of one band (R50, R69, R70, R80, R100 to R102). -/

namespace Sys2Proof.Machine

/-- What serving a standing request can do (R50, R51, R53): nothing, a hush driven with its hold-off, or a start pulse driven. -/
theorem serve_cases (s : State) :
    serve s = s ∨
    (s.line.state = .free ∧ s.line.drive = .idle ∧ s.feeder.hushPending = true ∧ s.line.holdOffMs = 0 ∧
      serve s = { s with line.drive := .hush, line.holdOffMs := 2000 }) ∨
    (s.line.state = .free ∧ s.line.drive = .idle ∧ s.line.startRequest = true ∧
      serve s = { s with line.drive := .startPulse false, line.startRequest := false }) := by
  unfold serve
  split
  · rename_i h
    split
    · rename_i h'; exact .inr (.inl ⟨h.2.1, h.2.2, h'.1, h'.2, rfl⟩)
    · split
      · rename_i h'; exact .inr (.inr ⟨h.2.1, h.2.2, h', rfl⟩)
      · exact .inl rfl
  · exact .inl rfl

/-- Nothing is served on a line that is not FREE (R50). -/
theorem serve_of_not_free {s : State} (h : s.line.state ≠ .free) : serve s = s := by
  unfold serve; rw [if_neg]; exact fun k => h k.2.1

/-- A request served on a FREE line where samples are taken and nothing is driven: the hush first, then the start pulse (R50, R51, R53). -/
theorem serve_of_free {s : State} (h : lineAlive s = true) (free : s.line.state = .free) (idle : s.line.drive = .idle) :
    serve s = (if s.feeder.hushPending = true ∧ s.line.holdOffMs = 0 then { s with line.drive := .hush, line.holdOffMs := 2000 }
      else if s.line.startRequest then { s with line.drive := .startPulse false, line.startRequest := false }
      else s) := by
  unfold serve; rw [if_pos ⟨h, free, idle⟩]

/-- A row that names the entry into ISLANDED is no event where the part does not enter it (R70, log entry 2). -/
theorem islanded_of_not {cause : MissedBy} {s : State} (h : becomesIslanded s (missedEvent cause s) = false) :
    exec (.islanded cause) s = .next s := by
  show Host.Outcome.next (onlyWhere becomesIslanded (missedEvent cause) s) = _
  rw [onlyWhere, h]; rfl

theorem reachesThree_iff (s : State) :
    reachesThree s = true ↔
      s.census.missed = 2 ∧ (s.census.participation = .listening ∨ s.census.participation = .joined) := by
  simp [reachesThree]

/-- Entry into ISLANDED sets participation, and for the rest changes the outlets and the events alone (R70). -/
theorem enterIslanded_frame (s : State) : OutletFrame { s with census.participation := .islanded } (enterIslanded s) :=
  ((raise_frame .islanded _).trans (mapOutlets_frame zeroBorrow _)).trans (recompute_frame true _)

/-- A missed period counts, and at a count of 3 takes a LISTENING or JOINED part to ISLANDED (R69, R70). -/
theorem missPeriod_cases (s : State) :
    (reachesThree s = false ∧ missPeriod s = countMissed s) ∨
      (reachesThree s = true ∧ missPeriod s = enterIslanded (countMissed s)) := by
  unfold missPeriod; cases reachesThree s <;> simp

/-- The missed-period count after a missed period (R65, R69). -/
theorem missPeriod_missed (s : State) :
    (missPeriod s).census.missed = if takesPart s then min 3 (s.census.missed + 1) else s.census.missed := by
  have hc : (countMissed s).census.missed = if takesPart s then min 3 (s.census.missed + 1) else s.census.missed := by
    unfold countMissed; split <;> rfl
  rcases missPeriod_cases s with ⟨-, h⟩ | ⟨-, h⟩ <;> rw [h]
  · exact hc
  · rw [(enterIslanded_frame _).census]; exact hc

theorem missPeriod_line (s : State) : (missPeriod s).line = s.line := by
  rcases missPeriod_cases s with ⟨-, h⟩ | ⟨-, h⟩ <;> rw [h]
  · simp
  · rw [(enterIslanded_frame _).line]; simp

theorem missPeriod_roster (s : State) : (missPeriod s).roster = s.roster := by
  rcases missPeriod_cases s with ⟨-, h⟩ | ⟨-, h⟩ <;> rw [h]
  · simp
  · rw [(enterIslanded_frame _).roster]; simp

/-- An abandonment drops the frame and its drive, raises ABANDONED and misses a period; a frame not taken part in is none (R80, R81). -/
theorem abandon_cases (s : State) :
    (s.census.frame = none ∧ abandon s = { s with line.bitDrive := false }) ∨
      (s.census.frame ≠ none ∧
        abandon s = missPeriod (raise .abandoned { s with census.frame := none, line.bitDrive := false })) := by
  unfold abandon; cases h : s.census.frame <;> simp

theorem abandon_line (s : State) : (abandon s).line = { s.line with bitDrive := false } := by
  rcases abandon_cases s with ⟨-, h⟩ | ⟨-, h⟩ <;> rw [h]
  rw [missPeriod_line]; rfl

/-- What the 600th bit-time of a run can do (R44, R45): nothing without a run or in STUCK, and otherwise the entry into STUCK, with a census in
progress abandoned, the event and the fault. -/
theorem goStuck_cases (s : State) :
    (goStuck s = s ∧ (s.line.run = none ∨ s.line.state = .stuck)) ∨
      ∃ r, s.line.run = some r ∧ s.line.state ≠ .stuck ∧
        goStuck s = capture .lineStuck none (stuckValue r) (raise .stuck (abandon { s with line := enterStuck s.line })) := by
  unfold goStuck
  cases h : s.line.run with
  | none => exact .inl ⟨rfl, .inl rfl⟩
  | some r =>
    by_cases k : s.line.state = .stuck
    · simp only [if_pos k]; exact .inl ⟨trivial, .inr k⟩
    · simp only [if_neg k]; exact .inr ⟨r, rfl, k, rfl⟩

/-- What the end of a run in FRAME can do (R43, R44; log entry 14): the run ends, from 600 bit-times on in STUCK. -/
theorem endFrameRun_cases (samples : Nat) (s : State) :
    (samples / 16 < 600 ∧ endFrameRun samples s = { s with line := endRun s.line }) ∨
      (600 ≤ samples / 16 ∧ endFrameRun samples s = { goStuck s with line := endRun (goStuck s).line }) := by
  unfold endFrameRun endStuckRun classOf runLength
  split_ifs <;> simp_all <;> omega

/-- The drive that a frame bit's decision leaves changes nothing else (R54, R72, R73). -/
theorem decideDrive_eq (s : State) : decideDrive s = { s with line.bitDrive := (decideDrive s).line.bitDrive } := rfl

/-- A drive decided is that of a census in progress (R54). -/
theorem decideDrive_frame {s : State} (h : (decideDrive s).line.bitDrive = true) : s.census.frame ≠ none := by
  intro k; simp [decideDrive, k] at h

/-- The majority of three samples is dominant where two or three of them are (R55). -/
theorem majority_iff (a b c : Bool) : majority a b c = decide (2 ≤ a.toNat + b.toNat + c.toNat) := by
  cases a <;> cases b <;> cases c <;> rfl

/-- A band of the water-fill gives its seats no more than it has, and passes on the rest (R100 to R102). -/
theorem fillBand_conserves (ceiling minCurrent count remaining : Nat) (above : Bool) :
    (fillBand ceiling minCurrent count remaining above).1.given minCurrent count +
      (fillBand ceiling minCurrent count remaining above).2 = remaining := by
  unfold fillBand
  split
  · simp [Fill.given]
  · split
    · simp [Fill.given]
    · split
      · have : min ceiling (remaining / count) * count ≤ remaining :=
          (Nat.mul_le_mul_right count (min_le_right _ _)).trans (Nat.div_mul_le_self _ _)
        simp only [Fill.given]; omega
      · have := Nat.div_mul_le_self remaining minCurrent
        simp only [Fill.given]; omega

/-- The roster keeps its 128 entries through an update (R87, R88). -/
theorem updateRoster_length (m : Maps) (number : CensusNumber) (r : Roster) :
    (updateRoster m number r).entries.length = r.entries.length := by
  simp [updateRoster, updateEntries]

/-- The update at one seat: its entry moves by its own four bits (R88). -/
theorem updateRoster_getElem? (m : Maps) (number : CensusNumber) (r : Roster) (seat : Nat) :
    (updateRoster m number r).entries[seat]? =
      r.entries[seat]?.map (updateEntry (m.present.getLsbD seat) (m.late.getLsbD seat) (m.tight.getLsbD seat) (m.steady.getLsbD seat)) := by
  simp only [updateRoster, updateEntries, List.getElem?_map, List.getElem?_zipIdx]
  cases r.entries[seat]? <;> simp

/-- An update keeps the law of an entry, whatever the four bits (R87 to R91). -/
theorem updateEntry_law (present late tight steady : Bool) (e : Entry) (h : EntryLaw e) :
    EntryLaw (updateEntry present late tight steady e) := by
  cases present with
  | true => cases late <;> cases tight <;> cases steady <;> simp [updateEntry, EntryLaw, bandOfBits, severalBits]
  | false =>
    obtain ⟨st, band, absence, multi, irr⟩ := e
    cases st with
    | present => simp_all [updateEntry, updateUnseen, EntryLaw]
    | held =>
      simp only [EntryLaw] at h
      simp only [updateEntry, updateUnseen, Bool.false_eq_true, ↓reduceIte]
      split <;> simp [EntryLaw, h.2]
      omega
    | absent => simp [updateEntry, updateUnseen, EntryLaw]

end Sys2Proof.Machine
end

