-- ==== Sys2Proof/Tests/Slice0.lean ====
section
/-! SUPPORT. The model's own tests: the refusals of WellFormed, the manual's worked cases and tables, one step at a time, and a witness for
the hypotheses of each obligation. Expected figures are the manual's, or worked by hand from the rule that a test names. -/

namespace Sys2Proof.Tests

-- The theorems are checked one after another: side by side, each kernel evaluation holds a thread of its own.
set_option Elab.async false

open Sys2Proof.Machine

/-- The state after a command. -/
def after (c : Instr) (s : State) : State :=
  match exec c s with
  | .next t => t
  | .fault _ => s
  | .refused _ => s

/-- A profile with the figures of the worked cases of Chapters 6 to 8: L 4000, reserve 400, K 320, I_min 60, post limit 800, θ 90, M_up 50,
M_hard 400, fallback 100, FS 8000, ramp 20. -/
def demo : Profile := ⟨4000, 400, 320, 60, 800, 90, 50, 400, 100, 8000, 20⟩

/-- An outlet with a session of need 3000, departure 180 and van max 320. -/
def van (st : SessionState) : Outlet :=
  { Outlet.cleared with
    session := { Session.cleared with state := st, need := 3000, needSet := 3000, departure := 180, vanMax := 320 } }

/-- A part just out of reset, strapped to seats 68 and 69 at 10 kbit/s. -/
def fresh : State := .afterReset ⟨68, 2, 1⟩ [] false []

/-- A JOINED part with a profile and its outlets, seats from 68. -/
def bay (outlets : List Outlet) : State :=
  { State.afterReset ⟨68, outlets.length, 1⟩ [] false [] with
    host.profile := some demo
    shares.pool := some 3600
    census.participation := .joined
    census.reachedFrameZero := true
    outlets := outlets }

/-- A map of some seats. -/
def seats (l : List Nat) : SeatMap := l.foldl (fun m s => m ||| BitVec.twoPow 128 s) 0#128

/-- A census in progress, its number read as 1000. -/
def frameOf (read driven : Maps) : Frame := ⟨[], 1000#16, true, (false, false), 1000#16, read, driven⟩

/-- A part at the end of frame bit 529 of a census in progress. -/
def ending (f : Frame) (outlets : List Outlet) : State :=
  { bay outlets with line.state := .frame, line.frameBit := 530, census.frame := some f }

/-- A part with a dominant run in progress in PULSE. -/
def inPulse (r : Run) (s : State) : State := { s with line.state := .pulse, line.run := some r }

/-- A classifiable run of another part. -/
def foreignRun : Run := ⟨true, none, false, false⟩

/-- The maps of the census of 6.8, case 1: three Late, eight Tight and forty Steady seats, and seat 71 present without a band. -/
def caseOne : Maps :=
  { late := seats [5, 68, 100]
    tight := seats (69 :: (List.range 7).map (· + 80))
    steady := seats (70 :: ((List.range 13).map (· + 87) ++ (List.range 26).map (· + 101)))
    present := seats ([5, 68, 100] ++ (69 :: (List.range 7).map (· + 80)) ++ (70 :: ((List.range 13).map (· + 87) ++
      (List.range 26).map (· + 101))) ++ [71]) }

/-- What the part of case 1 drove of it. -/
def caseOneDriven : Maps := ⟨seats [68, 69, 70, 71], seats [68], seats [69], seats [70]⟩

/-- The outlets of case 1. -/
def caseOneOutlets : List Outlet := [van .charging, van .paused, van .charging, { van .topped with session.need := 0 }]

/-! ## WellFormed refuses an ill-formed term at each check -/

theorem test_unknownRequest_refuses_a_request_code : (Instr.unknownRequest 0x20#8 []).wellFormed = false := by decide
theorem test_unknownRequest_refuses_the_null_code : (Instr.unknownRequest 0x00#8 []).wellFormed = false := by decide
theorem test_nullTransaction_refuses_another_code : (Instr.nullTransaction [0x10#8]).wellFormed = false := by decide
theorem test_leadingEdge_refuses_bit_530 : (Instr.leadingEdge 530).wellFormed = false := by decide
theorem test_trailingEdge_refuses_no_sample : (Instr.trailingEdge 0 true).wellFormed = false := by decide
theorem test_islanded_refuses_no_sample : (Instr.islanded (.runEnd 0 true)).wellFormed = false := by decide
theorem test_outlet_4_is_refused :
    (Instr.seatClashFault 4).wellFormed = false ∧ (Instr.overdraw 4 true).wellFormed = false ∧
    (Instr.stall 4 true).wellFormed = false ∧ (Instr.unstall 4 true).wellFormed = false ∧ (Instr.release 4 true).wellFormed = false ∧
    (Instr.overdue 4 .minuteTick).wellFormed = false ∧ (Instr.drawQuantum 4 1).wellFormed = false ∧
    (Instr.ampMinuteCompletion 4 1).wellFormed = false := by decide
theorem test_charge_above_a_quantum_is_refused :
    (Instr.drawQuantum 0 25001).wellFormed = false ∧ (Instr.ampMinuteCompletion 0 25001).wellFormed = false := by decide

/-! ## Transactions (10.8, 10.9) -/

/-- The bytes of OPEN, outlet 5, need 3000, departure 180, van max 320, no tag (10.8). -/
theorem test_open_decodes :
    decodeTransaction [0x20#8, 0x07#8, 0x05#8, 0x0B#8, 0xB8#8, 0x00#8, 0xB4#8, 0x01#8, 0x40#8] =
      .openSession (withLength (sessionBytes 5 3000 180 320 [])) := by decide

/-- R163: the bits of 0x33 and 0x00, most significant bit first, and three bits of a byte cut off, in two transactions of one queue. -/
theorem test_bits_make_a_transaction :
    (receiveTransaction ([false, false, true, true, false, false, true, true] ++ List.replicate 8 false ++ [true, true, true])
      (receiveTransaction (List.replicate 7 true) fresh)).pending = [.nullTransaction [], .readStatus [0x00#8]] := by decide

/-- R163: 0x20 goes out most significant bit first. -/
theorem test_miso_sends_the_top_bit_first :
    (List.range 8).map (misoBit { fresh with host.response := ⟨0x20#8, .done, []⟩ }) =
      [false, false, true, false, false, false, false, false] := by decide

/-- Transaction 1 of 10.9. -/
theorem test_loadProfile_is_taken :
    (after (.loadProfile (withLength (profileBytes demo))) fresh).host.response = ⟨0x10#8, .done, []⟩ ∧
    (after (.loadProfile (withLength (profileBytes demo))) fresh).shares.pool = some 3600 ∧
    (after (.loadProfile (withLength (profileBytes demo))) fresh).census.participation = .listening := by decide +kernel

/-- Transaction 5 of 10.9. -/
theorem test_loadProfile_is_locked :
    (after (.loadProfile (withLength (profileBytes demo))) (bay [])).host.response = ⟨0x10#8, .profileLocked, []⟩ := by decide +kernel

/-- Transaction 2 of 10.9. -/
theorem test_open_answers_paused :
    (after (.openSession (withLength (sessionBytes 0 3000 180 320 [1#8, 2#8, 3#8, 4#8]))) (bay [.cleared])).host.response =
      ⟨0x20#8, .done, [0x01#8]⟩ := by decide +kernel

/-- Transaction 3 of 10.9. -/
theorem test_open_finds_no_outlet_5 :
    (after (.openSession (withLength (sessionBytes 5 3000 180 320 []))) (bay [.cleared, .cleared])).host.response =
      ⟨0x20#8, .noSuchOutlet, []⟩ := by decide +kernel

/-- Transaction 4 of 10.9: a null transaction with three bytes of padding leaves the buffer. -/
theorem test_null_leaves_the_buffer :
    after (.nullTransaction [0x00#8, 1#8, 2#8, 3#8]) (bay [.cleared]) = bay [.cleared] := by decide +kernel

theorem test_unknown_code_is_refused :
    (after (.unknownRequest 0x77#8 []) fresh).host.response = ⟨0x77#8, .unknownRequest, []⟩ := by decide +kernel

/-- R12: need 1500 given, departure kept, van max 160 given. -/
theorem test_amend_keeps_a_field :
    ((after (.amendSession (withLength (sessionBytes 0 1500 65535 160 []))) (bay [van .paused])).outlets.map
      fun o => (o.session.need, o.session.needSet, o.session.departure, o.session.vanMax)) = [(1500, 1500, 180, 160)] := by
  decide +kernel

/-- R13: a need of 0 takes the session TOPPED. -/
theorem test_amend_to_need_0_tops :
    (after (.amendSession (withLength (sessionBytes 0 0 65535 65535 []))) (bay [van .charging])).host.response =
      ⟨0x21#8, .done, [0x03#8]⟩ := by decide +kernel

theorem test_close_clears :
    (after (.closeSession (withLength [0x00#8])) (bay [van .stalled])).outlets = [Outlet.cleared] := by decide +kernel

theorem test_readOutlet_has_38_bytes :
    (after (.readOutlet (withLength [0x00#8])) (bay [van .paused])).host.response.body.length = 38 := by decide +kernel

theorem test_readCensus_is_empty_before_a_census :
    (after (.readCensus (withLength [])) fresh).host.response = ⟨0x31#8, .done, []⟩ := by decide +kernel

theorem test_readRoster_has_128_bytes :
    (after (.readRoster (withLength [])) fresh).host.response.body = List.replicate 128 0x00#8 := by decide +kernel

/-- The status of the fresh part: OFFLINE, SETTLING, seat base 68, two outlets, rate 1, no profile, VALID. -/
theorem test_readStatus_after_reset :
    (after (.readStatus (withLength [])) fresh).host.response.body =
      [0x00#8, 0x00#8, 0x44#8, 0x02#8, 0x01#8, 0x00#8, 0x00#8, 0x00#8, 0x00#8, 0x00#8] := by decide +kernel

theorem test_readFault_is_empty :
    (after (.readFault (withLength [])) fresh).host.response.body = List.replicate 8 0x00#8 := by decide +kernel

theorem test_readEvents_clears_the_named_flag :
    (after (.readEvents (withLength [0x00#8, 0x00#8, 0x00#8, 0x01#8])) { fresh with host.events := 0x3#32 }).host.events = 0x2#32 := by
  decide +kernel

theorem test_clearFault_empties_the_record :
    (after (.clearFault (withLength []))
      { fresh with host.firstFault := some ⟨.driver, none, 0#16, 0, 65535⟩, host.furtherFaults := true }).host =
      { fresh.host with response := ⟨0x40#8, .done, []⟩ } := by decide +kernel

theorem test_setMask_stores_bit_31_as_0 :
    (after (.setMask (withLength [0xFF#8, 0xFF#8, 0xFF#8, 0xFF#8])) fresh).host.mask = 0x7FFFFFFF#32 := by decide +kernel

theorem test_restart_takes_reset :
    (after (.restart (withLength [])) (bay [van .charging])).host.resetHeld = [.restart] := by decide +kernel

/-! ## Reset (10.7) -/

theorem test_powerOnReset_clears_the_profile : (after .powerOnReset (bay [])).host.profile = none := by decide +kernel
theorem test_resetNLow_holds_reset : (after .resetNLow (bay [])).host.resetHeld = [.resetPin] := by decide +kernel
theorem test_supplyLow_joins_a_held_reset :
    (after .supplyLowReset (after .resetNLow fresh)).host.resetHeld = [.supplyLow, .resetPin] := by decide +kernel

/-- R162: seat straps 17, outlet straps 3, rate straps 1. -/
theorem test_resetRelease_samples_the_straps :
    (after (.resetRelease .resetPin 17#5 3#2 1#2 false) (after .resetNLow fresh)).host.straps = ⟨68, 4, 1⟩ := by decide +kernel

/-! ## The share line (Chapter 3) -/

theorem test_leadingEdge_from_free :
    (after (.leadingEdge 0) { fresh with line.state := .free }).line.run = some foreignRun := by decide +kernel

/-- Log entry 10: a run that a frame end left in SETTLING goes on unclassifiable. -/
theorem test_leadingEdge_takes_a_run_on :
    (fun t => (t.line.state, t.line.run)) (after (.leadingEdge 0) { fresh with line.run := some foreignRun }) =
      (.pulse, some { foreignRun with classifiable := false }) := by decide +kernel

/-- R39, R46: 127 samples are 7 bit-times and a start; 80 are 5 and a glitch. R44, log entry 14: in FRAME 9599 samples are short of STUCK. -/
theorem test_runs_end_by_their_length :
    [80, 127].map (fun samples => (after (.trailingEdge samples true) (inPulse foreignRun (bay []))).line.state) = [.settling, .frame] ∧
    [9599, 9600].map (fun samples =>
      (after (.trailingEdge samples true) { ending (frameOf .clear .clear) [] with line.run := some foreignRun }).line.state) =
      [.frame, .stuck] := by decide +kernel

theorem test_lineFree_serves_a_start_request :
    (after .lineFree { fresh with line.startRequest := true }).line.drive = .startPulse false := by decide +kernel

theorem test_startPulseEnd_releases :
    shareDriven true (after .startPulseEnd (inPulse foreignRun { fresh with line.drive := .startPulse true })) = false := by
  decide +kernel

theorem test_hushDriveEnd_marks_the_run :
    (after .hushDriveEnd (inPulse foreignRun { fresh with line.drive := .hush })).line.run = some ⟨true, none, false, true⟩ := by
  decide +kernel

theorem test_holdOff_expiry_drives_a_pending_hush :
    (after .hushHoldOffExpiry
      { fresh with line.state := .free, line.holdOffMs := 2000, feeder.hushPending := true }).line.drive = .hush := by decide +kernel

theorem test_lineStuck_captures_65535 :
    (after .lineStuck (inPulse foreignRun fresh)).host.firstFault = some ⟨.lineStuck, none, 0#16, 0, 65535⟩ := by decide +kernel

/-- R58: an echo fault in frame bit 18. -/
theorem test_echoFault_captures_the_bit :
    (after (.echoFault false true false)
      { ending (frameOf .clear .clear) [] with line.frameBit := 18, line.bitDrive := true }).host.firstFault =
      some ⟨.driver, none, 0#16, 0, 18⟩ := by decide +kernel

theorem test_echoFaultPulse_of_a_start_pulse :
    (after .echoFaultPulse (inPulse foreignRun { fresh with line.drive := .startPulse true })).host.firstFault =
      some ⟨.driver, none, 0#16, 0, 65534⟩ := by decide +kernel

theorem test_settleFault_abandons :
    (after (.settleFault true true false) { ending (frameOf .clear .clear) [] with line.frameBit := 1 }).census.frame = none ∧
    (after (.settleFault true true false) { ending (frameOf .clear .clear) [] with line.frameBit := 1 }).census.missed = 1 := by
  decide +kernel

/-- R55, R72: two of three samples dominant in frame bit 2, the number's bit 15. -/
theorem test_frameBitRead_takes_the_majority :
    ((after (.frameBitRead true false true)
      { ending { frameOf .clear .clear with number := 0#16 } [] with line.frameBit := 2 }).census.frame.map (·.number)) =
      some 0x8000#16 := by decide +kernel

/-- R54: after its third sample the driven bit 529 is held dominant to its end, and the line is released there. -/
theorem test_driven_bit_is_held_to_its_end :
    (fun t => (shareDriven false t, shareDriven true t))
      (after (.frameBitRead true true true) { ending (frameOf .clear .clear) [] with line.frameBit := 529, line.bitDrive := true }) =
      (true, false) := by decide +kernel

/-! ## The census, the roster and the shares (Chapters 4 to 6) -/

/-- 5.9: the ranks of seats 62, 70, 127, 3, 20 and 61 at ρ = 62 and at ρ = 63. -/
theorem test_rotation_moves_on :
    [62, 70, 127, 3, 20, 61].map (rotationKey 62) = [0, 8, 65, 69, 86, 127] ∧
    [62, 70, 127, 3, 20, 61].map (rotationKey 63) = [127, 7, 64, 68, 85, 126] := by decide

/-- 6.8, case 1: the share records that the census of 1000 leaves. -/
theorem test_frameEnd_case_1 :
    ((after .frameEnd (ending (frameOf caseOne caseOneDriven) caseOneOutlets)).outlets.map
      fun o => (o.share.g, o.share.bandUsed, o.share.rank)) =
        [(320, .late, some 1), (320, .tight, some 1), (60, .steady, some 1), (0, .unbanded, none)] ∧
    (after .frameEnd (ending (frameOf caseOne caseOneDriven) caseOneOutlets)).shares.poolRemainder = some 20 := by decide +kernel

/-- 6.8, cases 3 and 4. -/
theorem test_waterFill_cases_3_and_4 :
    waterFill 320 60 2500 1 8 3 = ⟨.full 320, .full 272, .short 0, 4⟩ ∧
    waterFill 320 60 1000 0 2 6 = ⟨.empty, .full 320, .full 60, 0⟩ := by decide

/-- R77: the third census in a row with a clash, in the Present bit of seat 68. -/
theorem test_seatClashFault_captures_bit_86 :
    (after (.seatClashFault 0) (ending (frameOf { Maps.clear with present := seats [68] } .clear)
      [{ van .charging with clashCount := 2 }])).host.firstFault = some ⟨.seatClash, some 0, 1000#16, 0, 86⟩ := by decide +kernel

theorem test_censusTimerExpiry_on_a_busy_line :
    (after .censusTimerExpiry (bay [])).census.missed = 1 ∧ (after .censusTimerExpiry (bay [])).line.startRequest = true := by
  decide +kernel

/-- R70, R138: the third missed period, and the fallback of 100 for the session of case A (2.6), taken Tight at the expiry. -/
theorem test_islanded_takes_the_fallback :
    ((after (.islanded .timerExpiry) { bay [van .paused] with census.missed := 2 }).outlets.map
      fun o => (o.session.laxity, o.session.band, o.share.target)) = [(some 86, .tight, 100)] := by decide +kernel

/-- A JOINED part that has reached no frame zero since reset, two periods missed. -/
def early : State := { bay [van .paused] with census.missed := 2, census.reachedFrameZero := false }

/-- Log entry 20: before the first frame zero taken part in, the bands at the entry into ISLANDED are as the value left open between R37 and
R70 has it. -/
theorem test_islanded_before_a_frame_zero :
    (missPeriodAtExpiry early).outlets.map (fun o => (o.session.band, o.share.target)) =
      if Config.snapshotBeforeFrameZero then [(.tight, 100)] else [(.absent, 0)] := by
  unfold missPeriodAtExpiry snapshotAtExpiry expirySnapshotDue
  cases Config.snapshotBeforeFrameZero <;> decide +kernel

theorem test_summaryAgeTick_saturates :
    ((after .summaryAgeTick { fresh with census.summary := some ⟨0#16, false, 0, 0, 0, 0, [], 0, none, none, 65535⟩ }).census.summary.map
      (·.age)) = some 65535 := by decide +kernel

/-- 2.6: cases A to G, H and J. -/
theorem test_laxity_cases :
    [laxityOf 3000 320 180, laxityOf 1200 200 150, laxityOf 1200 200 151, laxityOf 1200 200 60, laxityOf 1 800 1, laxityOf 1 10 0,
      laxityOf 40000 60 30, laxityOf 1500 320 140, laxityOf 1500 160 140] = [86, 90, 91, 0, 0, -1, -2048, 93, 46] ∧
    [86, 90, 91, 0, 0, -1, -2048, 93, 46].map (bandOfLaxity 90) =
      [.tight, .tight, .steady, .late, .late, .late, .late, .steady, .tight] := by decide +kernel

/-! ## The feeder, borrow, targets and offers (Chapters 7 and 8) -/

/-- 7.2: the conversions at FS 8000. -/
theorem test_feeder_average :
    [3000, 4080, 20460, 24000, 36840, 37500].map (feederAverage 8000) = [0, 0, 4000, 4864, 8000, 8000] := by decide

theorem test_feederSample_adds_the_code :
    (after (.feederSample 512#10) (bay [])).feeder.windowSum = 512 ∧ (after (.feederSample 512#10) fresh).feeder.windowSum = 0 := by
  decide +kernel

/-- 8.8: growth by a slice of 1 and by the band steps, and reduction of 75 and of 4. -/
theorem test_borrow_grows_and_falls :
    [Band.late, .tight, .steady].map (fun b => grownBorrow demo 51 150 { van .charging with share.bandUsed := b }) = [1, 1, 1] ∧
    [Band.late, .tight, .steady].map (fun b => grownBorrow demo 10 600 { van .charging with share.bandUsed := b }) = [40, 20, 10] ∧
    [75, 4].map (fun b => cutBorrow 51 130 { van .charging with share.b := b }) = [34, 0] := by decide +kernel

/-- 8.8: the post cap at 800, 400 and 150. -/
theorem test_post_cap :
    [800, 400, 150].map (fun l => postCap 60 l [3, 2, 1, 0] [320, 320, 260, 60]) =
      [[320, 320, 100, 60], [220, 60, 60, 60], [60, 60, 0, 0]] := by decide

/-- 8.8: the first boundaries of a ramp to 250, and its last. -/
theorem test_ramp :
    [0, 60, 80, 240, 250].map (fun f => rampedOffer demo f 250) = [60, 80, 100, 250, 250] := by decide

/-- 8.8: the duties of the offers 60, 160 and 250. -/
theorem test_pwm_duty :
    (after .pwmPeriodStart (bay ([60, 160, 250].map fun f => { van .charging with session.offer := f }))).outlets.map (·.setpointDuty) =
      [75, 200, 312] := by decide +kernel

/-- A window above L, the second in a row: F = 4131. -/
def heavy (outlets : List Outlet) : State := { bay outlets with feeder.windowSum := 21000, feeder.overCount := 1 }

/-- A window above L + M_hard, the second in a row: F = 4498. -/
def tripping (outlets : List Outlet) : State := { bay outlets with feeder.windowSum := 22500, feeder.tripCount := 1 }

/-- A CHARGING session with G 100, B 120, target and offer 220 (8.8, "A curtailment across three censuses"). -/
def charger : Outlet := { van .charging with share.g := 100, share.b := 120, share.target := 220, session.offer := 220 }

theorem test_overload_halves :
    ((after (.overload true) (heavy [charger])).outlets.map fun o => (o.share.b, o.share.target, o.session.offer)) =
      [(60, 160, 160)] := by decide +kernel

theorem test_trip_zeroes_and_curtails :
    ((after (.trip true) (tripping [charger])).outlets.map fun o => (o.share.b, o.share.target, o.session.offer)) = [(0, 100, 100)] ∧
    (after (.trip true) (tripping [charger])).shares.curtail = 3 := by decide +kernel

/-- R50, R53, R125: the hush of a trip goes out at once on a FREE, idle line with no hold-off. -/
theorem test_trip_drives_its_hush :
    (fun t => (t.line.drive, t.line.holdOffMs)) (after (.trip true) { tripping [charger] with line.state := .free }) =
      (.hush, 2000) := by decide +kernel

/-- R126: the heard hush of 8.8 lowers target and offer to 100. -/
theorem test_hush_heard_curtails :
    ((after (.trailingEdge 480 true) (inPulse foreignRun (bay [charger]))).outlets.map fun o => (o.share.target, o.session.offer)) =
      [(100, 100)] := by decide +kernel

theorem test_senseLost_at_the_second_window :
    (after (.senseLost true) { bay [] with feeder.windowSum := 2039, feeder.outOfBandCount := 1 }).host.firstFault =
      some ⟨.senseLost, none, 0#16, 0, 2039⟩ := by decide +kernel

theorem test_senseBack_at_the_eighth_window :
    (after (.senseBack true) { bay [] with feeder.windowSum := 2040, feeder.sense := .lost, feeder.inBandCount := 7 }).feeder.sense =
      .valid := by decide +kernel

theorem test_fullWindowEnd_moves_the_window :
    (after (.fullWindowEnd true) { bay [] with census.windowIndex := 7 }).census.windowIndex = 0 := by decide +kernel

/-! ## The outlets (Chapters 1 and 9) -/

/-- R153: the fourth window at 21 above a ceiling of 0. -/
def overdrawn : Outlet := { van .paused with supervision.overdrawCount := 3, meter.windowCount := 21 }

/-- R154: the 240th window with draw 9. -/
def idle : Outlet := { charger with supervision.stallCount := 239, meter.windowCount := 9 }

/-- R155: the fourth window with draw 20. -/
def waking : Outlet := { van .stalled with supervision.unstallCount := 3, meter.windowCount := 20 }

/-- R156: the eighth window with draw 21 at a VACANT outlet. -/
def leaking : Outlet := { Outlet.cleared with supervision.releaseCount := 7, meter.windowCount := 21 }

theorem test_overdraw_faults :
    (after (.overdraw 0 true) (bay [overdrawn])).host.firstFault = some ⟨.overdraw, some 0, 0#16, 0, 21⟩ := by decide +kernel

theorem test_stall_leaves_the_probe :
    ((after (.stall 0 true) (bay [idle])).outlets.map fun o => (o.session.state, o.share.g, o.share.b, o.share.target)) =
      [(.stalled, 0, 0, 60)] := by decide +kernel

theorem test_unstall_without_a_share_pauses :
    (after (.unstall 0 true) (bay [waking])).outlets.map (·.session.state) = [.paused] := by decide +kernel

theorem test_release_captures_vacant_draw :
    (after (.release 0 true) (bay [leaking])).host.firstFault = some ⟨.vacantDraw, some 0, 0#16, 0, 21⟩ := by decide +kernel

/-- A session at T = 1. -/
def leaving : Outlet := { van .paused with session.departure := 1 }

theorem test_minuteTick_sets_overdue :
    (after .minuteTick (bay [leaving])).outlets.map (fun o => (o.session.departure, o.session.overdue)) = [(0, true)] := by decide +kernel

theorem test_overdue_raises_flag_12 :
    (after (.overdue 0 .minuteTick) (bay [leaving])).host.events = 0x1000#32 := by decide +kernel

theorem test_drawQuantum_counts_a_quantum :
    (after (.drawQuantum 0 25000) (bay [van .charging])).outlets.map (·.meter) = [⟨0, 1, 1, none⟩] := by decide +kernel

/-- A session with one ampere-minute to take, a quantum away from it. -/
def almost : Outlet := { charger with session.need := 1, meter.remainder := 2399 }

theorem test_ampMinuteCompletion_tops :
    (after (.ampMinuteCompletion 0 25000) (bay [almost])).outlets.map (fun o => (o.session.state, o.session.need, o.session.delivered)) =
      [(.topped, 0, 1)] := by decide +kernel

/-! ## Witnesses: concrete states and operands that meet the hypotheses of each obligation, clause by clause -/

/-- A state in reset for one cause. -/
def held : State := { fresh with host.resetHeld := [.resetPin] }

/-- A filled first-fault record. -/
def record : FaultRecord := ⟨.driver, none, 0#16, 7, 65535⟩

/-- A VACANT outlet whose release output is driven. -/
def releasing : Outlet := { Outlet.cleared with supervision.releaseCount := 8, supervision.releaseDriven := true }

/-- A lawful CHARGING outlet at a target and an offer of 60. -/
def lawful : Outlet := { van .charging with share.target := 60, session.offer := 60, share.b := 60 }

/-- The law of the post at a part with that outlet. -/
theorem lawful_post : PostLaw (bay [lawful]) := by
  refine ⟨by decide, ?_, by decide⟩
  intro o ho
  obtain rfl : o = lawful := by simpa [bay] using ho
  unfold OfferLaw; decide

/-- That part at the end of a window, with its records settled: no count of the window's judgements stands at its end, and the cap has room. -/
theorem lawful_settled : QuietOutlets (bay [lawful]) ∧ TargetsSettled demo (bay [lawful]) := by
  unfold QuietOutlets TargetsSettled; decide

/-- A lawful CHARGING outlet at the end of its 240th window with draw below 10. -/
def stalling : Outlet := { lawful with supervision.stallCount := 239, meter.windowCount := 9 }

/-- A FAULTED outlet. -/
def faulted : Outlet := { van .faulted with session.faultKind := some .overdraw }

/-- A part with a strap fault. -/
def unstrapped : State := { fresh with host.straps.rate := 3 }

/-- A part in FRAME at a bit, with a census in progress. -/
def reading (bit : Nat) (drives : Bool) : State :=
  { ending (frameOf .clear .clear) [] with line.frameBit := bit, line.bitDrive := drives }

/-- A part with a drive in progress on a FREE line, where a start request stands and, as asked, a hush. -/
def driving (d : Drive) (hush : Bool) : State :=
  { bay [] with line.state := .free, line.drive := d, line.startRequest := true, feeder.hushPending := hush }

/-- A part whose next missed period is the third. -/
def third (s : State) : State := { s with census.missed := 2 }

/-- A part that sends a candidate, with nothing read yet. -/
def sender (candidate : CensusNumber) : Frame := ⟨[], candidate, true, (false, false), 0#16, .clear, .clear⟩

theorem witness_StepTakesFrontCommand :
    ({ fresh with pending := [.minuteTick, .lineFree] } : State).pending = .minuteTick :: [.lineFree] ∧ fresh.pending = [] := ⟨rfl, rfl⟩

theorem witness_StrapFaultStopsTheLine :
    unstrapped.host.straps.rate = 3 ∧ isLineCommand .lineFree = true ∧ fresh.host.straps.rate = 1 ∧
    ({ fresh with host.straps.rate := 0 } : State).host.straps.rate = 0 ∧
    ({ fresh with host.straps.rate := 2 } : State).host.straps.rate = 2 := by decide

theorem witness_ResetReleaseStartsEveryBlock :
    held.host.resetHeld = [.resetPin] ∧
    ResetCause.supplyLow ∈ ({ fresh with host.resetHeld := [.supplyLow, .resetPin] } : State).host.resetHeld ∧
    ResetCause.supplyLow ≠ .resetPin := by decide

theorem witness_ResetIsTakenWhole : Accepting fresh ∧ requestBody [0x00#8] = some [] := ⟨⟨rfl, rfl⟩, by decide⟩

theorem witness_HeldResetTakesNoCommand :
    held.host.resetHeld ≠ [] ∧ isReset .minuteTick = false ∧ ∃ shifted, Instr.restart [0x00#8] = .restart shifted :=
  ⟨by decide, rfl, _, rfl⟩

theorem witness_UnknownCodeAndNullTransaction :
    fresh.host.resetHeld = [] ∧ (0x77#8 : Byte) ≠ 0x00#8 ∧ (0x77#8 : Byte) ∉ requestCodes ∧
    [0x00#8, 0x10#8].head? = some (0x00#8 : Byte) ∧
    ({ fresh with host.ignoreTransaction := true } : State).host.ignoreTransaction = true := by
  decide

/-- A body that is incomplete, and bodies of the lengths beside those allowed. -/
theorem witness_BadLengthIsRefused :
    Accepting fresh ∧ (∀ body, requestBody [0x01#8] = some body → ¬ body.length = 0) ∧
    (∀ body, requestBody (withLength (List.replicate 21 0x00#8)) = some body → ¬ body.length = 22) ∧
    (∀ body, requestBody (withLength (List.replicate 23 0x00#8)) = some body → ¬ body.length = 22) ∧
    (∀ body, requestBody (withLength (List.replicate 6 0x00#8)) = some body → ¬ (7 ≤ body.length ∧ body.length ≤ 23)) ∧
    (∀ body, requestBody (withLength (List.replicate 24 0x00#8)) = some body → ¬ (7 ≤ body.length ∧ body.length ≤ 23)) := by
  refine ⟨⟨rfl, rfl⟩, ?_, ?_, ?_, ?_, ?_⟩ <;> intro body h <;> cases h <;> decide

theorem witness_TransactionsDecodeAsEncoded :
    (Instr.unknownRequest 0x77#8 [0x01#8]).wellFormed = true ∧
    encodeTransaction (.unknownRequest 0x77#8 [0x01#8]) = some [0x77#8, 0x01#8] ∧
    (List.replicate 255 0x00#8).length ≤ 255 ∧ [0x00#8].length < (0x02#8 : Byte).toNat ∧ profileInRange demo = true ∧
    profileInRange ⟨40000, 40000, 800, 160, 3200, 1023, 1000, 4000, 800, 65000, 100⟩ = true ∧
    profileInRange ⟨100, 0, 60, 10, 10, 0, 0, 0, 0, 1000, 5⟩ = true := by decide +kernel

theorem witness_LoadProfileIsChecked :
    Accepting fresh ∧ requestBody (withLength (profileBytes demo)) = some (profileBytes demo) ∧ (profileBytes demo).length = 22 ∧
    unstrapped.host.straps.rate = 3 ∧ Accepting unstrapped ∧ fresh.host.straps.rate ≠ 3 ∧ (bay []).host.profile ≠ none ∧
    Accepting (bay []) ∧ fresh.host.profile = none ∧ PostLaw fresh ∧ profileOf (profileBytes demo) = demo ∧
    profileInRange demo = true ∧
    ¬ 100 ≤ (profileOf (profileBytes { demo with importLimit := 99, reserve := 99 })).importLimit := by
  refine ⟨⟨rfl, rfl⟩, by decide, by decide, rfl, ⟨rfl, rfl⟩, by decide, by decide, ⟨rfl, rfl⟩, rfl, ?_, by decide, by decide, by decide⟩
  show ∀ o ∈ fresh.outlets, o.session.state = .vacant ∧ o.share.target = 0 ∧ o.session.offer = 0
  decide

theorem witness_ProfileStandsUntilReset :
    (bay [van .paused]).host.profile = some demo ∧ isReset .minuteTick = false ∧ StrapLaw (bay [van .paused]) ∧
    exec .minuteTick (bay [van .paused]) = .next (after .minuteTick (bay [van .paused])) := by
  refine ⟨rfl, rfl, ?_, rfl⟩; unfold StrapLaw; decide

/-- OPEN without a profile, of outlet 1 of one outlet, of an outlet in use or released, and of a free one, with no tag and with 16 bytes of it. -/
theorem witness_OpenIsTakenOrRefused :
    Accepting fresh ∧ Accepting (bay [.cleared]) ∧
    requestBody (withLength (sessionBytes 0 0 0 0 [])) = some (sessionBytes 0 0 0 0 []) ∧ (sessionBytes 0 0 0 0 []).length = 7 ∧
    requestBody (withLength (sessionBytes 0 65535 65535 65535 (List.replicate 16 0x41#8))) =
      some (sessionBytes 0 65535 65535 65535 (List.replicate 16 0x41#8)) ∧
    (sessionBytes 0 65535 65535 65535 (List.replicate 16 0x41#8)).length = 23 ∧ byteAt (sessionBytes 0 0 0 0 []) 0 = 0 ∧
    fresh.host.profile = none ∧ (bay [.cleared]).host.profile = some demo ∧ (bay []).outlets[0]? = none ∧
    (bay [van .paused]).outlets[0]? = some (van .paused) ∧ (van .paused).session.state ≠ .vacant ∧
    releasing.supervision.releaseDriven = true ∧ (bay [.cleared]).outlets[0]? = some .cleared ∧
    Outlet.cleared.session.state = .vacant ∧ Outlet.cleared.supervision.releaseDriven = false := by
  refine ⟨⟨rfl, rfl⟩, ⟨rfl, rfl⟩, ?_⟩; decide

theorem witness_AmendIsTakenOrRefused :
    Accepting (bay [van .stalled]) ∧ requestBody (withLength (sessionBytes 0 0 65535 65535 [])) = some (sessionBytes 0 0 65535 65535 []) ∧
    (sessionBytes 0 0 65535 65535 []).length = 7 ∧ byteAt (sessionBytes 0 0 65535 65535 []) 0 = 0 ∧ (bay []).outlets[0]? = none ∧
    Outlet.cleared.session.state = .vacant ∧ faulted.session.state = .faulted ∧
    (bay [van .stalled]).host.profile = some demo ∧ (bay [van .stalled]).outlets[0]? = some (van .stalled) ∧
    (van .stalled).session.state ≠ .vacant ∧ (van .stalled).session.state ≠ .faulted := by
  refine ⟨⟨rfl, rfl⟩, ?_⟩; decide

theorem witness_CloseIsTakenOrRefused :
    Accepting (bay [van .stalled]) ∧ requestBody (withLength [0x00#8]) = some [0x00#8] ∧ byteAt [0x00#8] 0 = 0 ∧
    (bay []).outlets[0]? = none ∧ (bay [van .stalled]).host.profile = some demo ∧
    (bay [van .stalled]).outlets[0]? = some (van .stalled) ∧ fresh.host.profile = none ∧ fresh.outlets[0]? = some .cleared := by
  refine ⟨⟨rfl, rfl⟩, ?_⟩; decide

theorem witness_ReadRequestsOnlyAnswer :
    Accepting fresh ∧ requestBody [0x00#8] = some [] ∧ fresh.census.summary = none ∧ requestBody [0x01#8, 0x02#8] = some [0x02#8] ∧
    fresh.outlets[(0x02#8 : Byte).toNat]? = none ∧ fresh.outlets[(0x01#8 : Byte).toNat]? = some .cleared := by
  refine ⟨⟨rfl, rfl⟩, ?_⟩; decide

/-- An outlet with fields at the ends of their places. -/
theorem witness_SessionReportHasItsLayout :
    ReportableOutlet 255 { van .charging with
      session.need := 65535, session.laxity := some (-2048), session.tag := List.replicate 16 0x41#8, share.rank := some 128,
      meter.lastAverage := some 65535, supervision.history := [0, 0, 0, 0, 0, 0, 0, 65535] } := by
  unfold ReportableOutlet
  refine ⟨by decide, by decide, by decide, by decide, by decide, by decide, ?_, by decide⟩
  intro l h; cases h; decide

/-- A summary with two own seats and fields at the ends of their places. -/
def fullSummary : Summary :=
  ⟨0xFFFF#16, true, 128, 128, 0, 255, [⟨⟨true, .late⟩, 65535, true⟩, ⟨⟨false, .unbanded⟩, 0, false⟩], 65535, some 65535, some (-65535), 65535⟩

theorem witness_ReportsHaveTheirLayouts :
    fresh.host.straps.seatBase ≤ 255 ∧ fresh.host.straps.outlets ≤ 255 ∧ fresh.host.straps.rate ≤ 3 ∧ fresh.shares.curtail ≤ 255 ∧
    fresh.census.missed ≤ 255 ∧ fresh.feeder.ring.length ≤ 8 ∧ RosterLaw fresh ∧ fresh.host.firstFault = none ∧
    fresh.roster.entries[127]? = some Entry.cleared ∧
    ({ fresh with host.firstFault := some record } : State).host.firstFault = some record ∧ (∀ n, record.outlet = some n → n ≤ 3) ∧
    record.window ≤ 7 ∧ record.value ≤ 65535 ∧
    ({ fresh with host.response := ⟨0x20#8, .done, [0x01#8]⟩ } : State).host.response.body[0]? = some 0x01#8 ∧
    3 + ({ fresh with host.response := ⟨0x20#8, .done, [0x01#8]⟩ } : State).host.response.body.length ≤ 4 ∧
    ({ fresh with feeder.ring := [⟨7, .inBand 65535, true⟩, ⟨0, .outOfBand 39000, false⟩] } : State).feeder.ring[1]? =
      some ⟨0, .outOfBand 39000, false⟩ ∧
    fullSummary.seats.length ≤ 4 ∧ (∀ k, fullSummary.peak = some k → k ≤ 65535) ∧
    (∀ h, fullSummary.headroom = some h → -2147483648 ≤ h ∧ h ≤ 2147483647) ∧
    fullSummary.seats[0]? = some ⟨⟨true, .late⟩, 65535, true⟩ ∧
    [Event.census, .abandoned, .islanded, .rejoined, .stuck, .clash, .overload, .trip, .hush, .senseLost, .senseBack][10]? =
      some .senseBack ∧
    [Event.topped 3, .overdue 3, .stalled 3, .faulted 3, .release 3][30 - (11 + 5 * 3)]? = some (.release 3) ∧ [true].length < 8 := by
  refine ⟨by decide, by decide, by decide, by decide, by decide, by decide, ⟨by decide +kernel, ?_⟩, by decide, by decide +kernel, by decide,
    ?_, by decide, by decide, by decide, by decide, by decide, by decide, ?_, ?_, by decide⟩
  · intro e he; rw [List.eq_of_mem_replicate he]; simp [EntryLaw, Entry.cleared]
  · intro n h; cases h
  · intro k h; cases h; decide
  · intro k h; cases h; decide

theorem witness_EventsMaskAndAttention :
    Accepting fresh ∧ requestBody (withLength (fourBytes (0xFFFFFFFF#32).toNat)) = some (fourBytes (0xFFFFFFFF#32).toNat) :=
  ⟨⟨rfl, rfl⟩, by decide⟩

theorem witness_FirstFaultIsKept :
    fresh.host.firstFault = none ∧ ({ fresh with host.firstFault := some record } : State).host.firstFault ≠ none ∧ Accepting fresh ∧
    requestBody [0x00#8] = some [] ∧ clearsFault .echoFaultPulse = false ∧ record.outlet.isSome = faultNamesOutlet record.kind ∧
    exec .echoFaultPulse { fresh with host.firstFault := some record, line.drive := .hush } =
      .next (after .echoFaultPulse { fresh with host.firstFault := some record, line.drive := .hush }) :=
  ⟨rfl, by decide, ⟨rfl, rfl⟩, by decide, rfl, rfl, rfl⟩

theorem witness_MinuteTickCountsDown :
    (bay [leaving]).host.resetHeld = [] ∧ (bay [leaving]).outlets[0]? = some leaving ∧ leaving.session.state ≠ .vacant ∧
    leaving.session.departure = 1 ∧ 0 < leaving.session.need ∧ leaving.session.overdue = false := by decide

theorem witness_OverdueIsSetOnce :
    (bay [leaving]).outlets[0]? = some leaving ∧ (bay [leaving]).host.resetHeld = [] ∧ leaving.session.state ≠ .vacant ∧
    leaving.session.state ≠ .faulted ∧ leaving.session.departure = 1 ∧ 0 < leaving.session.need ∧ leaving.session.overdue = false ∧
    (bay [leaving]).host.profile = some demo ∧ (bay [leaving]).host.ignoreTransaction = false ∧
    (bay [.cleared]).outlets[0]? = some .cleared ∧ Outlet.cleared.session.state = .vacant ∧
    Outlet.cleared.session.overdue = false ∧ Outlet.cleared.supervision.releaseDriven = false ∧
    ({ leaving with session.overdue := true } : Outlet).session.overdue = true := by decide

/-- The largest charge an integrator can be brought to, at the last remainder. -/
theorem witness_DrawQuantumConservesCharge :
    (bay [{ van .paused with meter := ⟨24999, 65535, 2399, none⟩ }]).host.resetHeld = [] ∧
    MeterLaw { van .paused with meter := ⟨24999, 65535, 2399, none⟩ } ∧ (24999 + 25000) / 25000 = 1 ∧
    (van .paused).meter.remainder + 0 < 2400 := by
  refine ⟨rfl, ?_, by decide, by decide⟩; unfold MeterLaw; decide

theorem witness_AmpMinuteCompletionByState :
    (bay [almost]).host.resetHeld = [] ∧ (bay [almost]).outlets[0]? = some almost ∧ 25000 ≤ almost.meter.charge + 25000 ∧
    2399 ≤ almost.meter.remainder ∧ (bay [almost]).host.profile = some demo ∧ almost.session.state = .charging ∧
    almost.session.need = 1 ∧ almost.meter.charge + 24999 < 25000 ∧ faulted.session.state = .faulted ∧
    Outlet.cleared.session.state = .vacant ∧ (van .topped).session.state = .topped ∧ 1 < (van .stalled).session.need := by decide

theorem witness_NeedIsConserved :
    isReset (.drawQuantum 0 25000) = false ∧ setsNeed (.drawQuantum 0 25000) = false ∧
    exec (.drawQuantum 0 25000) (bay [almost]) = .next (after (.drawQuantum 0 25000) (bay [almost])) ∧
    (bay [almost]).outlets[0]? = some almost ∧ (after (.drawQuantum 0 25000) (bay [almost])).outlets.length = 1 := by
  refine ⟨rfl, rfl, rfl, rfl, ?_⟩; decide +kernel

theorem witness_FullWindowEndMovesEveryConsumer :
    (heavy [charger]).host.resetHeld = [] ∧ JudgedWindow (heavy [charger]) demo ∧ fresh.host.profile = none ∧
    ({ heavy [charger] with feeder.partialWindow := true } : State).feeder.partialWindow = true ∧
    PostLaw (bay [lawful]) ∧ QuietWindow (bay [lawful]) ∧
    TargetsSettled demo (bay [lawful]) ∧ (bay [lawful]).line.state ≠ .free ∧
    (driving .hush false).line.drive ≠ .idle ∧
    ({ bay [lawful] with line.state := .free, line.holdOffMs := 2000 } : State).line.startRequest = false := by
  refine ⟨rfl, ⟨rfl, rfl, rfl⟩, rfl, rfl, lawful_post, ⟨?_, lawful_settled.1⟩, lawful_settled.2, by decide, by decide, rfl⟩
  unfold QuietFeeder; decide

theorem witness_SenseIsLostAndRegained :
    JudgedWindow { bay [] with feeder.windowSum := 38881, feeder.outOfBandCount := 1 } demo ∧
    (bay []).feeder.sense = .valid ∧ 38880 < 38881 ∧ 2039 < 2040 ∧
    JudgedWindow { bay [] with feeder.windowSum := 2040, feeder.sense := .lost, feeder.inBandCount := 7 } demo ∧
    (bay []).feeder.outOfBandCount = 0 ∧ (bay []).feeder.inBandCount < 7 ∧ 2039 < 2040 ∧ 38880 ≤ 38880 ∧
    PostLaw { bay [lawful] with feeder.windowSum := 38881, feeder.outOfBandCount := 1 } ∧
    QuietOutlets { bay [lawful] with feeder.windowSum := 38881, feeder.outOfBandCount := 1 } ∧
    TargetsSettled demo { bay [lawful] with feeder.windowSum := 38881, feeder.outOfBandCount := 1 } ∧
    ([lawful].map fun o => tableTarget demo .joined 0 { o with share.b := 0 }).sum ≤ demo.postLimit := by
  refine ⟨⟨rfl, rfl, rfl⟩, by decide, by decide, by decide, ⟨rfl, rfl, rfl⟩, by decide, by decide, by decide, by decide, lawful_post,
    lawful_settled.1, lawful_settled.2, by decide⟩

theorem witness_OverloadHalvesBorrow :
    JudgedWindow (heavy [charger]) demo ∧ BorrowLaw (heavy [charger]) ∧ (heavy [charger]).feeder.sense = .valid ∧
    2040 ≤ (heavy [charger]).feeder.windowSum ∧ (heavy [charger]).feeder.windowSum ≤ 38880 ∧
    demo.importLimit < feederFigure demo (heavy [charger]).feeder.windowSum ∧ (heavy [charger]).feeder.overCount = 1 ∧
    feederFigure demo (heavy [charger]).feeder.windowSum ≤ demo.importLimit + demo.tripMargin ∧
    feederFigure demo 20460 ≤ demo.importLimit ∧ (bay []).feeder.overCount = 0 ∧ (bay []).feeder.tripCount = 0 ∧
    BorrowLaw { tripping [charger] with feeder.overCount := 2 } ∧
    demo.importLimit + demo.tripMargin < feederFigure demo (tripping [charger]).feeder.windowSum ∧
    PostLaw (heavy [lawful]) ∧ QuietOutlets (heavy [lawful]) ∧ TargetsSettled demo (heavy [lawful]) ∧
    ([lawful].map fun o => tableTarget demo .joined 0 { o with share.b := o.share.b / 2 }).sum ≤ demo.postLimit := by
  refine ⟨⟨rfl, rfl, rfl⟩, ?_, by decide, by decide, by decide, by decide, by decide, by decide, by decide, by decide, by decide, ?_, by decide,
    lawful_post, lawful_settled.1, lawful_settled.2, by decide⟩ <;>
    · unfold BorrowLaw; decide +kernel

theorem witness_TripZeroesBorrowAndCurtails :
    JudgedWindow (tripping [charger]) demo ∧ (tripping [charger]).feeder.sense = .valid ∧
    2040 ≤ (tripping [charger]).feeder.windowSum ∧ (tripping [charger]).feeder.windowSum ≤ 38880 ∧
    demo.importLimit + demo.tripMargin < feederFigure demo (tripping [charger]).feeder.windowSum ∧
    (tripping [charger]).feeder.tripCount = 1 ∧ feederFigure demo 20460 ≤ demo.importLimit + demo.tripMargin ∧
    (bay []).feeder.tripCount = 0 ∧
    PostLaw (tripping [lawful]) ∧ QuietOutlets (tripping [lawful]) ∧ TargetsSettled demo (tripping [lawful]) ∧
    ([lawful].map fun o => tableTarget demo .joined 3 { o with share.b := 0 }).sum ≤ demo.postLimit ∧
    (tripping [lawful]).host.straps.rate ≠ 3 ∧ ({ tripping [lawful] with line.state := .free } : State).line.state = .free ∧
    (tripping [lawful]).line.drive = .idle ∧ (tripping [lawful]).line.holdOffMs = 0 ∧ (tripping [lawful]).line.state ≠ .free := by
  refine ⟨⟨rfl, rfl, rfl⟩, by decide, by decide, by decide, by decide, by decide, by decide, by decide, lawful_post, lawful_settled.1,
    lawful_settled.2, by decide⟩

theorem witness_OverdrawFaultsTheSession :
    (bay [overdrawn]).host.resetHeld = [] ∧ (bay [overdrawn]).outlets[0]? = some overdrawn ∧ BorrowLaw (bay [overdrawn]) ∧
    judgedForOverdraw overdrawn.session.state = true ∧ overdrawn.supervision.overdrawCount = 3 ∧
    ceilingAtEnd overdrawn + 20 < overdrawn.meter.windowCount ∧ (bay [overdrawn]).host.firstFault = none ∧
    (bay [faulted]).outlets[0]? = some faulted ∧ faulted.session.state = .faulted ∧
    (van .paused).supervision.overdrawCount < 3 ∧
    ({ overdrawn with meter.windowCount := 20 } : Outlet).meter.windowCount ≤ ceilingAtEnd overdrawn + 20 := by
  refine ⟨rfl, rfl, ?_, by decide, by decide, by decide, rfl, rfl, rfl, by decide, by decide⟩
  unfold BorrowLaw; decide +kernel

/-- The probe of R139 beside another session, its targets those of the tables. -/
theorem witness_StallTakesTheProbe :
    (bay [lawful, stalling]).host.resetHeld = [] ∧ (bay [lawful, stalling]).host.profile = some demo ∧
    (bay [lawful, stalling]).outlets[1]? = some stalling ∧ stalling.session.state = .charging ∧ stalling.supervision.stallCount = 239 ∧
    stalling.meter.windowCount < 10 ∧ PostLaw (bay [lawful, stalling]) ∧ (bay [lawful, stalling]).census.participation = .joined ∧
    (bay [lawful, stalling]).feeder.overCount = 0 ∧ (bay [lawful, stalling]).feeder.tripCount = 0 ∧
    (bay [lawful, stalling]).feeder.outOfBandCount = 0 ∧
    (∀ u ∈ (bay [lawful, stalling]).outlets, u.share.target ≤ tableTarget demo .joined 0 u ∧ u.supervision.unstallCount < 3) ∧
    ((bay [lawful, stalling]).outlets.map (tableTarget demo .joined 0)).sum ≤ demo.postLimit ∧
    10 ≤ ({ stalling with meter.windowCount := 10 } : Outlet).meter.windowCount ∧
    ({ stalling with supervision.stallCount := 238 } : Outlet).supervision.stallCount < 239 := by
  refine ⟨rfl, rfl, rfl, rfl, rfl, by decide, ⟨by decide, ?_, by decide⟩, rfl, rfl, rfl, rfl, by decide, by decide, by decide, by decide⟩
  intro o ho
  obtain rfl | rfl : o = lawful ∨ o = stalling := by simpa [bay] using ho
  all_goals unfold OfferLaw; decide

/-- An ISLANDED part with one STALLED Tight session at the probe, at the end of its fourth window with draw 20. -/
def probing : Outlet := { waking with session.band := .tight, share.target := 60, session.offer := 60 }

/-- R155 with R138 and R141: the target held is the lesser of it and the fallback of 100. -/
theorem test_unstall_islanded_keeps_the_lesser :
    ((after (.unstall 0 true) { bay [probing] with census.missed := 3, census.participation := .islanded }).outlets.map
      fun o => (o.session.state, o.share.target, o.session.offer)) = [(.charging, 60, 60)] := by decide +kernel

theorem witness_UnstallReturnsToThePair :
    (bay [waking]).host.resetHeld = [] ∧ (bay [waking]).host.profile = some demo ∧ (bay [waking]).outlets[0]? = some waking ∧
    waking.session.state = .stalled ∧ waking.supervision.unstallCount = 3 ∧ 20 ≤ waking.meter.windowCount ∧
    waking.supervision.overdrawCount < 3 ∧ (bay [waking]).census.participation = .joined ∧ waking.share.g = 0 ∧ waking.share.b = 0 ∧
    0 < demo.minCurrent ∧ ({ waking with meter.windowCount := 19 } : Outlet).meter.windowCount < 20 ∧
    (van .stalled).supervision.unstallCount < 3 ∧ (van .paused).session.state ≠ .stalled ∧
    PostLaw { bay [probing] with census.missed := 3, census.participation := .islanded } ∧
    QuietFeeder { bay [probing] with census.missed := 3, census.participation := .islanded } ∧
    TargetsSettled demo { bay [probing] with census.missed := 3, census.participation := .islanded } ∧
    (([probing].set 0 { probing with session.state := .charging }).map (tableTarget demo .islanded 0)).sum ≤ demo.postLimit := by
  refine ⟨by decide, by decide, by decide, by decide, by decide, by decide, by decide, by decide, by decide, by decide, by decide, by decide,
    by decide, by decide, ⟨by decide, ?_, by decide⟩, ?_, ?_, by decide⟩
  · intro o ho
    obtain rfl : o = probing := by simpa [bay] using ho
    unfold OfferLaw; decide
  · unfold QuietFeeder; decide
  · unfold TargetsSettled; decide

theorem witness_ReleaseIsDriven :
    (bay [leaking]).host.resetHeld = [] ∧ (bay [leaking]).outlets[0]? = some leaking ∧ leaking.session.state = .vacant ∧
    leaking.supervision.releaseDriven = false ∧ leaking.supervision.releaseCount = 7 ∧ 20 < leaking.meter.windowCount ∧
    (bay [leaking]).host.firstFault = none ∧ ({ leaking with meter.windowCount := 20 } : Outlet).meter.windowCount ≤ 20 ∧
    releasing.supervision.releaseDriven = true ∧ releasing.session.state = .vacant ∧ Outlet.cleared.supervision.releaseCount < 7 := by
  decide

theorem witness_SupervisionLawIsKept :
    (∀ o ∈ (bay [releasing, leaking]).outlets, SupervisionLaw o) ∧ isReset (.fullWindowEnd true) = false ∧
    (∀ shifted, Instr.fullWindowEnd true ≠ .closeSession shifted) ∧
    exec (.fullWindowEnd true) (bay [releasing, leaking]) = .next (after (.fullWindowEnd true) (bay [releasing, leaking])) ∧
    releaseDriven (bay [releasing, leaking]) 0 = true := by
  refine ⟨?_, rfl, fun _ => by simp, rfl, rfl⟩
  unfold SupervisionLaw; decide +kernel

/-- The first boundary of the ramp of 8.8. -/
theorem witness_OfferRisesByTheRamp :
    exec (.fullWindowEnd true) (bay [{ van .paused with share.target := 250, share.g := 250 }]) =
      .next (after (.fullWindowEnd true) (bay [{ van .paused with share.target := 250, share.g := 250 }])) ∧
    (after (.fullWindowEnd true) (bay [{ van .paused with share.target := 250, share.g := 250 }])).outlets.map (·.session.offer) =
      [60] ∧
    (after (.trailingEdge 96 true) (inPulse foreignRun (bay [{ van .paused with share.target := 250, share.g := 250 }]))).outlets.map
      (·.session.offer) = [60] := by
  refine ⟨rfl, ?_, ?_⟩ <;> decide +kernel

/-- The targets that the shares of 6.8, case 1, give at the completion, from 0, and those of the fallback. -/
theorem witness_TargetRisesOnlyWhereItMay :
    exec .frameEnd (ending (frameOf caseOne caseOneDriven) caseOneOutlets) =
      .next (after .frameEnd (ending (frameOf caseOne caseOneDriven) caseOneOutlets)) ∧
    (after .frameEnd (ending (frameOf caseOne caseOneDriven) caseOneOutlets)).outlets.map (·.share.target) = [320, 320, 60, 0] ∧
    (after .censusTimerExpiry { bay [van .paused] with census.missed := 2 }).outlets.map (·.share.target) = [100] ∧
    (after .censusTimerExpiry
      { bay [van .paused] with census.missed := 3, census.participation := .islanded }).outlets.map (·.share.target) = [100] := by
  refine ⟨rfl, ?_, ?_, ?_⟩ <;> decide +kernel

theorem witness_PostLawIsKept :
    PostLaw (bay [lawful]) ∧ (bay [lawful]).host.profile = some demo ∧
    exec (.fullWindowEnd true) (bay [lawful]) = .next (after (.fullWindowEnd true) (bay [lawful])) := ⟨lawful_post, rfl, rfl⟩

theorem witness_BorrowLawIsKept :
    ParticipationLaw (bay [charger]) ∧ BorrowLaw (bay [charger]) ∧
    exec .frameEnd (bay [charger]) = .next (after .frameEnd (bay [charger])) := by
  refine ⟨?_, ?_, rfl⟩
  · unfold ParticipationLaw; decide
  · unfold BorrowLaw; decide +kernel

theorem witness_RosterLawIsKept :
    RosterLaw (ending (frameOf caseOne caseOneDriven) []) ∧
    exec .frameEnd (ending (frameOf caseOne caseOneDriven) []) = .next (after .frameEnd (ending (frameOf caseOne caseOneDriven) [])) := by
  refine ⟨⟨by decide +kernel, ?_⟩, rfl⟩
  intro e he; rw [List.eq_of_mem_replicate he]; simp [EntryLaw, Entry.cleared]

theorem witness_ParticipationAndLineLawsAreKept :
    ParticipationLaw (reading 18 true) ∧ LineLaw (reading 18 true) ∧
    exec (.frameBitRead false false false) (reading 18 true) = .next (after (.frameBitRead false false false) (reading 18 true)) := by
  refine ⟨?_, ?_, rfl⟩
  · unfold ParticipationLaw; decide +kernel
  · unfold LineLaw; decide +kernel

theorem witness_SessionAndMeterLawsAreKept :
    (Instr.ampMinuteCompletion 0 25000).wellFormed = true ∧ (∀ o ∈ (bay [almost]).outlets, SessionLaw o ∧ MeterLaw o) ∧
    exec (.ampMinuteCompletion 0 25000) (bay [almost]) = .next (after (.ampMinuteCompletion 0 25000) (bay [almost])) := by
  refine ⟨by decide, ?_, rfl⟩
  intro o ho
  obtain rfl : o = almost := by simpa [bay] using ho
  refine ⟨?_, by unfold MeterLaw; decide⟩
  simp [SessionLaw, almost, charger, van, Session.cleared, Outlet.cleared]

theorem witness_FeederLawIsKept :
    FeederLaw { bay [] with feeder.samples := 39, feeder.windowSum := 39897 } ∧ (bay []).shares.curtail ≤ 3 ∧
    exec (.feederSample 1023#10) { bay [] with feeder.samples := 39, feeder.windowSum := 39897 } =
      .next (after (.feederSample 1023#10) { bay [] with feeder.samples := 39, feeder.windowSum := 39897 }) := by
  refine ⟨?_, by decide, rfl⟩; unfold FeederLaw; decide +kernel

/-- The outlets of the post cap of 8.8, their raw targets 320, 320, 260 and 60. -/
def capped : List Outlet :=
  [{ van .charging with share.g := 320, session.band := .late }, { van .charging with share.g := 320, session.band := .tight },
    { van .charging with share.g := 60, share.b := 200, session.band := .steady }, van .stalled]

theorem witness_PostCapCutsInOrder :
    0 < demo.minCurrent ∧ capped.map (rawTarget demo .joined 0) = [320, 320, 260, 60] ∧
    (∀ r ∈ capped.map (rawTarget demo .joined 0), r = 0 ∨ demo.minCurrent ≤ r) ∧
    [800, 400, 150].map (fun l => cappedTargets { demo with postLimit := l } .joined 0 capped) =
      [[320, 320, 100, 60], [220, 60, 60, 60], [60, 60, 0, 0]] := by decide

/-- 6.8, case 4: a full band at I_min, and one seat more. -/
theorem witness_BandIsFilledOnce :
    0 < 60 ∧ 60 ≤ 320 ∧ fillBand 320 60 6 360 false = (.full 60, 0) ∧ fillBand 320 60 7 360 false = (.short 6, 0) ∧
    fillBand 320 60 0 360 false = (.empty, 360) ∧ fillBand 320 60 7 360 true = (.closed, 360) := by decide

theorem witness_SharesKeepWithinThePool :
    0 < 60 ∧ 60 ≤ 320 ∧ Roster.afterReset.entries.length = 128 ∧
    (updateRoster caseOne 1000#16 .afterReset).counts = ⟨3, 8, 40, 51, 52⟩ := by decide +kernel

theorem witness_RosterUpdateFollowsTheMaps :
    Roster.afterReset.entries.length = 128 ∧ (∀ e ∈ Roster.afterReset.entries, EntryLaw e) ∧
    Roster.afterReset.entries[71]? = some Entry.cleared ∧ caseOne.present.getLsbD 71 = true ∧
    EntryLaw ⟨.present, .late, 0, false, false⟩ ∧ EntryLaw ⟨.held, .late, 1, false, true⟩ ∧ EntryLaw ⟨.held, .late, 2, true, false⟩ := by
  refine ⟨by decide +kernel, ?_, by decide +kernel, by decide +kernel, by simp [EntryLaw], by simp [EntryLaw], by simp [EntryLaw]⟩
  intro e he; rw [List.eq_of_mem_replicate he]; simp [EntryLaw, Entry.cleared]

theorem witness_FrameEndCompletesTheCensus :
    LineSampled (ending (frameOf caseOne caseOneDriven) caseOneOutlets) ∧
    (ending (frameOf caseOne caseOneDriven) caseOneOutlets).line.state = .frame ∧
    530 ≤ (ending (frameOf caseOne caseOneDriven) caseOneOutlets).line.frameBit ∧
    (ending (frameOf caseOne caseOneDriven) caseOneOutlets).census.frame = some (frameOf caseOne caseOneDriven) ∧
    (ending (frameOf caseOne caseOneDriven) caseOneOutlets).host.profile = some demo ∧
    ({ fresh with line.state := .frame, line.frameBit := 530 } : State).census.frame = none ∧
    ({ frameOf caseOne caseOneDriven with latch := [⟨true, .late⟩] } : Frame).latch[0]? = some ⟨true, .late⟩ := by
  refine ⟨⟨rfl, by decide⟩, rfl, by decide, rfl, rfl, rfl, rfl⟩

theorem witness_CompletionWritesSharesAndBorrow :
    LineSampled (ending (frameOf caseOne caseOneDriven) [lawful]) ∧
    NoClashFault (ending (frameOf caseOne caseOneDriven) [lawful]) (frameOf caseOne caseOneDriven) ∧
    PostLaw (ending (frameOf caseOne caseOneDriven) [lawful]) ∧
    exec .frameEnd (ending (frameOf caseOne caseOneDriven) [lawful]) =
      .next (after .frameEnd (ending (frameOf caseOne caseOneDriven) [lawful])) ∧
    Outlet.cleared.session.state = .vacant := by
  refine ⟨⟨rfl, by decide⟩, ?_, lawful_post, rfl, rfl⟩
  intro n o ho _ _ _
  obtain rfl : o = lawful := by simpa [ending, bay] using List.mem_of_getElem? ho
  decide

/-- A JOINED part at the end of a census in which another part drove Present at seat 68. -/
def clashing : State := ending (frameOf { Maps.clear with present := seats [68] } .clear) [{ van .charging with clashCount := 2 }]

theorem witness_SeatClashFaultsTheSession :
    LineSampled clashing ∧ clashing.line.state = .frame ∧ 530 ≤ clashing.line.frameBit ∧
    clashing.census.frame = some (frameOf { Maps.clear with present := seats [68] } .clear) ∧ clashing.host.profile ≠ none ∧
    clashing.outlets[0]? = some { van .charging with clashCount := 2 } ∧ BorrowLaw clashing ∧
    (clashBits (frameOf { Maps.clear with present := seats [68] } .clear) 68).any = true ∧
    clashing.host.firstFault = none ∧ Outlet.cleared.session.state = .vacant ∧ faulted.session.state = .faulted := by
  refine ⟨⟨rfl, by decide⟩, rfl, by decide, rfl, by decide, rfl, ?_, by decide, rfl, rfl, rfl⟩
  unfold BorrowLaw; decide +kernel

theorem witness_LeadingEdgeBeginsARun :
    LineSampled fresh ∧ fresh.line.run = none ∧ fresh.line.state = .settling ∧
    ({ fresh with line.state := .free, line.drive := .startPulse false } : State).line.run = none ∧
    ({ fresh with line.state := .frame } : State).line.state = .frame ∧
    ({ fresh with line.state := .stuck } : State).line.state = .stuck ∧
    ({ fresh with line.run := some foreignRun } : State).line.run = some foreignRun ∧
    (inPulse foreignRun fresh).line.run = some foreignRun ∧ (inPulse foreignRun fresh).line.state ≠ .settling := by
  refine ⟨⟨rfl, by decide⟩, rfl, rfl, rfl, rfl, rfl, rfl, rfl, by decide⟩

/-- Runs at the ends of the ranges of R46. -/
theorem witness_OtherRunsEndInSettling :
    LineSampled (inPulse foreignRun fresh) ∧ (inPulse foreignRun fresh).line.run = some foreignRun ∧
    (inPulse foreignRun fresh).line.state = .pulse ∧ foreignRun.classifiable = true ∧ foreignRun.droveStart = false ∧
    95 / 16 ≤ 5 ∧ 12 ≤ 192 / 16 ∧ 319 / 16 ≤ 19 ∧ 20 ≤ 320 / 16 ∧ 655 / 16 ≤ 40 ∧ 41 ≤ 656 / 16 ∧ 9599 / 16 ≤ 599 ∧
    (bay []).census.participation ≠ .offline ∧ (bay []).census.missed ≠ 2 ∧ foreignRun.hushComplete = false ∧
    fresh.host.profile = none ∧ (bay []).host.profile ≠ none ∧ 600 ≤ 9600 / 16 ∧ 9599 / 16 < 600 ∧
    ({ foreignRun with droveStart := true, hushComplete := true } : Run).classifiable = true ∧
    ({ reading 529 false with line.run := some foreignRun } : State).line.state = .frame ∧
    ({ fresh with line.state := .stuck } : State).line.state = .stuck ∧ ({ foreignRun with classifiable := false } : Run).classifiable = false ∧
    ({ fresh with line.run := some { foreignRun with classifiable := false } } : State).line.state = .settling ∧
    ((inPulse foreignRun (bay [lawful])).outlets.map fun o => { o with share := { o.share with b := 0 } })[0]? =
      some { lawful with share.b := 0 } ∧
    (([{ lawful with share.b := 0 }] : List Outlet).map (tableTarget demo .joined 3)).sum ≤ demo.postLimit := by
  refine ⟨⟨rfl, by decide⟩, ?_⟩; decide

theorem witness_StartPulseEndsInFrameZero :
    LineSampled (inPulse foreignRun (bay [van .paused])) ∧ (inPulse foreignRun (bay [van .paused])).line.state = .pulse ∧
    (inPulse foreignRun (bay [van .paused])).line.run = some foreignRun ∧ foreignRun.classifiable = true ∧ 6 ≤ 96 / 16 ∧ 191 / 16 ≤ 11 ∧
    (bay [van .paused]).census.participation ≠ .offline ∧ fresh.census.participation = .offline ∧
    PostLaw (inPulse foreignRun (bay [lawful])) ∧ (inPulse foreignRun (bay [lawful])).host.profile = some demo ∧
    (inPulse foreignRun (bay [lawful])).census.participation ≠ .islanded ∧ TargetsSettled demo (inPulse foreignRun (bay [lawful])) ∧
    PostLaw { inPulse foreignRun (bay [probing]) with census.missed := 3, census.participation := .islanded } ∧
    TargetsSettled demo { inPulse foreignRun (bay [probing]) with census.missed := 3, census.participation := .islanded } ∧
    fresh.host.profile = none := by
  refine ⟨⟨rfl, by decide⟩, by decide, by decide, by decide, by decide, by decide, by decide, by decide, lawful_post, rfl, by decide,
    lawful_settled.2, ⟨by decide, ?_, by decide⟩, ?_, rfl⟩
  · intro o ho
    obtain rfl : o = probing := by simpa [inPulse, bay] using ho
    unfold OfferLaw; decide
  · unfold TargetsSettled; decide

/-- Case E of 2.6, and sessions without need. -/
theorem witness_SnapshotTakesLaxityAndBand :
    exec (.trailingEdge 128 true) (inPulse foreignRun (bay [.cleared, van .topped, van .paused])) =
      .next (after (.trailingEdge 128 true) (inPulse foreignRun (bay [.cleared, van .topped, van .paused]))) ∧
    10 * 1 ≤ 1 * 800 ∧ (∀ u, u < 1 → u * 800 < 10 * 1) ∧
    (after (.trailingEdge 128 true) (inPulse foreignRun (bay [.cleared, van .topped, van .paused]))).outlets.map (·.session.laxity) =
      [none, some 86, some 86] := by
  refine ⟨rfl, by decide, fun u h => by omega, ?_⟩; decide +kernel

theorem witness_FreeLineServesTheDriver :
    LineSampled fresh ∧ fresh.line.run = none ∧ fresh.line.drive = .idle ∧ fresh.line.state = .settling ∧
    ({ fresh with feeder.hushPending := true } : State).line.holdOffMs = 0 ∧ fresh.feeder.hushPending = false ∧
    fresh.line.startRequest = false ∧ ({ fresh with line.startRequest := true } : State).line.startRequest = true ∧
    (inPulse foreignRun { fresh with line.drive := .hush }).line.run = some foreignRun ∧
    ({ fresh with line.holdOffMs := 2000 } : State).line.holdOffMs ≠ 0 ∧
    ({ fresh with line.state := .free, line.holdOffMs := 1 } : State).line.state = .free ∧
    ({ fresh with line.drive := .hush } : State).line.drive ≠ .idle ∧ fresh.line.bitDrive = false ∧ fresh.line.bitHeld = false ∧
    (driving (.startPulse true) true).line.state = .free ∧ (driving (.startPulse true) true).line.run = none ∧
    (driving .hush false).line.drive = .hush ∧ (driving .hush false).line.startRequest = true := by
  refine ⟨⟨rfl, by decide⟩, ?_⟩; decide

theorem witness_StuckLineReleasesTheDriver :
    LineSampled (inPulse foreignRun fresh) ∧ (inPulse foreignRun fresh).line.run = some foreignRun ∧
    (inPulse foreignRun fresh).line.state ≠ .stuck ∧ fresh.host.firstFault = none ∧ fresh.census.frame = none ∧
    (reading 529 false).census.frame ≠ none ∧ (reading 529 false).census.participation ≠ .offline ∧
    ({ inPulse foreignRun fresh with line.state := .stuck } : State).line.run = some foreignRun := by
  refine ⟨⟨rfl, by decide⟩, rfl, by decide, rfl, rfl, by decide, by decide, rfl⟩

/-- The start pulse that left no run stands on a FREE line; every request beside it. -/
theorem witness_EchoAndSettleFaults :
    LineSampled (reading 529 true) ∧ (reading 529 true).line.state = .frame ∧ (reading 529 true).line.frameBit < 530 ∧
    (reading 529 true).line.bitDrive = true ∧ majority false true false = false ∧
    (reading 529 true).census.frame = some (frameOf .clear .clear) ∧ (reading 1 false).line.bitDrive = false ∧
    (reading 1 false).line.frameBit < 2 ∧ majority true true false = true ∧ 2 ≤ (reading 2 false).line.frameBit ∧
    ({ fresh with line.drive := .hush } : State).line.state ≠ .free ∧ fresh.line.startRequest = false ∧ fresh.feeder.hushPending = false ∧
    (driving (.startPulse false) false).line.state = .free ∧ (driving (.startPulse false) false).line.drive = .startPulse false ∧
    (driving (.startPulse false) false).line.startRequest = true ∧ (driving (.startPulse false) false).census.missed ≠ 2 ∧
    (driving (.startPulse true) true).feeder.hushPending = true ∧ (driving (.startPulse true) true).line.holdOffMs = 0 ∧
    (driving .idle false).line.drive = .idle := by
  refine ⟨⟨rfl, by decide⟩, rfl, by decide, rfl, rfl, rfl, rfl, ?_⟩; decide

/-- The first and the last bit of each field. -/
theorem witness_FrameBitIsStored :
    LineSampled (reading 529 true) ∧ (reading 529 true).line.state = .frame ∧ (reading 529 true).line.frameBit < 530 ∧
    true = decide (2 ≤ true.toNat + false.toNat + true.toNat) ∧ (reading 0 false).line.frameBit = 0 ∧
    (reading 1 false).line.frameBit = 1 ∧ (reading 2 true).line.frameBit = 2 + 0 ∧ (reading 17 true).line.frameBit = 2 + 15 ∧
    (reading 18 true).line.frameBit = 18 + 0 ∧ (reading 145 true).line.frameBit = 18 + 127 ∧
    (reading 146 true).line.frameBit = 146 + 0 ∧ (reading 273 true).line.frameBit = 146 + 127 ∧
    (reading 274 true).line.frameBit = 274 + 0 ∧ (reading 401 true).line.frameBit = 274 + 127 ∧
    (reading 402 true).line.frameBit = 402 + 0 ∧ (reading 529 true).line.frameBit = 402 + 127 ∧
    ({ fresh with line.state := .frame } : State).census.frame = none ∧ fresh.line.bitDrive = false ∧
    (reading 85 false).line.drive = .idle ∧ (reading 85 false).line.echoStopped = false ∧
    (reading 85 false).line.frameBit + 1 = 18 + ((reading 85 false).host.straps.seatBase + 0) ∧
    ({ frameOf .clear .clear with latch := [⟨true, .late⟩] } : Frame).latch[0]? = some ⟨true, .late⟩ := by
  refine ⟨⟨rfl, by decide⟩, rfl, by decide, ?_⟩; decide

/-- A candidate of 5 against a line that shows 6, which yields at the second-lowest bit; and the two parts whose bits that line ORs. -/
theorem witness_ArbitrationReadsTheLargest :
    (∀ j, j < 16 →
      drivesBit 0 (readNumber (fun k => (6#16).getLsbD (17 - k)) j (sender 5#16)) (2 + j) = true →
        (6#16).getLsbD (17 - (2 + j)) = true) ∧
    (readNumber (fun k => (6#16).getLsbD (17 - k)) 16 (sender 5#16)).number = 6#16 ∧
    (∀ f ∈ [sender 5#16, sender 6#16], f.sending = true ∧ f.number = 0#16) ∧
    (∀ j, j < 16 → (6#16).getLsbD (17 - (2 + j)) =
      [sender 5#16, sender 6#16].any fun f => drivesBit 0 (readNumber (fun k => (6#16).getLsbD (17 - k)) j f) (2 + j)) := by
  decide +kernel

theorem witness_CensusTimerExpiryActsByState :
    fresh.host.resetHeld = [] ∧ fresh.census.participation = .offline ∧ (bay []).census.participation = .joined ∧
    ({ bay [] with line.state := .free } : State).line.drive = .idle ∧ (bay []).feeder.hushPending = false ∧
    (bay []).host.straps.rate ≠ 3 ∧ (bay []).line.state ≠ .free ∧ (bay []).census.missed < 2 ∧
    ({ bay [] with census.participation := .islanded, census.missed := 3 } : State).host.profile = some demo ∧
    ({ bay [] with census.participation := .islanded, line.state := .free } : State).line.drive = .idle ∧
    (driving .hush false).line.state = .free ∧ (driving .hush false).line.drive ≠ .idle ∧ (driving .hush false).census.participation = .joined ∧
    ({ bay [] with line.holdOffMs := 2000 } : State).line.holdOffMs ≠ 0 ∧
    PostLaw { bay [lawful] with census.participation := .islanded, census.missed := 3 } := by
  refine ⟨rfl, rfl, rfl, rfl, rfl, by decide, by decide, by decide, rfl, rfl, rfl, by decide, rfl, by decide, lawful_post⟩

/-- The five causes: an expiry off a FREE line, a malformed run with this part's start pulse in it, a start pulse that left no run, a lost and
a dominant settle bit, and a stuck line. -/
theorem witness_ThirdMissedPeriodIslandsThePart :
    LineSampled (third (bay [])) ∧ (third (bay [])).host.profile = some demo ∧ (third (bay [])).census.missed = 2 ∧
    (third (bay [])).census.participation = .joined ∧ (third (bay [])).line.state ≠ .free ∧
    (third (inPulse ⟨true, none, true, false⟩ (bay []))).line.run = some ⟨true, none, true, false⟩ ∧
    (third (inPulse ⟨true, none, true, false⟩ (bay []))).line.state = .pulse ∧ 95 / 16 ≤ 5 ∧ 12 ≤ 192 / 16 ∧ 9599 / 16 ≤ 599 ∧
    (third (driving (.startPulse false) false)).line.drive = .startPulse false ∧
    (third (reading 529 true)).line.bitDrive = true ∧ majority true false false = false ∧ (third (reading 529 true)).line.state = .frame ∧
    (third (reading 529 true)).line.frameBit < 530 ∧ (third (reading 529 true)).census.frame ≠ none ∧
    (third (reading 1 false)).line.bitDrive = false ∧ (third (reading 1 false)).line.frameBit < 2 ∧ majority true true false = true ∧
    ({ reading 529 false with line.run := some foreignRun } : State).line.run = some foreignRun ∧
    (reading 529 false).line.state ≠ .stuck ∧ 600 ≤ 9600 / 16 ∧ (bay []).census.frame = none ∧ (bay []).census.missed ≠ 2 ∧
    (third (driving .hush false)).line.state = .free ∧ (third (driving .hush false)).line.drive ≠ .startPulse false ∧
    (third (inPulse foreignRun (bay []))).line.run = some foreignRun ∧ foreignRun.droveStart = false ∧ 6 ≤ 96 / 16 ∧ 191 / 16 ≤ 11 ∧
    (third (reading 2 false)).line.frameBit = 2 ∧ (third (bay [])).line.run = none ∧ PostLaw (third (bay [lawful])) := by
  refine ⟨⟨rfl, by decide⟩, rfl, rfl, rfl, by decide, rfl, rfl, by decide, by decide, by decide, rfl, rfl, rfl, rfl, by decide, by decide, rfl,
    by decide, rfl, rfl, by decide, by decide, rfl, by decide, rfl, by decide, rfl, rfl, by decide, by decide, rfl, rfl, lawful_post⟩

theorem witness_AgeDutyAndSample :
    fresh.host.resetHeld = [] ∧ fresh.census.summary = none ∧ (bay [charger]).outlets[0]? = some charger ∧
    (bay []).host.profile ≠ none ∧ ({ bay [] with feeder.samples := 39 } : State).feeder.samples < 40 ∧ fresh.host.profile = none ∧
    (after .frameEnd (ending (frameOf caseOne caseOneDriven) [])).census.summary.isSome = true := by decide +kernel

end Sys2Proof.Tests
end

section
/-! PROOFS. The minute tick (R17 to R19, obligation O20): the tick of one session record, the tick at one outlet, and the repetition over
the outlets, from which the whole event follows. -/

namespace Sys2Proof.Machine

/-- The flag of an outlet's OVERDUE event is bit 12 + 5n of the event set (R175). -/
theorem eventFlag_overdue_getLsbD (n : Nat) {i : Nat} (hi : i < 32) :
    (eventFlag (.overdue n)).getLsbD i = true ↔ i = 12 + 5 * n := by
  simp only [eventFlag, eventBit, BitVec.getLsbD_twoPow, Bool.and_eq_true, decide_eq_true_eq]
  omega

/-- Raising under a condition sets the event's flag where the condition holds, and no other. -/
theorem raiseIf_getLsbD (c : Bool) (e : Event) (s : State) (i : Nat) :
    (raiseIf c e s).host.events.getLsbD i = true ↔
      s.host.events.getLsbD i = true ∨ (c = true ∧ (eventFlag e).getLsbD i = true) := by
  cases c <;> simp [raiseIf]

/-- A repetition whose turn n changes the record of outlet n alone has changed the records below its count. -/
theorem forOutlets_getElem? (f : Nat → State → State) (g : Outlet → Outlet)
    (turn : ∀ n t, (f n t).outlets = t.outlets.modify n g) (count : Nat) (s : State) (m : Nat) :
    (forOutlets count f s).outlets[m]? = if m < count then s.outlets[m]?.map g else s.outlets[m]? := by
  induction count with
  | zero => simp
  | succ k ih =>
    rw [forOutlets_succ, turn, List.getElem?_modify, ih]
    rcases Nat.lt_trichotomy m k with below | rfl | above
    · simp [below, below.ne', Nat.lt_succ_of_lt below]
    · simp
    · simp [above.ne, Nat.not_lt.mpr above.le, Nat.not_lt.mpr (Nat.succ_le_of_lt above)]

/-- The tick takes 1 from T of a session in progress with T above 0, and touches nothing but the overdue flag beside it (R18). -/
theorem tickSession_eq (r : Session) :
    tickSession r =
      if r.state ≠ .vacant ∧ 0 < r.departure then
        { r with
          departure := r.departure - 1
          overdue := r.overdue || decide (r.departure = 1 ∧ 0 < r.need) }
      else r := by
  unfold tickSession
  by_cases vacant : r.state = .vacant
  · simp [vacant]
  · by_cases zero : r.departure = 0
    · simp [zero]
    · simp [vacant, zero, Nat.pos_of_ne_zero zero]

/-- The tick is the last minute of a session with need left, whose overdue flag is not set yet (R19). -/
def TickSetsOverdue (r : Session) : Prop :=
  r.state ≠ .vacant ∧ r.departure = 1 ∧ 0 < r.need ∧ r.overdue = false

/-- The flag passes from no to yes in just these ticks. -/
theorem tickSession_setsOverdue_iff (r : Session) :
    ((tickSession r).overdue && !r.overdue) = true ↔ TickSetsOverdue r := by
  rw [tickSession_eq, TickSetsOverdue]
  split
  case isTrue due =>
    cases r.overdue <;> simp [due.1]
  case isFalse idle =>
    have notLastMinute : ¬ (r.state ≠ .vacant ∧ r.departure = 1) := fun h => idle ⟨h.1, by omega⟩
    cases r.overdue <;> simp_all

/-- The outlet's record after a minute tick. -/
def tickRecord (o : Outlet) : Outlet := { o with session := tickSession o.session }

theorem tickRecord_eq (o : Outlet) :
    tickRecord o =
      if o.session.state ≠ .vacant ∧ 0 < o.session.departure then
        { o with
          session.departure := o.session.departure - 1
          session.overdue := o.session.overdue || decide (o.session.departure = 1 ∧ 0 < o.session.need) }
      else o := by
  rw [tickRecord, tickSession_eq]
  split <;> rfl

/-- The tick at an outlet of the part is the change of its record, with OVERDUE raised where the flag is set. -/
theorem tickOutlet_of_some {n : Nat} {s : State} {o : Outlet} (h : s.outlets[n]? = some o) :
    tickOutlet n s =
      raiseIf ((tickSession o.session).overdue && !o.session.overdue) (.overdue n) (modifyOutlet n tickRecord s) := by
  simp only [tickOutlet, h] <;> rfl

/-- An outlet that the part does not have takes no tick. -/
theorem tickOutlet_of_none {n : Nat} {s : State} (h : s.outlets[n]? = none) : tickOutlet n s = s := by
  simp only [tickOutlet, h]

theorem tickOutlet_outlets (n : Nat) (s : State) : (tickOutlet n s).outlets = s.outlets.modify n tickRecord := by
  cases h : s.outlets[n]? with
  | none => rw [tickOutlet_of_none h, List.modify_eq_self (List.getElem?_eq_none_iff.mp h)]
  | some o => rw [tickOutlet_of_some h, raiseIf_outlets, modifyOutlet_outlets]

theorem tickOutlet_getLsbD (n : Nat) (s : State) {i : Nat} (hi : i < 32) :
    (tickOutlet n s).host.events.getLsbD i = true ↔
      s.host.events.getLsbD i = true ∨ ∃ o, s.outlets[n]? = some o ∧ TickSetsOverdue o.session ∧ i = 12 + 5 * n := by
  cases h : s.outlets[n]? with
  | none => simp [tickOutlet_of_none h]
  | some o =>
    rw [tickOutlet_of_some h, raiseIf_getLsbD, tickSession_setsOverdue_iff, eventFlag_overdue_getLsbD n hi]
    simp

/-- Only the outlets' records and the events differ. -/
def RecordsAndEventsFrame (s t : State) : Prop := t = { s with outlets := t.outlets, host.events := t.host.events }

theorem tickOutlet_frame (n : Nat) (s : State) : RecordsAndEventsFrame s (tickOutlet n s) := by
  cases h : s.outlets[n]? with
  | none => rw [tickOutlet_of_none h]; rfl
  | some o => rw [tickOutlet_of_some h]; unfold raiseIf; split <;> rfl

/-- The tick at each outlet finds the record as it stood before the event, since the turns below have changed lower records alone. -/
theorem forOutlets_tickOutlet_getLsbD (count : Nat) (s : State) {i : Nat} (hi : i < 32) :
    (forOutlets count tickOutlet s).host.events.getLsbD i = true ↔
      s.host.events.getLsbD i = true ∨
        ∃ n < count, ∃ o, s.outlets[n]? = some o ∧ TickSetsOverdue o.session ∧ i = 12 + 5 * n := by
  induction count with
  | zero => simp
  | succ k ih =>
    have found : (forOutlets k tickOutlet s).outlets[k]? = s.outlets[k]? := by
      simp [forOutlets_getElem? tickOutlet tickRecord tickOutlet_outlets]
    rw [forOutlets_succ, tickOutlet_getLsbD k _ hi, found, ih, or_assoc, Nat.exists_lt_succ_right]

theorem minuteTick_frame (s : State) : RecordsAndEventsFrame { s with minuteMs := 60000 } (minuteTick s) :=
  forOutlets_keeps (RecordsAndEventsFrame { s with minuteMs := 60000 }) tickOutlet
    (fun n t frame => by
      have turn := tickOutlet_frame n t
      unfold RecordsAndEventsFrame at *
      rw [turn, frame])
    s.outlets.length _ rfl

theorem minuteTick_outlets (s : State) : (minuteTick s).outlets = s.outlets.map tickRecord := by
  refine List.ext_getElem? fun m => ?_
  rw [minuteTick, forOutlets_getElem? tickOutlet tickRecord tickOutlet_outlets, List.getElem?_map]
  split
  case isTrue => rfl
  case isFalse beyond => simp [List.getElem?_eq_none (Nat.not_lt.mp beyond)]

theorem minuteTick_getLsbD (s : State) {i : Nat} (hi : i < 32) :
    (minuteTick s).host.events.getLsbD i = true ↔
      s.host.events.getLsbD i = true ∨
        ∃ n o, s.outlets[n]? = some o ∧ TickSetsOverdue o.session ∧ i = 12 + 5 * n := by
  rw [minuteTick, forOutlets_tickOutlet_getLsbD _ _ hi]
  refine or_congr_right (exists_congr fun n => ⟨fun ⟨_, h⟩ => h, fun ⟨o, found, rest⟩ => ?_⟩)
  exact ⟨(List.getElem?_eq_some_iff.mp found).1, o, found, rest⟩

theorem exec_minuteTick_of_outOfReset {s : State} (h : s.host.resetHeld = []) : exec .minuteTick s = .next (minuteTick s) := by
  have isRunning : running s = true := (running_iff s).mpr h
  calc exec .minuteTick s = .next (whenRunning minuteTick s) := rfl
    _ = .next (minuteTick s) := by rw [whenRunning, if_pos isRunning]

/-- Settles O20: the event is the tick of every record, and its flags are those of the records in their last minute with need left. -/
theorem minuteTickCountsDown : Obligations.MinuteTickCountsDown := by
  intro s outOfReset
  refine ⟨minuteTick s, exec_minuteTick_of_outOfReset outOfReset, minuteTick_frame s, ?_, fun n o found => ?_, fun i hi => ?_⟩
  · rw [minuteTick_outlets, List.length_map]
  · rw [minuteTick_outlets, List.getElem?_map, found, Option.map_some, tickRecord_eq]
  · simpa only [TickSetsOverdue, and_assoc] using minuteTick_getLsbD s hi

end Sys2Proof.Machine
end

section
/-! PROOFS. The snapshot point of a frame zero (R26 to R29, obligation O52). The window cut and the recomputations of a frame zero change
nothing of a session record but its offer and whether it is PAUSED or CHARGING, and a snapshot point commutes with putting those aside. -/

namespace Sys2Proof.Machine

/-- A division rounded up is the least quotient that covers the dividend. -/
theorem ceilDiv_le_iff {a b c : Nat} (hb : 0 < b) : ceilDiv a b ≤ c ↔ a ≤ c * b := by
  rw [ceilDiv, ← Nat.ceilDiv_eq_add_pred_div, ceilDiv_le_iff_le_mul hb, Nat.mul_comm]

/-- t_full is the least number of minutes in which the van, at its maximum, takes its need (R26). -/
theorem timeAtFullRate_eq {need vanMax tFull : Nat} (hmax : 0 < vanMax) (covers : 10 * need ≤ tFull * vanMax)
    (least : ∀ u, u < tFull → u * vanMax < 10 * need) : timeAtFullRate need vanMax = tFull := by
  refine le_antisymm ((ceilDiv_le_iff hmax).mpr covers) (not_lt.mp fun shorter => ?_)
  have covered : 10 * need ≤ timeAtFullRate need vanMax * vanMax := (ceilDiv_le_iff hmax).mp le_rfl
  exact absurd (least _ shorter) (not_lt.mpr covered)

theorem snapshotSession_of_vacant (theta : Nat) {r : Session} (h : r.state = .vacant) : snapshotSession theta r = r := by
  simp [snapshotSession, h]

theorem snapshotSession_of_need_zero (theta : Nat) {r : Session} (occupied : r.state ≠ .vacant) (h : r.need = 0) :
    snapshotSession theta r = { r with laxity := none, band := .unbanded } := by
  simp [snapshotSession, occupied, h]

theorem snapshotSession_of_need_pos (theta : Nat) {r : Session} (occupied : r.state ≠ .vacant) (h : 0 < r.need) :
    snapshotSession theta r =
      { r with
        laxity := some (laxityOf r.need r.vanMax r.departure)
        band := bandOfLaxity theta (laxityOf r.need r.vanMax r.departure) } := by
  simp [snapshotSession, occupied, h.ne']

theorem bandOfLaxity_late {theta : Nat} {l : Int} (h : l ≤ 0) : bandOfLaxity theta l = .late := if_pos h

theorem bandOfLaxity_tight {theta : Nat} {l : Int} (above : 0 < l) (h : l ≤ theta) : bandOfLaxity theta l = .tight := by
  rw [bandOfLaxity, if_neg (not_le.mpr above), if_pos h]

theorem bandOfLaxity_steady {theta : Nat} {l : Int} (above : 0 < l) (h : (theta : Int) < l) : bandOfLaxity theta l = .steady := by
  rw [bandOfLaxity, if_neg (not_le.mpr above), if_neg (not_le.mpr h)]

/-- The session record with its offer, and with it whether the session is PAUSED or CHARGING, put aside: the ramp and a lowering of offers
change no more of it (R6, R142, R143). -/
def offerAside (r : Session) : Session := { r with offer := 0, state := if inPair r.state then .paused else r.state }

@[simp] theorem offerAside_laxity (r : Session) : (offerAside r).laxity = r.laxity := rfl
@[simp] theorem offerAside_band (r : Session) : (offerAside r).band = r.band := rfl

theorem offerAside_vacant_iff (r : Session) : (offerAside r).state = .vacant ↔ r.state = .vacant := by
  cases h : r.state <;> simp [offerAside, inPair, h]

/-- Putting the offer aside hides just the offer and a change of state within PAUSED and CHARGING. -/
theorem offerAside_eq {r r' : Session} (record : r' = { r with offer := r'.offer, state := r'.state })
    (states : r'.state = r.state ∨ inPair r.state = true ∧ inPair r'.state = true) : offerAside r' = offerAside r := by
  rw [record]
  rcases states with same | ⟨pair, pair'⟩
  · simp [offerAside, same]
  · simp [offerAside, pair, pair']

/-- A snapshot point reads neither the offer nor which of PAUSED and CHARGING the session is in. -/
theorem offerAside_snapshotSession (theta : Nat) (r : Session) :
    offerAside (snapshotSession theta r) = snapshotSession theta (offerAside r) := by
  by_cases vacant : r.state = .vacant
  · rw [snapshotSession_of_vacant theta vacant, snapshotSession_of_vacant theta ((offerAside_vacant_iff r).mpr vacant)]
  · have vacant' := mt (offerAside_vacant_iff r).mp vacant
    rcases Nat.eq_zero_or_pos r.need with zero | pos
    · rw [snapshotSession_of_need_zero theta vacant zero, snapshotSession_of_need_zero theta vacant' zero]; rfl
    · rw [snapshotSession_of_need_pos theta vacant pos, snapshotSession_of_need_pos theta vacant' pos]; rfl

theorem giveTarget_offerAside (o : Outlet) (mayRaise : Bool) (t : Nat) :
    offerAside (giveTarget mayRaise o t).session = offerAside o.session := by
  refine offerAside_eq (giveTarget_session o mayRaise t) ?_
  rcases giveTarget_state o mayRaise t with same | ⟨charging, paused, -, -⟩
  · exact .inl same
  · exact .inr ⟨by rw [charging]; rfl, by rw [paused]; rfl⟩

theorem rampOutlet_offerAside (p : Profile) (o : Outlet) : offerAside (rampOutlet p o).session = offerAside o.session := by
  unfold rampOutlet
  split
  · rfl
  · split
    case isTrue starts =>
      have paused : o.session.state = .paused := by
        simp only [startsCharging, Bool.and_eq_true, beq_iff_eq] at starts
        exact starts.1.1
      exact offerAside_eq rfl (.inr ⟨by rw [paused]; rfl, rfl⟩)
    case isFalse => rfl

/-- The session records of all outlets with their offers put aside. -/
def sessionsOfferAside (s : State) : List Session := s.outlets.map fun o => offerAside o.session

theorem mapOutlets_sessionsOfferAside {f : Outlet → Outlet} (keep : ∀ o, offerAside (f o).session = offerAside o.session)
    (s : State) : sessionsOfferAside (mapOutlets f s) = sessionsOfferAside s := by
  simp [sessionsOfferAside, mapOutlets, keep]

theorem modifyOutlet_sessionsOfferAside {f : Outlet → Outlet} (keep : ∀ o, offerAside (f o).session = offerAside o.session)
    (n : Nat) (s : State) : sessionsOfferAside (modifyOutlet n f s) = sessionsOfferAside s := by
  refine List.ext_getElem? fun m => ?_
  simp only [sessionsOfferAside, List.getElem?_map, modifyOutlet_getElem?]
  split
  · simp [Function.comp_def, keep]
  · rfl

theorem recompute_sessionsOfferAside (mayRaise : Bool) (s : State) :
    sessionsOfferAside (recompute mayRaise s) = sessionsOfferAside s := by
  cases loaded : s.host.profile with
  | none => rw [recompute_of_none mayRaise loaded]
  | some p =>
    rw [recompute_of_profile mayRaise loaded]
    refine List.ext_getElem? fun m => ?_
    simp [sessionsOfferAside, retarget_getElem?, Function.comp_def, giveTarget_offerAside]

theorem ramp_sessionsOfferAside (n : Nat) (s : State) : sessionsOfferAside (ramp n s) = sessionsOfferAside s := by
  unfold ramp
  split
  case h_1 p o _ _ =>
    have ramped := modifyOutlet_sessionsOfferAside (rampOutlet_offerAside p) n s
    split
    · rw [recompute_sessionsOfferAside, ramped]
    · exact ramped
  case h_2 => rfl

theorem cutWindow_sessionsOfferAside (s : State) : sessionsOfferAside (cutWindow s) = sessionsOfferAside s :=
  calc sessionsOfferAside (cutWindow s)
      = sessionsOfferAside (mapOutlets meterCutWindow (feederCutWindow s)) :=
        forOutlets_field sessionsOfferAside ramp ramp_sessionsOfferAside _ _
    _ = sessionsOfferAside s := mapOutlets_sessionsOfferAside (f := meterCutWindow) (fun _ => rfl) _

theorem cutWindow_profile (s : State) : (cutWindow s).host.profile = s.host.profile :=
  (outletsCutWindow_frame (feederCutWindow s)).profile

theorem cutWindow_participation (s : State) : (cutWindow s).census.participation = s.census.participation :=
  (congrArg CensusEngine.participation (outletsCutWindow_frame (feederCutWindow s)).census :)

theorem snapshot_sessionsOfferAside {s : State} {p : Profile} (loaded : s.host.profile = some p) :
    sessionsOfferAside (snapshot s) = (sessionsOfferAside s).map (snapshotSession p.tightThreshold) := by
  simp [sessionsOfferAside, snapshot, loaded, mapOutlets, Function.comp_def, offerAside_snapshotSession]

/-- Preparing the frame of a census that the part takes part in is a snapshot point, and in ISLANDED a recomputation besides (R29, R37). -/
theorem prepareFrame_sessionsOfferAside {s : State} {p : Profile} (loaded : s.host.profile = some p)
    (part : s.census.participation ≠ .offline) :
    sessionsOfferAside (prepareFrame s) = (sessionsOfferAside s).map (snapshotSession p.tightThreshold) := by
  have takes : takesPart s = true := by simpa [takesPart] using part
  rw [← snapshot_sessionsOfferAside loaded]
  simp only [prepareFrame, takes, if_true]
  split
  · exact recompute_sessionsOfferAside _ _
  · rfl

/-- A frame zero cuts the window and prepares the frame, in one order or the other, from a state that differs on the line and in the census
alone (R47, R144; log entry 4). -/
theorem frameZero_cases (boundaryFirst : Bool) (s : State) :
    ∃ t : State, t.outlets = s.outlets ∧ t.host = s.host ∧ t.census.participation = s.census.participation ∧
      (frameZero boundaryFirst s = prepareFrame (cutWindow t) ∨ frameZero boundaryFirst s = cutWindow (prepareFrame t)) := by
  refine ⟨{ s with line := startFrame s.line, census.timerMs := 2000, census.frame := none }, rfl, rfl, rfl, ?_⟩
  exact ite_eq_or_eq _ _ _

/-- In either order of the window cut and the snapshot point, a frame zero takes laxity and band of every session as it stood before. -/
theorem frameZero_sessionsOfferAside (boundaryFirst : Bool) {s : State} {p : Profile} (loaded : s.host.profile = some p)
    (part : s.census.participation ≠ .offline) :
    sessionsOfferAside (frameZero boundaryFirst s) = (sessionsOfferAside s).map (snapshotSession p.tightThreshold) := by
  obtain ⟨t, outlets, host, participation, order⟩ := frameZero_cases boundaryFirst s
  have loaded' : t.host.profile = some p := by rw [host, loaded]
  have part' : t.census.participation ≠ .offline := by rwa [participation]
  have same : sessionsOfferAside t = sessionsOfferAside s := by rw [sessionsOfferAside, outlets, sessionsOfferAside]
  rcases order with order | order <;> rw [order]
  · rw [prepareFrame_sessionsOfferAside ((cutWindow_profile t).trans loaded') ((cutWindow_participation t).trans_ne part'),
      cutWindow_sessionsOfferAside, same]
  · rw [cutWindow_sessionsOfferAside, prepareFrame_sessionsOfferAside loaded' part', same]

theorem frameZero_session (boundaryFirst : Bool) {s : State} {p : Profile} (loaded : s.host.profile = some p)
    (part : s.census.participation ≠ .offline) {n : Nat} {o o' : Outlet} (found : s.outlets[n]? = some o)
    (found' : (frameZero boundaryFirst s).outlets[n]? = some o') :
    offerAside o'.session = offerAside (snapshotSession p.tightThreshold o.session) := by
  have sessions := congrArg (·[n]?) (frameZero_sessionsOfferAside boundaryFirst loaded part)
  simpa [sessionsOfferAside, found, found', offerAside_snapshotSession] using sessions

theorem classOf_start {length : Nat} (low : 6 ≤ length) (high : length ≤ 11) : classOf length = .start := by
  rw [classOf, if_neg (by omega), if_pos high]

/-- The trailing edge of a classifiable start-class run in PULSE is frame zero (R46, R47). -/
theorem exec_trailingEdge_start {s : State} {r : Run} {samples : Nat} (boundaryFirst : Bool) (sampled : LineSampled s)
    (pulse : s.line.state = .pulse) (run : s.line.run = some r) (classifiable : r.classifiable = true) (low : 6 ≤ samples / 16)
    (high : samples / 16 ≤ 11) : exec (.trailingEdge samples boundaryFirst) s = .next (frameZero boundaryFirst s) := by
  have start : classOf (runLength samples) = .start := classOf_start low high
  calc exec (.trailingEdge samples boundaryFirst) s
      = .next (onLine (trailEdge samples boundaryFirst) s) := rfl
    _ = .next (trailEdge samples boundaryFirst s) := by rw [onLine, if_pos ((lineAlive_iff s).mpr sampled)]
    _ = .next (endPulse r samples boundaryFirst s) := by simp only [trailEdge, run, pulse]
    _ = .next (frameZero boundaryFirst s) := by simp only [endPulse, classifiable, if_true, start]

/-- Settles O52: the trailing edge is a frame zero, which leaves in each record the laxity and band of the snapshot of the session found. -/
theorem snapshotTakesLaxityAndBand : Obligations.SnapshotTakesLaxityAndBand := by
  intro s t r p samples boundaryFirst n o o' sampled pulse run classifiable low high part loaded step found found'
  rw [exec_trailingEdge_start boundaryFirst sampled pulse run classifiable low high] at step
  obtain rfl := Host.Outcome.next.inj step
  have session := frameZero_session boundaryFirst loaded part found found'
  have laxity : o'.session.laxity = (snapshotSession p.tightThreshold o.session).laxity :=
    (congrArg Session.laxity session :)
  have band : o'.session.band = (snapshotSession p.tightThreshold o.session).band :=
    (congrArg Session.band session :)
  refine ⟨fun vacant => ?_, fun occupied zero => ?_, fun tFull l occupied pos hmax covers least clamped => ?_⟩
  · rw [snapshotSession_of_vacant _ vacant] at laxity band
    exact ⟨laxity, band⟩
  · rw [snapshotSession_of_need_zero _ occupied zero] at laxity band
    exact ⟨laxity, band⟩
  · have taken : laxityOf o.session.need o.session.vanMax o.session.departure = l := by
      rw [laxityOf, timeAtFullRate_eq hmax covers least, clamped]
    rw [snapshotSession_of_need_pos _ occupied pos, taken] at laxity band
    exact ⟨laxity, fun h => band.trans (bandOfLaxity_late h), fun above h => band.trans (bandOfLaxity_tight above h),
      fun above h => band.trans (bandOfLaxity_steady above h)⟩

end Sys2Proof.Machine
end

section
/-! PROOFS. What a command can do to the Peer Roster (R87, R88, R97, obligation O38): the completion of a valid census updates it, a reset
clears it, and every other event leaves it as it stood. -/

namespace Sys2Proof.Machine

/-! Blocks that the roster does not belong to leave it as it stood. -/

theorem takeOrder_roster (order : BorrowOrder) (s : State) : (takeOrder order s).roster = s.roster := by
  cases order <;> simp [takeOrder]

theorem noteTrip_roster (f trip : Nat) (s : State) : (noteTrip f trip s).roster = s.roster := by
  unfold noteTrip; split <;> simp

theorem judgeLimits_roster (p : Profile) (f : Nat) (s : State) : (judgeLimits p f s).roster = s.roster := by
  dsimp only [judgeLimits]
  split
  · simp [takeOrder_roster, noteTrip_roster, noteOverload]
  · split <;> simp [takeOrder_roster, noteOverload]

theorem loseSense_roster (sum : Nat) (s : State) : (loseSense sum s).roster = s.roster := by
  simp [loseSense, takeOrder_roster]

theorem judgeReading_roster (p : Profile) (r : Reading) (s : State) : (judgeReading p r s).roster = s.roster := by
  unfold judgeReading
  split
  · rw [judgeLimits_roster]
  · split
    · exact loseSense_roster _ s
    · rfl
  · split <;> rfl
  · rfl

theorem feederFullWindow_roster (s : State) : (feederFullWindow s).roster = s.roster := by
  unfold feederFullWindow
  split
  · rfl
  · split
    · rfl
    · exact judgeReading_roster _ _ _

theorem endFullWindow_roster (feederFirst : Bool) (s : State) : (endFullWindow feederFirst s).roster = s.roster := by
  rw [endFullWindow, serve_roster]
  cases feederFirst
  · exact (feederFullWindow_roster _).trans (outletsFullWindow_frame s).roster
  · exact (outletsFullWindow_frame _).roster.trans (feederFullWindow_roster s)

theorem hearHush_roster (s : State) : (hearHush s).roster = s.roster := by
  unfold hearHush; split <;> simp [takeOrder_roster]

theorem handHush_roster (r : Run) (s : State) : (handHush r s).roster = s.roster := by
  unfold handHush
  split
  · rfl
  · exact hearHush_roster s

theorem missPeriodAtExpiry_roster (s : State) : (missPeriodAtExpiry s).roster = s.roster := by
  unfold missPeriodAtExpiry
  split
  · exact (enterIslanded_frame _).roster.trans (by simp)
  · simp

theorem refreshFallback_roster (s : State) : (refreshFallback s).roster = s.roster := by
  unfold refreshFallback; split <;> simp

theorem expireTimer_roster (s : State) : (expireTimer s).roster = s.roster := by
  dsimp only [expireTimer]
  split
  · split
    · simp [refreshFallback_roster]
    · split
      · simp [refreshFallback_roster]
      · exact missPeriodAtExpiry_roster _
  · rfl

theorem abandon_roster (s : State) : (abandon s).roster = s.roster := by
  rcases abandon_cases s with ⟨-, h⟩ | ⟨-, h⟩ <;> rw [h]
  rw [missPeriod_roster, raise_roster]

theorem prepareFrame_roster (s : State) : (prepareFrame s).roster = s.roster := by
  unfold prepareFrame
  split
  · dsimp only
    split <;> simp
  · rfl

theorem cutWindow_roster (s : State) : (cutWindow s).roster = s.roster :=
  (outletsCutWindow_frame (feederCutWindow s)).roster

theorem frameZero_roster (boundaryFirst : Bool) (s : State) : (frameZero boundaryFirst s).roster = s.roster := by
  dsimp only [frameZero]
  split
  · rw [prepareFrame_roster, cutWindow_roster]
  · rw [cutWindow_roster, prepareFrame_roster]

theorem handBit_roster (k : Nat) (v drove : Bool) (s : State) : (handBit k v drove s).roster = s.roster := by
  unfold handBit
  split
  · rfl
  · split
    · exact abandon_roster _
    · rfl

theorem readBit_roster (a b c : Bool) (s : State) : (readBit a b c s).roster = s.roster := by
  unfold readBit
  split
  · split
    · rw [takeEchoFault, capture_roster, abandon_roster]
    · exact handBit_roster _ _ _ _
  · rfl

theorem reportAttempt_roster (droveStart : Bool) (s : State) : (reportAttempt droveStart s).roster = s.roster := by
  cases droveStart
  · rfl
  · exact missPeriod_roster s

theorem goStuck_roster (s : State) : (goStuck s).roster = s.roster := by
  rcases goStuck_cases s with ⟨h, -⟩ | ⟨r, -, -, h⟩ <;> rw [h]
  rw [capture_roster, raise_roster, abandon_roster]

theorem endFrameRun_roster (samples : Nat) (s : State) : (endFrameRun samples s).roster = s.roster := by
  rcases endFrameRun_cases samples s with ⟨-, h⟩ | ⟨-, h⟩ <;> rw [h]
  exact goStuck_roster s

theorem endPulse_roster (r : Run) (samples : Nat) (boundaryFirst : Bool) (s : State) :
    (endPulse r samples boundaryFirst s).roster = s.roster := by
  unfold endPulse
  split
  case isTrue =>
    cases classOf (runLength samples) with
    | start => exact frameZero_roster boundaryFirst s
    | hush => rw [reportAttempt_roster, handHush_roster]
    | glitch => exact reportAttempt_roster _ _
    | malformed => exact reportAttempt_roster _ _
    | stuck => exact goStuck_roster s
  case isFalse =>
    cases classOf (runLength samples) with
    | stuck => exact goStuck_roster s
    | start => rfl
    | hush => rfl
    | glitch => rfl
    | malformed => rfl

theorem trailEdge_roster (samples : Nat) (boundaryFirst : Bool) (s : State) :
    (trailEdge samples boundaryFirst s).roster = s.roster := by
  unfold trailEdge
  split
  · rfl
  · split
    · exact endFrameRun_roster samples s
    · rfl
    · exact endPulse_roster _ samples boundaryFirst s
    · exact endPulse_roster _ samples boundaryFirst s
    · exact endPulse_roster _ samples boundaryFirst s

theorem reachFree_roster (s : State) : (reachFree s).roster = s.roster := by
  unfold reachFree
  split
  · rfl
  · split <;> simp

theorem endStartPulse_roster (s : State) : (endStartPulse s).roster = s.roster := by
  unfold endStartPulse; split <;> simp

theorem endHush_roster (s : State) : (endHush s).roster = s.roster := by
  unfold endHush; split <;> simp

theorem expireHoldOff_roster (s : State) : (expireHoldOff s).roster = s.roster := by
  unfold expireHoldOff; split <;> simp

theorem echoPulse_roster (s : State) : (echoPulse s).roster = s.roster := by
  unfold echoPulse
  split
  · rfl
  · simp [reportAttempt_roster]
  · simp

theorem ageSummary_roster (s : State) : (ageSummary s).roster = s.roster := by
  unfold ageSummary; split <;> rfl

theorem minuteTick_roster (s : State) : (minuteTick s).roster = s.roster :=
  (congrArg State.roster (minuteTick_frame s) :)

theorem loadProfileRequest_roster (body : List Byte) (s : State) : (loadProfileRequest body s).roster = s.roster := by
  unfold loadProfileRequest; split_ifs <;> simp [storeProfile]

theorem openRequest_roster (body : List Byte) (s : State) : (openRequest body s).roster = s.roster := by
  unfold openRequest
  split
  · rfl
  · split
    · rfl
    · split <;> simp [answerState, openSessionOn]

theorem amendRequest_roster (body : List Byte) (s : State) : (amendRequest body s).roster = s.roster := by
  unfold amendRequest
  split
  · rfl
  · split_ifs
    · rfl
    · rfl
    · split <;> simp [answerState, amendSessionOn]

theorem closeRequest_roster (body : List Byte) (s : State) : (closeRequest body s).roster = s.roster := by
  unfold closeRequest; split <;> simp [answerState, closeSessionOn]

theorem readOutletRequest_roster (body : List Byte) (s : State) : (readOutletRequest body s).roster = s.roster := by
  unfold readOutletRequest; split <;> rfl

/-! The completion of a valid census. -/

theorem faultClash_roster (f : Frame) (n : Nat) (s : State) : (faultClash f n s).roster = s.roster := by
  unfold faultClash
  split
  · rfl
  · split
    · split <;> simp [(enterFaulted_frame _ _ _).roster]
    · rfl

theorem examineClashes_roster (f : Frame) (s : State) : (examineClashes f s).roster = s.roster :=
  (forOutlets_field State.roster (faultClash f) (faultClash_roster f) _ _).trans (raiseIf_roster _ _ _)

theorem completeCensus_roster (f : Frame) (s : State) : (completeCensus f s).roster = s.roster := by
  rw [completeCensus, join, raiseIf_roster]
  exact examineClashes_roster f _

theorem shareCompletion_roster (s : State) : (shareCompletion s).roster = s.roster := by
  unfold shareCompletion
  split
  · rfl
  · exact recompute_roster _ _

/-- Step 5 of a completion updates the roster once, with the maps read, and no other step touches it (R82, R88). -/
theorem complete_roster (f : Frame) (s : State) :
    (complete f s).roster = updateRoster f.read (completeCensus f s).census.number s.roster := by
  calc (complete f s).roster
      = (shareCompletion { completeCensus f s with
          roster := updateRoster f.read (completeCensus f s).census.number (completeCensus f s).roster }).roster := rfl
    _ = updateRoster f.read (completeCensus f s).census.number s.roster := by
      rw [shareCompletion_roster, completeCensus_roster]

/-- What one command can make of the roster: nothing, an update with some maps and census number, or the roster after reset. -/
inductive RosterMove (r : Roster) : Roster → Prop
  | kept : RosterMove r r
  | updated (m : Maps) (number : CensusNumber) : RosterMove r (updateRoster m number r)
  | cleared : RosterMove r .afterReset

theorem RosterMove.of_eq {r r' : Roster} (h : r' = r) : RosterMove r r' := h ▸ .kept

theorem endFrame_rosterMove (s : State) : RosterMove s.roster (endFrame s).roster := by
  unfold endFrame
  split
  · split
    · rw [complete_roster]; exact .updated _ _
    · exact .kept
  · exact .kept

theorem onLine_rosterMove {event : State → State} {s : State} (move : RosterMove s.roster (event s).roster) :
    RosterMove s.roster (onLine event s).roster := by
  rcases onLine_cases event s with ⟨-, h⟩ | ⟨-, h⟩ <;> rw [h]
  · exact .kept
  · exact move

theorem whenRunning_rosterMove {event : State → State} {s : State} (move : RosterMove s.roster (event s).roster) :
    RosterMove s.roster (whenRunning event s).roster := by
  rcases whenRunning_cases event s with ⟨-, h⟩ | ⟨-, h⟩ <;> rw [h]
  · exact .kept
  · exact move

theorem onlyWhere_rosterMove (outcome : State → State → Bool) {event : State → State} {s : State}
    (move : RosterMove s.roster (event s).roster) : RosterMove s.roster (onlyWhere outcome event s).roster := by
  rcases onlyWhere_cases outcome event s with ⟨-, h⟩ | ⟨-, h⟩ <;> rw [h]
  · exact .kept
  · exact move

/-- An event taken under a condition of its own, as the rows of the settle fault, the overload and their like have it (log entry 2). -/
theorem ite_rosterMove (taken : Bool) {s t : State} (move : RosterMove s.roster t.roster) :
    RosterMove s.roster (if taken then t else s).roster := by
  cases taken
  · exact .kept
  · exact move

theorem takeRequest_rosterMove (code : Byte) (lengthOk : Nat → Bool) {act : List Byte → State → State} (shifted : List Byte) {s : State}
    (move : ∀ body, RosterMove s.roster (act body s).roster) :
    RosterMove s.roster (takeRequest code lengthOk act shifted s).roster := by
  rcases takeRequest_cases code lengthOk act shifted s with ⟨-, h⟩ | ⟨-, -, h⟩ | ⟨-, -, h⟩ | ⟨-, body, -, -, h⟩ <;> rw [h]
  · exact .kept
  · exact .kept
  · exact .kept
  · exact move body

/-- A request whose effect leaves the roster. -/
theorem takeRequest_keepsRoster (code : Byte) (lengthOk : Nat → Bool) {act : List Byte → State → State} (shifted : List Byte) (s : State)
    (same : ∀ body s, (act body s).roster = s.roster) :
    RosterMove s.roster (takeRequest code lengthOk act shifted s).roster :=
  takeRequest_rosterMove code lengthOk shifted fun body => .of_eq (same body s)

theorem takeReset_rosterMove (cause : ResetCause) (s : State) : RosterMove s.roster (takeReset cause s).roster := .cleared

theorem releaseReset_rosterMove (cause : ResetCause) (straps : Straps) (csLow : Bool) (s : State) :
    RosterMove s.roster (releaseReset cause straps csLow s).roster := by
  rcases releaseReset_cases cause straps csLow s with ⟨-, h⟩ | ⟨-, -, h⟩ | ⟨-, held, -, -, h⟩ <;> rw [h]
  · exact .kept
  · exact .cleared
  · exact .cleared

theorem takeNothing_rosterMove (s : State) : RosterMove s.roster (takeNothing s).roster :=
  whenRunning_rosterMove .kept

theorem fullWindow_rosterMove (feederFirst : Bool) (s : State) : RosterMove s.roster (endFullWindow feederFirst s).roster :=
  .of_eq (endFullWindow_roster feederFirst s)

theorem readBit_rosterMove (a b c : Bool) (s : State) : RosterMove s.roster (readBit a b c s).roster :=
  .of_eq (readBit_roster a b c s)

theorem takeCharge_rosterMove (n charge : Nat) (s : State) : RosterMove s.roster (takeCharge n charge s).roster :=
  .of_eq (takeCharge_frame n charge s).roster

theorem missedEvent_rosterMove (cause : MissedBy) (s : State) : RosterMove s.roster (missedEvent cause s).roster := by
  cases cause with
  | timerExpiry => exact whenRunning_rosterMove (.of_eq (expireTimer_roster s))
  | runEnd samples boundaryFirst => exact onLine_rosterMove (.of_eq (trailEdge_roster samples boundaryFirst s))
  | pulseEcho => exact onLine_rosterMove (.of_eq (echoPulse_roster s))
  | bitRead first second third => exact onLine_rosterMove (readBit_rosterMove first second third s)
  | lineStuck => exact onLine_rosterMove (.of_eq (goStuck_roster s))

theorem overdueEvent_rosterMove (cause : OverdueBy) (s : State) : RosterMove s.roster (overdueEvent cause s).roster := by
  cases cause with
  | minuteTick => exact whenRunning_rosterMove (.of_eq (minuteTick_roster s))
  | opening shifted => exact takeRequest_keepsRoster _ _ shifted s openRequest_roster
  | amending shifted => exact takeRequest_keepsRoster _ _ shifted s amendRequest_roster

/-- Every command answers with a next state, whose roster is one of the three that `RosterMove` names. -/
theorem exec_rosterMove (c : Instr) (s : State) : ∃ t, exec c s = .next t ∧ RosterMove s.roster t.roster :=
  match c with
  | .loadProfile shifted => ⟨_, rfl, takeRequest_keepsRoster _ _ shifted s loadProfileRequest_roster⟩
  | .openSession shifted => ⟨_, rfl, takeRequest_keepsRoster _ _ shifted s openRequest_roster⟩
  | .amendSession shifted => ⟨_, rfl, takeRequest_keepsRoster _ _ shifted s amendRequest_roster⟩
  | .closeSession shifted => ⟨_, rfl, takeRequest_keepsRoster _ _ shifted s closeRequest_roster⟩
  | .readOutlet shifted => ⟨_, rfl, takeRequest_keepsRoster _ _ shifted s readOutletRequest_roster⟩
  | .readCensus shifted => ⟨_, rfl, takeRequest_keepsRoster _ _ shifted s fun _ _ => rfl⟩
  | .readRoster shifted => ⟨_, rfl, takeRequest_keepsRoster _ _ shifted s fun _ _ => rfl⟩
  | .readStatus shifted => ⟨_, rfl, takeRequest_keepsRoster _ _ shifted s fun _ _ => rfl⟩
  | .readFault shifted => ⟨_, rfl, takeRequest_keepsRoster _ _ shifted s fun _ _ => rfl⟩
  | .readEvents shifted => ⟨_, rfl, takeRequest_keepsRoster _ _ shifted s fun _ _ => rfl⟩
  | .clearFault shifted => ⟨_, rfl, takeRequest_keepsRoster _ _ shifted s fun _ _ => rfl⟩
  | .setMask shifted => ⟨_, rfl, takeRequest_keepsRoster _ _ shifted s fun _ _ => rfl⟩
  | .restart shifted => ⟨_, rfl, takeRequest_rosterMove _ _ shifted fun _ => takeReset_rosterMove .restart s⟩
  | .unknownRequest code shifted => ⟨_, rfl, by split_ifs <;> exact .kept⟩
  | .nullTransaction [] => ⟨_, rfl, takeNothing_rosterMove s⟩
  | .nullTransaction (code :: rest) => ⟨_, rfl, by dsimp only; split_ifs; exacts [takeNothing_rosterMove s, .kept]⟩
  | .powerOnReset => ⟨_, rfl, takeReset_rosterMove .powerOn s⟩
  | .resetNLow => ⟨_, rfl, takeReset_rosterMove .resetPin s⟩
  | .supplyLowReset => ⟨_, rfl, takeReset_rosterMove .supplyLow s⟩
  | .resetRelease cause _ _ _ csLow => ⟨_, rfl, releaseReset_rosterMove cause _ csLow s⟩
  | .leadingEdge _ => ⟨_, rfl, onLine_rosterMove .kept⟩
  | .trailingEdge samples boundaryFirst => ⟨_, rfl, onLine_rosterMove (.of_eq (trailEdge_roster samples boundaryFirst s))⟩
  | .lineFree => ⟨_, rfl, onLine_rosterMove (.of_eq (reachFree_roster s))⟩
  | .startPulseEnd => ⟨_, rfl, onLine_rosterMove (.of_eq (endStartPulse_roster s))⟩
  | .hushDriveEnd => ⟨_, rfl, onLine_rosterMove (.of_eq (endHush_roster s))⟩
  | .hushHoldOffExpiry => ⟨_, rfl, onLine_rosterMove (.of_eq (expireHoldOff_roster s))⟩
  | .lineStuck => ⟨_, rfl, onLine_rosterMove (.of_eq (goStuck_roster s))⟩
  | .echoFault first second third => ⟨_, rfl, onLine_rosterMove (ite_rosterMove _ (readBit_rosterMove first second third s))⟩
  | .echoFaultPulse => ⟨_, rfl, onLine_rosterMove (.of_eq (echoPulse_roster s))⟩
  | .settleFault first second third => ⟨_, rfl, onLine_rosterMove (ite_rosterMove _ (readBit_rosterMove first second third s))⟩
  | .frameEnd => ⟨_, rfl, onLine_rosterMove (endFrame_rosterMove s)⟩
  | .seatClashFault _ => ⟨_, rfl, onLine_rosterMove (onlyWhere_rosterMove _ (endFrame_rosterMove s))⟩
  | .censusTimerExpiry => ⟨_, rfl, whenRunning_rosterMove (.of_eq (expireTimer_roster s))⟩
  | .islanded cause => ⟨_, rfl, onlyWhere_rosterMove _ (missedEvent_rosterMove cause s)⟩
  | .fullWindowEnd feederFirst => ⟨_, rfl, whenRunning_rosterMove (fullWindow_rosterMove feederFirst s)⟩
  | .overload feederFirst => ⟨_, rfl, whenRunning_rosterMove (ite_rosterMove _ (fullWindow_rosterMove feederFirst s))⟩
  | .trip feederFirst => ⟨_, rfl, whenRunning_rosterMove (ite_rosterMove _ (fullWindow_rosterMove feederFirst s))⟩
  | .senseLost feederFirst => ⟨_, rfl, whenRunning_rosterMove (onlyWhere_rosterMove _ (fullWindow_rosterMove feederFirst s))⟩
  | .senseBack feederFirst => ⟨_, rfl, whenRunning_rosterMove (onlyWhere_rosterMove _ (fullWindow_rosterMove feederFirst s))⟩
  | .overdraw _ feederFirst => ⟨_, rfl, whenRunning_rosterMove (onlyWhere_rosterMove _ (fullWindow_rosterMove feederFirst s))⟩
  | .stall _ feederFirst => ⟨_, rfl, whenRunning_rosterMove (onlyWhere_rosterMove _ (fullWindow_rosterMove feederFirst s))⟩
  | .unstall _ feederFirst => ⟨_, rfl, whenRunning_rosterMove (onlyWhere_rosterMove _ (fullWindow_rosterMove feederFirst s))⟩
  | .release _ feederFirst => ⟨_, rfl, whenRunning_rosterMove (onlyWhere_rosterMove _ (fullWindow_rosterMove feederFirst s))⟩
  | .minuteTick => ⟨_, rfl, whenRunning_rosterMove (.of_eq (minuteTick_roster s))⟩
  | .overdue _ cause => ⟨_, rfl, onlyWhere_rosterMove _ (overdueEvent_rosterMove cause s)⟩
  | .drawQuantum outlet charge => ⟨_, rfl, whenRunning_rosterMove (takeCharge_rosterMove outlet charge s)⟩
  | .ampMinuteCompletion outlet charge =>
    ⟨_, rfl, whenRunning_rosterMove (ite_rosterMove _ (takeCharge_rosterMove outlet charge s))⟩
  | .summaryAgeTick => ⟨_, rfl, whenRunning_rosterMove (.of_eq (ageSummary_roster s))⟩
  | .pwmPeriodStart => ⟨_, rfl, whenRunning_rosterMove .kept⟩
  | .frameBitRead first second third => ⟨_, rfl, onLine_rosterMove (readBit_rosterMove first second third s)⟩
  | .feederSample code => ⟨_, rfl, whenRunning_rosterMove (ite_rosterMove _ .kept)⟩

/-- The law of the roster goes along with each move: an update keeps it at every entry, and the cleared entries meet it (R87, R97). -/
theorem RosterMove.keepsLaw {r r' : Roster} (move : RosterMove r r') (length : r.entries.length = 128)
    (entries : ∀ e ∈ r.entries, EntryLaw e) : r'.entries.length = 128 ∧ ∀ e ∈ r'.entries, EntryLaw e := by
  cases move with
  | kept => exact ⟨length, entries⟩
  | updated m number =>
    refine ⟨(updateRoster_length m number r).trans length, fun e he => ?_⟩
    obtain ⟨seat, found⟩ := List.mem_iff_getElem?.mp he
    rw [updateRoster_getElem?, Option.map_eq_some_iff] at found
    obtain ⟨before, stood, rfl⟩ := found
    exact updateEntry_law _ _ _ _ _ (entries before (List.mem_of_getElem? stood))
  | cleared =>
    refine ⟨List.length_replicate, fun e he => ?_⟩
    rw [List.eq_of_mem_replicate he]
    exact ⟨rfl, rfl, rfl⟩

/-- Settles O38: a command leaves the roster, updates it or clears it, and each keeps the law. -/
theorem rosterLawIsKept : Obligations.RosterLawIsKept := by
  intro c s t ⟨length, entries⟩ step
  obtain ⟨t', answer, move⟩ := exec_rosterMove c s
  obtain rfl := Host.Outcome.next.inj (answer.symm.trans step)
  exact move.keepsLaw length entries

end Sys2Proof.Machine
end

section
/-! PROOFS. The roster update at a valid completion (R88 to R94, obligation O45): what each row of R89 and R90 makes of an entry, the counts
of the entries, and the rotation order of a band as the seats of rising rotation key. -/

namespace Sys2Proof.Machine

/-! One entry (R89 to R91). -/

theorem updateEntry_of_seen (late tight steady : Bool) (e : Entry) :
    updateEntry true late tight steady e = ⟨.present, bandOfBits late tight steady, 0, severalBits late tight steady, false⟩ := rfl

theorem updateEntry_of_present (late tight steady : Bool) {e : Entry} (h : e.state = .present) :
    updateEntry false late tight steady e = ⟨.held, e.band, 1, e.multiBand, e.irregular || late || tight || steady⟩ := by
  simp [updateEntry, updateUnseen, h, Bool.or_assoc]

theorem updateEntry_of_held_once (late tight steady : Bool) {e : Entry} (h : e.state = .held) (once : e.absence = 1) :
    updateEntry false late tight steady e = ⟨.held, e.band, 2, e.multiBand, e.irregular || late || tight || steady⟩ := by
  simp [updateEntry, updateUnseen, h, once, Bool.or_assoc]

theorem updateEntry_of_gone (late tight steady : Bool) {e : Entry} (h : e.state = .absent ∨ e.state = .held ∧ e.absence = 2) :
    updateEntry false late tight steady e = ⟨.absent, .absent, 0, false, e.irregular || late || tight || steady⟩ := by
  rcases h with h | ⟨h, twice⟩
  · simp [updateEntry, updateUnseen, h, Bool.or_assoc]
  · simp [updateEntry, updateUnseen, h, twice, Bool.or_assoc]

/-! The counts (R92). -/

theorem Entry.showing_iff (e : Entry) : e.showing = true ↔ e.state ≠ .absent := by simp [Entry.showing]

theorem Entry.inBand_iff (b : Band) (e : Entry) : e.inBand b = true ↔ e.state ≠ .absent ∧ e.band = b := by
  simp [Entry.inBand, Entry.showing]

theorem countP_inBand (b : Band) (entries : List Entry) :
    entries.countP (Entry.inBand b) = entries.countP (fun e => e.state ≠ .absent ∧ e.band = b) :=
  List.countP_congr fun e _ => by rw [Entry.inBand_iff, decide_eq_true_iff]

theorem countP_showing (entries : List Entry) : entries.countP Entry.showing = entries.countP (fun e => e.state ≠ .absent) :=
  List.countP_congr fun e _ => by rw [Entry.showing_iff, decide_eq_true_iff]

/-! The rotation orders (R94). -/

/-- The seat at a rotation key has that key. -/
theorem rotationKey_add_mod {origin k : Nat} (horigin : origin < 128) (hk : k < 128) :
    rotationKey origin ((origin + k) % 128) = k := by
  unfold rotationKey; omega

/-- A seat is the one at its rotation key. -/
theorem add_rotationKey_mod {origin seat : Nat} (horigin : origin < 128) (hseat : seat < 128) :
    (origin + rotationKey origin seat) % 128 = seat := by
  unfold rotationKey; omega

/-- Seats of which each has a higher rotation key than those before it. -/
def RisingKeys (origin : Nat) (seats : List Nat) : Prop :=
  seats.Pairwise fun x y => rotationKey origin x < rotationKey origin y

theorem rotation_risingKeys {origin : Nat} (horigin : origin < 128) :
    RisingKeys origin ((List.range 128).map fun k => (origin + k) % 128) := by
  have keys : ((List.range 128).map fun k => (origin + k) % 128).map (rotationKey origin) = List.range 128 := by
    rw [List.map_map]
    refine (List.map_congr_left fun k hk => ?_).trans (List.map_id _)
    exact rotationKey_add_mod horigin (List.mem_range.mp hk)
  rw [RisingKeys, ← List.pairwise_map, keys]
  exact List.pairwise_lt_range

theorem rotationOrder_risingKeys (entries : List Entry) {origin : Nat} (horigin : origin < 128) (b : Band) :
    RisingKeys origin (rotationOrder entries origin b) :=
  (rotation_risingKeys horigin).filter _

theorem mem_rotationOrder {entries : List Entry} (length : entries.length = 128) {origin : Nat} (horigin : origin < 128) (b : Band)
    (seat : Nat) : seat ∈ rotationOrder entries origin b ↔ ∃ e, entries[seat]? = some e ∧ e.state ≠ .absent ∧ e.band = b := by
  simp only [rotationOrder, List.mem_filter, List.mem_map, List.mem_range]
  cases found : entries[seat]? with
  | none => simp
  | some e =>
    have hseat : seat < 128 := length ▸ (List.getElem?_eq_some_iff.mp found).1
    have reached : ∃ k < 128, (origin + k) % 128 = seat :=
      ⟨rotationKey origin seat, Nat.mod_lt _ (by decide), add_rotationKey_mod horigin hseat⟩
    simp [reached, Entry.inBand_iff]

/-- Rising keys are distinct, so a seat's rank is its place in the order, from 1. -/
theorem RisingKeys.rank_eq {origin : Nat} {order : List Nat} (rising : RisingKeys origin order) {i seat : Nat}
    (h : order[i]? = some seat) : rotationRank order seat = some (i + 1) := by
  have distinct : order.Nodup := rising.imp fun lower same => lower.ne (congrArg _ same)
  obtain ⟨hi, rfl⟩ := List.getElem?_eq_some_iff.mp h
  have place : order.idxOf? order[i] = some i :=
    List.idxOf?_eq_some_iff.mpr ⟨hi, rfl, fun j hj same => hj.ne (distinct.getElem_inj_iff.mp same)⟩
  rw [rotationRank, place, Option.map_some]

theorem rotationOrigin_lt (number : CensusNumber) : rotationOrigin number < 128 := Nat.mod_lt _ (by decide)

/-- The order that an update forms for each of the three bands. -/
theorem updateRoster_order {m : Maps} {number : CensusNumber} {before : Roster} {b : Band} {order : List Nat}
    (h : (b = .late ∧ order = (updateRoster m number before).lateOrder) ∨ (b = .tight ∧ order = (updateRoster m number before).tightOrder) ∨
      (b = .steady ∧ order = (updateRoster m number before).steadyOrder)) :
    order = rotationOrder (updateRoster m number before).entries (rotationOrigin number) b := by
  rcases h with ⟨rfl, rfl⟩ | ⟨rfl, rfl⟩ | ⟨rfl, rfl⟩ <;> rfl

/-- Settles O45: an entry by the row of R89 or R90 that its bits and its state choose, the counts as countings of the entries, and each
order as the seats of rising key that show the band. -/
theorem rosterUpdateFollowsTheMaps : Obligations.RosterUpdateFollowsTheMaps := by
  rintro m number before r length - rfl
  refine ⟨?_, countP_inBand _ _, countP_inBand _ _, countP_inBand _ _, rfl, countP_showing _, rfl, ?_⟩
  · rintro seat e late tight steady found rfl rfl rfl
    rw [updateRoster_getElem?, found, Option.map_some]
    refine ⟨fun seen => ?_, fun unseen present => ?_, fun unseen held once => ?_, fun unseen gone => ?_⟩
    · rw [seen, updateEntry_of_seen]; rfl
    · rw [unseen, updateEntry_of_present _ _ _ present]
    · rw [unseen, updateEntry_of_held_once _ _ _ held once]
    · rw [unseen, updateEntry_of_gone _ _ _ gone]
  · intro b order h
    have horigin := rotationOrigin_lt number
    rw [updateRoster_order h]
    have rising := rotationOrder_risingKeys (updateRoster m number before).entries horigin b
    exact ⟨rising, mem_rotationOrder ((updateRoster_length m number before).trans length) horigin b, fun _ _ => rising.rank_eq⟩

end Sys2Proof.Machine
end

section
/-! PROOFS. What one command can do, said once: nothing, or one of the part's events at the state found. A law that each event keeps is kept
by every command. -/

namespace Sys2Proof.Machine

/-- What a command can make of the state: one constructor for each event that a command can be, and one for no event at all. -/
inductive CommandEffect (s : State) : State → Prop
  | stood : CommandEffect s s
  | transactionOver : CommandEffect s { s with host.ignoreTransaction := false }
  | answered (code : Byte) (status : Status) (body : List Byte) : CommandEffect s (respond code status body s)
  | profileLoaded (body : List Byte) : CommandEffect s (loadProfileRequest body s)
  | opened (body : List Byte) : CommandEffect s (openRequest body s)
  | amended (body : List Byte) : CommandEffect s (amendRequest body s)
  | closed (body : List Byte) : CommandEffect s (closeRequest body s)
  | outletRead (body : List Byte) : CommandEffect s (readOutletRequest body s)
  | eventsRead (body : List Byte) : CommandEffect s (readEventsRequest body s)
  | faultCleared : CommandEffect s (clearFaultRequest s)
  | maskSet (body : List Byte) : CommandEffect s (setMaskRequest body s)
  | reset (straps : Straps) (held : List ResetCause) (ignore : Bool) : CommandEffect s (.afterReset straps held ignore s.pending)
  | leadingEdge (bit : Nat) : CommandEffect s { s with line := leadEdge bit s.line }
  | trailingEdge (samples : Nat) (boundaryFirst : Bool) : CommandEffect s (trailEdge samples boundaryFirst s)
  | lineFree : CommandEffect s (reachFree s)
  | startPulseEnd : CommandEffect s (endStartPulse s)
  | hushDriveEnd : CommandEffect s (endHush s)
  | holdOffExpiry : CommandEffect s (expireHoldOff s)
  | lineStuck : CommandEffect s (goStuck s)
  | pulseEcho : CommandEffect s (echoPulse s)
  | bitRead (first second third : Bool) : CommandEffect s (readBit first second third s)
  | frameEnd : CommandEffect s (endFrame s)
  | timerExpiry : CommandEffect s (expireTimer s)
  | fullWindow (feederFirst : Bool) : CommandEffect s (endFullWindow feederFirst s)
  | minuteTick : CommandEffect s (minuteTick s)
  | charge (outlet charge : Nat) : CommandEffect s (takeCharge outlet charge s)
  | summaryAged : CommandEffect s (ageSummary s)
  | pwmPeriod : CommandEffect s (startPwmPeriod s)
  | feederSample (code : Nat) : CommandEffect s { s with feeder := takeSample code s.feeder }

/-! An event taken under a condition is that event or none. -/

theorem onLine_effect {event : State → State} {s : State} (effect : CommandEffect s (event s)) :
    CommandEffect s (onLine event s) := by
  rcases onLine_cases event s with ⟨-, h⟩ | ⟨-, h⟩ <;> rw [h]
  · exact .stood
  · exact effect

theorem whenRunning_effect {event : State → State} {s : State} (effect : CommandEffect s (event s)) :
    CommandEffect s (whenRunning event s) := by
  rcases whenRunning_cases event s with ⟨-, h⟩ | ⟨-, h⟩ <;> rw [h]
  · exact .stood
  · exact effect

theorem onlyWhere_effect (outcome : State → State → Bool) {event : State → State} {s : State}
    (effect : CommandEffect s (event s)) : CommandEffect s (onlyWhere outcome event s) := by
  rcases onlyWhere_cases outcome event s with ⟨-, h⟩ | ⟨-, h⟩ <;> rw [h]
  · exact .stood
  · exact effect

theorem ite_effect (taken : Bool) {s t : State} (effect : CommandEffect s t) : CommandEffect s (if taken then t else s) := by
  cases taken
  · exact .stood
  · exact effect

theorem takeRequest_effect (code : Byte) (lengthOk : Nat → Bool) {act : List Byte → State → State} (shifted : List Byte) {s : State}
    (effect : ∀ body, CommandEffect s (act body s)) : CommandEffect s (takeRequest code lengthOk act shifted s) := by
  rcases takeRequest_cases code lengthOk act shifted s with ⟨-, h⟩ | ⟨-, -, h⟩ | ⟨-, -, h⟩ | ⟨-, body, -, -, h⟩ <;> rw [h]
  · exact .stood
  · exact .transactionOver
  · exact .answered _ _ _
  · exact effect body

theorem takeNothing_effect (s : State) : CommandEffect s (takeNothing s) := whenRunning_effect .transactionOver

theorem takeReset_effect (cause : ResetCause) (s : State) : CommandEffect s (takeReset cause s) := .reset _ _ _

theorem releaseReset_effect (cause : ResetCause) (straps : Straps) (csLow : Bool) (s : State) :
    CommandEffect s (releaseReset cause straps csLow s) := by
  rcases releaseReset_cases cause straps csLow s with ⟨-, h⟩ | ⟨-, -, h⟩ | ⟨-, held, -, -, h⟩ <;> rw [h]
  · exact .stood
  · exact .reset _ _ _
  · exact .reset _ _ _

theorem missedEvent_effect (cause : MissedBy) (s : State) : CommandEffect s (missedEvent cause s) := by
  cases cause with
  | timerExpiry => exact whenRunning_effect .timerExpiry
  | runEnd samples boundaryFirst => exact onLine_effect (.trailingEdge samples boundaryFirst)
  | pulseEcho => exact onLine_effect .pulseEcho
  | bitRead first second third => exact onLine_effect (.bitRead first second third)
  | lineStuck => exact onLine_effect .lineStuck

theorem overdueEvent_effect (cause : OverdueBy) (s : State) : CommandEffect s (overdueEvent cause s) := by
  cases cause with
  | minuteTick => exact whenRunning_effect .minuteTick
  | opening shifted => dsimp only [overdueEvent]; exact takeRequest_effect _ _ shifted .opened
  | amending shifted => dsimp only [overdueEvent]; exact takeRequest_effect _ _ shifted .amended

/-- Every command answers with a next state, which is the state found or that of one event. -/
theorem exec_effect (c : Instr) (s : State) : ∃ t, exec c s = .next t ∧ CommandEffect s t :=
  match c with
  | .loadProfile shifted => ⟨_, rfl, takeRequest_effect _ _ shifted .profileLoaded⟩
  | .openSession shifted => ⟨_, rfl, takeRequest_effect _ _ shifted .opened⟩
  | .amendSession shifted => ⟨_, rfl, takeRequest_effect _ _ shifted .amended⟩
  | .closeSession shifted => ⟨_, rfl, takeRequest_effect _ _ shifted .closed⟩
  | .readOutlet shifted => ⟨_, rfl, takeRequest_effect _ _ shifted .outletRead⟩
  | .readCensus shifted => ⟨_, rfl, takeRequest_effect _ _ shifted fun _ => .answered _ _ _⟩
  | .readRoster shifted => ⟨_, rfl, takeRequest_effect _ _ shifted fun _ => .answered _ _ _⟩
  | .readStatus shifted => ⟨_, rfl, takeRequest_effect _ _ shifted fun _ => .answered _ _ _⟩
  | .readFault shifted => ⟨_, rfl, takeRequest_effect _ _ shifted fun _ => .answered _ _ _⟩
  | .readEvents shifted => ⟨_, rfl, takeRequest_effect _ _ shifted .eventsRead⟩
  | .clearFault shifted => ⟨_, rfl, takeRequest_effect _ _ shifted fun _ => .faultCleared⟩
  | .setMask shifted => ⟨_, rfl, takeRequest_effect _ _ shifted .maskSet⟩
  | .restart shifted => ⟨_, rfl, takeRequest_effect _ _ shifted fun _ => takeReset_effect .restart s⟩
  | .unknownRequest code shifted =>
    ⟨_, rfl, by split_ifs; exacts [.stood, .stood, .transactionOver, .answered _ _ _]⟩
  | .nullTransaction [] => ⟨_, rfl, takeNothing_effect s⟩
  | .nullTransaction (code :: rest) => ⟨_, rfl, by dsimp only; split_ifs; exacts [takeNothing_effect s, .stood]⟩
  | .powerOnReset => ⟨_, rfl, takeReset_effect .powerOn s⟩
  | .resetNLow => ⟨_, rfl, takeReset_effect .resetPin s⟩
  | .supplyLowReset => ⟨_, rfl, takeReset_effect .supplyLow s⟩
  | .resetRelease cause _ _ _ csLow => ⟨_, rfl, releaseReset_effect cause _ csLow s⟩
  | .leadingEdge bit => ⟨_, rfl, onLine_effect (.leadingEdge bit)⟩
  | .trailingEdge samples boundaryFirst => ⟨_, rfl, onLine_effect (.trailingEdge samples boundaryFirst)⟩
  | .lineFree => ⟨_, rfl, onLine_effect .lineFree⟩
  | .startPulseEnd => ⟨_, rfl, onLine_effect .startPulseEnd⟩
  | .hushDriveEnd => ⟨_, rfl, onLine_effect .hushDriveEnd⟩
  | .hushHoldOffExpiry => ⟨_, rfl, onLine_effect .holdOffExpiry⟩
  | .lineStuck => ⟨_, rfl, onLine_effect .lineStuck⟩
  | .echoFault first second third => ⟨_, rfl, onLine_effect (ite_effect _ (.bitRead first second third))⟩
  | .echoFaultPulse => ⟨_, rfl, onLine_effect .pulseEcho⟩
  | .settleFault first second third => ⟨_, rfl, onLine_effect (ite_effect _ (.bitRead first second third))⟩
  | .frameEnd => ⟨_, rfl, onLine_effect .frameEnd⟩
  | .seatClashFault _ => ⟨_, rfl, onLine_effect (onlyWhere_effect _ .frameEnd)⟩
  | .censusTimerExpiry => ⟨_, rfl, whenRunning_effect .timerExpiry⟩
  | .islanded cause => ⟨_, rfl, onlyWhere_effect _ (missedEvent_effect cause s)⟩
  | .fullWindowEnd feederFirst => ⟨_, rfl, whenRunning_effect (.fullWindow feederFirst)⟩
  | .overload feederFirst => ⟨_, rfl, whenRunning_effect (ite_effect _ (.fullWindow feederFirst))⟩
  | .trip feederFirst => ⟨_, rfl, whenRunning_effect (ite_effect _ (.fullWindow feederFirst))⟩
  | .senseLost feederFirst => ⟨_, rfl, whenRunning_effect (onlyWhere_effect _ (.fullWindow feederFirst))⟩
  | .senseBack feederFirst => ⟨_, rfl, whenRunning_effect (onlyWhere_effect _ (.fullWindow feederFirst))⟩
  | .overdraw _ feederFirst => ⟨_, rfl, whenRunning_effect (onlyWhere_effect _ (.fullWindow feederFirst))⟩
  | .stall _ feederFirst => ⟨_, rfl, whenRunning_effect (onlyWhere_effect _ (.fullWindow feederFirst))⟩
  | .unstall _ feederFirst => ⟨_, rfl, whenRunning_effect (onlyWhere_effect _ (.fullWindow feederFirst))⟩
  | .release _ feederFirst => ⟨_, rfl, whenRunning_effect (onlyWhere_effect _ (.fullWindow feederFirst))⟩
  | .minuteTick => ⟨_, rfl, whenRunning_effect .minuteTick⟩
  | .overdue _ cause => ⟨_, rfl, onlyWhere_effect _ (overdueEvent_effect cause s)⟩
  | .drawQuantum outlet charge => ⟨_, rfl, whenRunning_effect (.charge outlet charge)⟩
  | .ampMinuteCompletion outlet charge => ⟨_, rfl, whenRunning_effect (ite_effect _ (.charge outlet charge))⟩
  | .summaryAgeTick => ⟨_, rfl, whenRunning_effect .summaryAged⟩
  | .pwmPeriodStart => ⟨_, rfl, whenRunning_effect .pwmPeriod⟩
  | .frameBitRead first second third => ⟨_, rfl, onLine_effect (.bitRead first second third)⟩
  | .feederSample code => ⟨_, rfl, whenRunning_effect (ite_effect _ (.feederSample code.toNat))⟩

end Sys2Proof.Machine
end

section
/-! PROOFS. The law of borrow (R133, obligation O37). It is a law of each outlet's record under one bar of the whole part: not JOINED, sense
LOST or curtailing. A record without borrow is lawful under every bar, so an event that sets the bar zeroes every B; the other events keep
each record lawful under the bar that stands. -/

namespace Sys2Proof.Machine

/-- The part as a whole may not borrow: it is not JOINED, its sense is LOST, or the curtail count is above 0 (R133). -/
def BorrowBarred (s : State) : Prop :=
  s.census.participation ≠ .joined ∨ s.feeder.sense = .lost ∨ 0 < s.shares.curtail

/-- The law of one outlet's borrow, where borrow may be barred at the part (R133). -/
def OutletBorrowLaw (barred : Prop) (o : Outlet) : Prop :=
  o.share.b ≤ o.session.vanMax - o.share.g ∧ (barred ∨ inPair o.session.state = false → o.share.b = 0)

theorem borrowLaw_iff (s : State) : BorrowLaw s ↔ ∀ o ∈ s.outlets, OutletBorrowLaw (BorrowBarred s) o := by
  simp only [BorrowLaw, OutletBorrowLaw, BorrowBarred, or_imp, and_assoc]

/-! One outlet's record. -/

section
variable {barred : Prop} {o : Outlet}

/-- A record without borrow is lawful whatever bars borrow. -/
theorem OutletBorrowLaw.of_zero (zero : o.share.b = 0) : OutletBorrowLaw barred o :=
  ⟨zero ▸ Nat.zero_le _, fun _ => zero⟩

theorem OutletBorrowLaw.relax {barred' : Prop} (weaker : barred' → barred) (law : OutletBorrowLaw barred o) :
    OutletBorrowLaw barred' o :=
  ⟨law.1, fun h => law.2 (h.imp_left weaker)⟩

/-- The law reads B, G, Cmax and whether the session is PAUSED or CHARGING, and nothing more. -/
theorem OutletBorrowLaw.of_same (law : OutletBorrowLaw barred o) {o' : Outlet} (b : o'.share.b = o.share.b)
    (g : o'.share.g = o.share.g) (vanMax : o'.session.vanMax = o.session.vanMax)
    (pair : inPair o'.session.state = inPair o.session.state) : OutletBorrowLaw barred o' := by
  rwa [OutletBorrowLaw, b, g, vanMax, pair]

/-- A clamped borrow is within its bound; it is 0 wherever the borrow before the clamp is (R133). -/
theorem clampBorrow_lawful {b : Nat} (zero : barred ∨ inPair o.session.state = false → b = 0) :
    OutletBorrowLaw barred { o with share.b := clampBorrow o b } := by
  refine ⟨min_le_right _ _, fun h => ?_⟩
  show clampBorrow o b = 0
  rw [zero h, clampBorrow, Nat.zero_min]

theorem halveBorrow_lawful (law : OutletBorrowLaw barred o) : OutletBorrowLaw barred (halveBorrow o) :=
  clampBorrow_lawful fun h => by rw [law.2 h]

/-- A session that leaves PAUSED and CHARGING drops its borrow, and one in another state had none (R107). -/
theorem dropShares_b (law : OutletBorrowLaw barred o) : (dropShares o).share.b = 0 := by
  unfold dropShares
  split
  case isTrue => rfl
  case isFalse outside => exact law.2 (.inr (Bool.eq_false_iff.mpr outside))

theorem topOutlet_lawful (law : OutletBorrowLaw barred o) : OutletBorrowLaw barred (topOutlet o) := .of_zero (dropShares_b law)

theorem faultOutlet_lawful (kind : SessionFault) (law : OutletBorrowLaw barred o) : OutletBorrowLaw barred (faultOutlet kind o) :=
  .of_zero (dropShares_b law)

theorem stallOutlet_lawful (law : OutletBorrowLaw barred o) : OutletBorrowLaw barred (stallOutlet o) := .of_zero (dropShares_b law)

/-- A session that enters PAUSED or CHARGING with the borrow it has: whatever it was before, the bar of the part alone binds it now. -/
theorem OutletBorrowLaw.enterPair (law : OutletBorrowLaw barred o) {o' : Outlet} (b : o'.share.b = o.share.b)
    (g : o'.share.g = o.share.g) (vanMax : o'.session.vanMax = o.session.vanMax) (pair : inPair o'.session.state = true) :
    OutletBorrowLaw barred o' := by
  rw [OutletBorrowLaw, b, g, vanMax, pair]
  exact ⟨law.1, fun h => law.2 (h.imp_right fun h => absurd h (by decide))⟩

theorem unstallOutlet_lawful (law : OutletBorrowLaw barred o) : OutletBorrowLaw barred (unstallOutlet o) :=
  law.enterPair rfl rfl rfl rfl

theorem repauseOutlet_lawful (law : OutletBorrowLaw barred o) : OutletBorrowLaw barred (repauseOutlet o) :=
  law.enterPair rfl rfl rfl rfl

/-- AMEND changes Cmax, and clamps B to it before the state is settled (R13, R133). -/
theorem amendOutlet_lawful (p : Profile) (need departure vanMax : Nat) (law : OutletBorrowLaw barred o) :
    OutletBorrowLaw barred (amendOutlet p need departure vanMax o) := by
  have clamped : OutletBorrowLaw barred
      (reclampBorrow { o with session := amendedSession p need departure vanMax o.session }) :=
    clampBorrow_lawful (o := { o with session := amendedSession p need departure vanMax o.session }) law.2
  dsimp only [amendOutlet]
  split
  · split_ifs
    exacts [topOutlet_lawful clamped, clamped]
  · split_ifs
    exacts [topOutlet_lawful clamped, clamped]
  · split_ifs
    exacts [clamped, repauseOutlet_lawful clamped]
  · split_ifs
    exacts [topOutlet_lawful clamped, repauseOutlet_lawful clamped]
  · exact clamped
  · exact clamped

/-- A VACANT outlet has no borrow, so the session opened on it starts without any (R10, R133). -/
theorem openOutlet_lawful (r : Session) (free : o.session.state = .vacant) (law : OutletBorrowLaw barred o) :
    OutletBorrowLaw barred (openOutlet r o) :=
  .of_zero (law.2 (.inr (by rw [free]; rfl)))

/-- A recomputation changes the target, the offer and which of PAUSED and CHARGING the session is in (R141, R142). -/
theorem giveTarget_lawful (mayRaise : Bool) (t : Nat) (law : OutletBorrowLaw barred o) :
    OutletBorrowLaw barred (giveTarget mayRaise o t) :=
  law.of_same (by simp) (by simp) (by rw [giveTarget_session]) (giveTarget_inPair o mayRaise t)

theorem rampOutlet_inPair (p : Profile) (o : Outlet) : inPair (rampOutlet p o).session.state = inPair o.session.state := by
  unfold rampOutlet
  split_ifs with _ starts
  · rfl
  · simp only [startsCharging, Bool.and_eq_true, beq_iff_eq] at starts
    obtain ⟨⟨paused, -⟩, -⟩ := starts
    rw [paused]; rfl
  · rfl

theorem rampOutlet_vanMax (p : Profile) (o : Outlet) : (rampOutlet p o).session.vanMax = o.session.vanMax := by
  unfold rampOutlet; split_ifs <;> rfl

theorem rampOutlet_lawful (p : Profile) (law : OutletBorrowLaw barred o) : OutletBorrowLaw barred (rampOutlet p o) :=
  law.of_same (by rw [rampOutlet_share]) (by rw [rampOutlet_share]) (rampOutlet_vanMax p o) (rampOutlet_inPair p o)

theorem snapshotSession_state (theta : Nat) (r : Session) : (snapshotSession theta r).state = r.state := by
  unfold snapshotSession; split_ifs <;> rfl

theorem snapshotSession_vanMax (theta : Nat) (r : Session) : (snapshotSession theta r).vanMax = r.vanMax := by
  unfold snapshotSession; split_ifs <;> rfl

theorem snapshotSession_lawful (theta : Nat) (law : OutletBorrowLaw barred o) :
    OutletBorrowLaw barred { o with session := snapshotSession theta o.session } :=
  law.of_same rfl rfl (snapshotSession_vanMax theta o.session) (congrArg inPair (snapshotSession_state theta o.session))

theorem completeSession_state (r : Session) : (completeSession r).state = r.state := by
  unfold completeSession countDelivered; split <;> rfl

theorem completeSession_vanMax (r : Session) : (completeSession r).vanMax = r.vanMax := by
  unfold completeSession countDelivered; split <;> rfl

theorem completeSession_lawful (law : OutletBorrowLaw barred o) :
    OutletBorrowLaw barred { o with session := completeSession o.session } :=
  law.of_same rfl rfl (completeSession_vanMax o.session) (congrArg inPair (completeSession_state o.session))

theorem tickRecord_lawful (law : OutletBorrowLaw barred o) : OutletBorrowLaw barred (tickRecord o) := by
  rw [tickRecord_eq]
  split
  · exact law
  · exact law

end

/-! The operations on the part's outlets. -/

section
variable {s : State}

/-- The law goes over to a state with the same outlets in which borrow is barred only where it was. -/
theorem BorrowLaw.relax {t : State} (law : BorrowLaw s) (outlets : t.outlets = s.outlets)
    (weaker : BorrowBarred t → BorrowBarred s) : BorrowLaw t := by
  rw [borrowLaw_iff] at law ⊢
  rw [outlets]
  exact fun o mem => (law o mem).relax weaker

/-- A part without any borrow is lawful whatever bars it. -/
theorem borrowLaw_of_zero (zero : ∀ o ∈ s.outlets, o.share.b = 0) : BorrowLaw s :=
  (borrowLaw_iff s).mpr fun o mem => .of_zero (zero o mem)

theorem mapOutlets_keepsBorrow {f : Outlet → Outlet} (keep : ∀ {barred o}, OutletBorrowLaw barred o → OutletBorrowLaw barred (f o))
    (law : BorrowLaw s) : BorrowLaw (mapOutlets f s) := by
  rw [borrowLaw_iff] at law ⊢
  intro o' mem
  obtain ⟨o, stood, rfl⟩ := List.mem_map.mp mem
  exact keep (law o stood)

/-- A change of one outlet's record keeps the law where it does so at the record that stands there. -/
theorem modifyOutlet_keepsBorrow_at {n : Nat} {o : Outlet} (found : s.outlets[n]? = some o) {f : Outlet → Outlet}
    (keep : ∀ {barred}, OutletBorrowLaw barred o → OutletBorrowLaw barred (f o)) (law : BorrowLaw s) :
    BorrowLaw (modifyOutlet n f s) := by
  rw [borrowLaw_iff] at law ⊢
  intro o' mem
  obtain ⟨m, after⟩ := List.mem_iff_getElem?.mp mem
  rw [modifyOutlet_getElem?] at after
  split at after
  case isTrue here =>
    subst here
    rw [found] at after
    obtain rfl := Option.some.inj after
    exact keep (law o (List.mem_of_getElem? found))
  case isFalse => exact law o' (List.mem_of_getElem? after)

theorem modifyOutlet_keepsBorrow (n : Nat) {f : Outlet → Outlet}
    (keep : ∀ {barred o}, OutletBorrowLaw barred o → OutletBorrowLaw barred (f o)) (law : BorrowLaw s) :
    BorrowLaw (modifyOutlet n f s) := by
  cases found : s.outlets[n]? with
  | none =>
    refine law.relax ?_ id
    rw [modifyOutlet_outlets, List.modify_eq_self (List.getElem?_eq_none_iff.mp found)]
  | some o => exact modifyOutlet_keepsBorrow_at found keep law

theorem recompute_keepsBorrow (mayRaise : Bool) (law : BorrowLaw s) : BorrowLaw (recompute mayRaise s) := by
  cases loaded : s.host.profile with
  | none => rwa [recompute_of_none mayRaise loaded]
  | some p =>
    rw [recompute_of_profile mayRaise loaded]
    rw [borrowLaw_iff] at law ⊢
    intro o' mem
    obtain ⟨m, found⟩ := List.mem_iff_getElem?.mp mem
    obtain ⟨o, stood, rfl⟩ := Option.map_eq_some_iff.mp ((retarget_getElem? _ _ _ _ _ m).symm.trans found)
    exact giveTarget_lawful mayRaise _ (law o (List.mem_of_getElem? stood))

theorem raise_keepsBorrow (e : Event) (law : BorrowLaw s) : BorrowLaw (raise e s) := law

theorem raiseIf_keepsBorrow (cond : Bool) (e : Event) (law : BorrowLaw s) : BorrowLaw (raiseIf cond e s) := by
  cases cond
  · exact law
  · exact raise_keepsBorrow e law

theorem capture_keepsBorrow (kind : FaultKind) (outlet : Option Nat) (value : Nat) (law : BorrowLaw s) :
    BorrowLaw (capture kind outlet value s) := by
  rcases capture_cases kind outlet value s with ⟨-, h⟩ | ⟨-, h⟩ <;> rw [h] <;> exact law

theorem serve_keepsBorrow (law : BorrowLaw s) : BorrowLaw (serve s) := law.relax (by simp) (by simp [BorrowBarred])

theorem snapshot_keepsBorrow (law : BorrowLaw s) : BorrowLaw (snapshot s) := by
  unfold snapshot
  split
  · exact law
  · exact mapOutlets_keepsBorrow (snapshotSession_lawful _) law

theorem snapshotAtExpiry_keepsBorrow (law : BorrowLaw s) : BorrowLaw (snapshotAtExpiry s) := by
  unfold snapshotAtExpiry
  split
  · exact snapshot_keepsBorrow law
  · exact law

/-! The orders on borrow and the entry into ISLANDED: zeroing leaves a lawful part, whatever bar the event sets. -/

theorem zeroBorrow_borrowLaw (s : State) : BorrowLaw (mapOutlets zeroBorrow s) :=
  borrowLaw_of_zero fun o mem => by
    obtain ⟨_, -, rfl⟩ := List.mem_map.mp mem
    rfl

theorem takeZero_borrowLaw (s : State) : BorrowLaw (takeOrder .zero s) := recompute_keepsBorrow false (zeroBorrow_borrowLaw s)

theorem takeZeroAndCurtail_borrowLaw (s : State) : BorrowLaw (takeOrder .zeroAndCurtail s) :=
  recompute_keepsBorrow false <| borrowLaw_of_zero fun o mem => by
    obtain ⟨_, -, rfl⟩ := List.mem_map.mp mem
    rfl

theorem takeHalve_keepsBorrow (law : BorrowLaw s) : BorrowLaw (takeOrder .halve s) :=
  recompute_keepsBorrow false (mapOutlets_keepsBorrow halveBorrow_lawful law)

theorem enterIslanded_borrowLaw (s : State) : BorrowLaw (enterIslanded s) := recompute_keepsBorrow true (zeroBorrow_borrowLaw _)

/-! Changes of one session. -/

theorem enterTopped_keepsBorrow (n : Nat) (law : BorrowLaw s) : BorrowLaw (enterTopped n s) :=
  recompute_keepsBorrow false (modifyOutlet_keepsBorrow n topOutlet_lawful law)

theorem enterFaulted_keepsBorrow (n : Nat) (kind : SessionFault) (law : BorrowLaw s) : BorrowLaw (enterFaulted n kind s) :=
  recompute_keepsBorrow false (modifyOutlet_keepsBorrow n (faultOutlet_lawful kind) law)

theorem enterStalled_keepsBorrow (n : Nat) (law : BorrowLaw s) : BorrowLaw (enterStalled n s) :=
  recompute_keepsBorrow false (modifyOutlet_keepsBorrow n stallOutlet_lawful law)

theorem leaveStalled_keepsBorrow (n : Nat) (law : BorrowLaw s) : BorrowLaw (leaveStalled n s) :=
  recompute_keepsBorrow false (modifyOutlet_keepsBorrow n unstallOutlet_lawful law)

theorem takeCompletion_keepsBorrow (n : Nat) (law : BorrowLaw s) : BorrowLaw (takeCompletion n s) := by
  have completed := modifyOutlet_keepsBorrow n completeSession_lawful law
  unfold takeCompletion
  split
  · exact law
  · split
    · exact enterTopped_keepsBorrow n completed
    · exact completed

theorem takeCharge_keepsBorrow (n charge : Nat) (law : BorrowLaw s) : BorrowLaw (takeCharge n charge s) := by
  have metered {f : Outlet → Meter} : BorrowLaw (modifyOutlet n (fun o => { o with meter := f o }) s) :=
    modifyOutlet_keepsBorrow n id law
  unfold takeCharge
  split
  · exact law
  · split_ifs
    · exact takeCompletion_keepsBorrow n metered
    · exact metered
    · exact metered

theorem minuteTick_keepsBorrow (law : BorrowLaw s) : BorrowLaw (minuteTick s) := by
  have ticked : BorrowLaw (mapOutlets tickRecord s) := mapOutlets_keepsBorrow tickRecord_lawful law
  rw [minuteTick_frame s, minuteTick_outlets]
  exact ticked

/-! The window ends at the outlets. -/

/-- A change of an outlet's supervision record alone. -/
theorem supervise_keepsBorrow (n : Nat) (f : Outlet → Supervision) (law : BorrowLaw s) :
    BorrowLaw (modifyOutlet n (fun o => { o with supervision := f o }) s) :=
  modifyOutlet_keepsBorrow n id law

theorem judgeOverdraw_keepsBorrow (n : Nat) (law : BorrowLaw s) : BorrowLaw (judgeOverdraw n s) := by
  rcases judgeOverdraw_cases n s with h | ⟨c, -, h⟩ | ⟨o, -, -, -, h⟩ <;> rw [h]
  · exact law
  · exact supervise_keepsBorrow n _ law
  · exact capture_keepsBorrow _ _ _ (enterFaulted_keepsBorrow n .overdraw law)

theorem judgeStall_keepsBorrow (n : Nat) (o : Outlet) (law : BorrowLaw s) : BorrowLaw (judgeStall n o s) := by
  unfold judgeStall
  split_ifs
  · exact enterStalled_keepsBorrow n law
  · exact supervise_keepsBorrow n _ law
  · exact supervise_keepsBorrow n _ law

theorem judgeUnstall_keepsBorrow (n : Nat) (o : Outlet) (law : BorrowLaw s) : BorrowLaw (judgeUnstall n o s) := by
  unfold judgeUnstall
  split_ifs
  · exact leaveStalled_keepsBorrow n law
  · exact supervise_keepsBorrow n _ law
  · exact supervise_keepsBorrow n _ law

theorem judgeResponse_keepsBorrow (n : Nat) (law : BorrowLaw s) : BorrowLaw (judgeResponse n s) := by
  rcases judgeResponse_cases n s with h | ⟨o, -, -, h⟩ | ⟨o, -, -, h⟩ <;> rw [h]
  · exact law
  · exact judgeStall_keepsBorrow n o law
  · exact judgeUnstall_keepsBorrow n o law

theorem judgeRelease_keepsBorrow (n : Nat) (found : SessionState) (law : BorrowLaw s) : BorrowLaw (judgeRelease n found s) := by
  unfold judgeRelease
  split
  · exact law
  · split_ifs
    · exact capture_keepsBorrow _ _ _ (supervise_keepsBorrow n _ law)
    · exact supervise_keepsBorrow n _ law
    · exact supervise_keepsBorrow n _ law
    · exact law

theorem ramp_keepsBorrow (n : Nat) (law : BorrowLaw s) : BorrowLaw (ramp n s) := by
  unfold ramp
  split
  case h_1 p o _ _ =>
    have ramped := modifyOutlet_keepsBorrow n (rampOutlet_lawful p) law
    split_ifs
    · exact recompute_keepsBorrow false ramped
    · exact ramped
  case h_2 => exact law

theorem superviseOutlet_keepsBorrow (n : Nat) (law : BorrowLaw s) : BorrowLaw (superviseOutlet n s) :=
  have history : BorrowLaw (modifyOutlet n enterHistory s) := modifyOutlet_keepsBorrow n id law
  ramp_keepsBorrow n
    (judgeRelease_keepsBorrow n _ (judgeResponse_keepsBorrow n (judgeOverdraw_keepsBorrow n history)))

theorem outletsFullWindow_keepsBorrow (law : BorrowLaw s) : BorrowLaw (outletsFullWindow s) :=
  forOutlets_keeps BorrowLaw superviseOutlet (fun n _ => superviseOutlet_keepsBorrow n) _ _
    (mapOutlets_keepsBorrow (f := meterFullWindow) id law)

theorem cutWindow_keepsBorrow (law : BorrowLaw s) : BorrowLaw (cutWindow s) :=
  forOutlets_keeps BorrowLaw ramp (fun n _ => ramp_keepsBorrow n) _ _
    (mapOutlets_keepsBorrow (s := feederCutWindow s) (f := meterCutWindow) id law)

/-! The Feeder Watch. -/

theorem judgeLimits_keepsBorrow (p : Profile) (f : Nat) (law : BorrowLaw s) : BorrowLaw (judgeLimits p f s) := by
  have counted (overs trip : Nat) : BorrowLaw
      (noteOverload p f s.feeder.overCount { s with feeder.overCount := overs, feeder.tripCount := trip }) :=
    raiseIf_keepsBorrow _ _ law
  dsimp only [judgeLimits]
  split_ifs
  · exact takeZeroAndCurtail_borrowLaw _
  · exact takeHalve_keepsBorrow (counted _ _)
  · exact counted _ _

theorem loseSense_borrowLaw (sum : Nat) (s : State) : BorrowLaw (loseSense sum s) :=
  capture_keepsBorrow _ _ _ (raise_keepsBorrow .senseLost (takeZero_borrowLaw _))

/-- With the sense back, one bar less stands. -/
theorem regainSense_keepsBorrow (law : BorrowLaw s) : BorrowLaw (regainSense s) :=
  law.relax rfl fun barred => by
    rcases barred with part | lost | curtail
    · exact .inl part
    · exact absurd lost (by simp [regainSense])
    · exact .inr (.inr curtail)

theorem judgeReading_keepsBorrow (p : Profile) (r : Reading) (law : BorrowLaw s) : BorrowLaw (judgeReading p r s) := by
  unfold judgeReading
  split
  · exact judgeLimits_keepsBorrow p _ law
  · split_ifs
    · exact loseSense_borrowLaw _ s
    · exact law
  · split_ifs
    · exact regainSense_keepsBorrow law
    · exact law
  · exact law

theorem feederFullWindow_keepsBorrow (law : BorrowLaw s) : BorrowLaw (feederFullWindow s) := by
  unfold feederFullWindow
  split
  · exact law
  · split_ifs
    · exact law
    · exact judgeReading_keepsBorrow (s := { s with feeder := recordReading _ _ s.feeder }) _ _ law

theorem endFullWindow_keepsBorrow (feederFirst : Bool) (law : BorrowLaw s) : BorrowLaw (endFullWindow feederFirst s) := by
  cases feederFirst
  · exact serve_keepsBorrow (feederFullWindow_keepsBorrow (outletsFullWindow_keepsBorrow law) :)
  · exact serve_keepsBorrow (outletsFullWindow_keepsBorrow (feederFullWindow_keepsBorrow law) :)

theorem hearHush_keepsBorrow (law : BorrowLaw s) : BorrowLaw (hearHush s) := by
  unfold hearHush
  split_ifs
  · exact raise_keepsBorrow .hush (takeZeroAndCurtail_borrowLaw _)
  · exact law

theorem handHush_keepsBorrow (r : Run) (law : BorrowLaw s) : BorrowLaw (handHush r s) := by
  unfold handHush
  split_ifs
  · exact law
  · exact hearHush_keepsBorrow law

/-! The census rhythm and the share line. -/

theorem countMissed_keepsBorrow (law : BorrowLaw s) : BorrowLaw (countMissed s) := by
  unfold countMissed; split_ifs <;> exact law

theorem missPeriod_keepsBorrow (law : BorrowLaw s) : BorrowLaw (missPeriod s) := by
  rcases missPeriod_cases s with ⟨-, h⟩ | ⟨-, h⟩ <;> rw [h]
  · exact countMissed_keepsBorrow law
  · exact enterIslanded_borrowLaw _

theorem missPeriodAtExpiry_keepsBorrow (law : BorrowLaw s) : BorrowLaw (missPeriodAtExpiry s) := by
  unfold missPeriodAtExpiry
  split_ifs
  · exact enterIslanded_borrowLaw _
  · exact countMissed_keepsBorrow law

theorem refreshFallback_keepsBorrow (law : BorrowLaw s) : BorrowLaw (refreshFallback s) := by
  unfold refreshFallback
  split_ifs
  · exact recompute_keepsBorrow true (snapshotAtExpiry_keepsBorrow law)
  · exact law

theorem expireTimer_keepsBorrow (law : BorrowLaw s) : BorrowLaw (expireTimer s) := by
  have placed : BorrowLaw (placeStartRequest { s with census.timerMs := 2000 }) := law
  dsimp only [expireTimer]
  split_ifs
  · exact refreshFallback_keepsBorrow (serve_keepsBorrow placed)
  · exact refreshFallback_keepsBorrow (countMissed_keepsBorrow placed)
  · exact missPeriodAtExpiry_keepsBorrow placed
  · exact law

theorem abandon_keepsBorrow (law : BorrowLaw s) : BorrowLaw (abandon s) := by
  rcases abandon_cases s with ⟨-, h⟩ | ⟨-, h⟩ <;> rw [h]
  · exact law
  · exact missPeriod_keepsBorrow law

theorem prepareFrame_keepsBorrow (law : BorrowLaw s) : BorrowLaw (prepareFrame s) := by
  have taken := snapshot_keepsBorrow law
  dsimp only [prepareFrame]
  split_ifs
  · exact recompute_keepsBorrow true taken
  · exact taken
  · exact law

theorem frameZero_keepsBorrow (boundaryFirst : Bool) (law : BorrowLaw s) : BorrowLaw (frameZero boundaryFirst s) := by
  dsimp only [frameZero]
  split_ifs
  · exact prepareFrame_keepsBorrow (cutWindow_keepsBorrow law)
  · exact cutWindow_keepsBorrow (prepareFrame_keepsBorrow law)

theorem handBit_keepsBorrow (k : Nat) (v drove : Bool) (law : BorrowLaw s) : BorrowLaw (handBit k v drove s) := by
  unfold handBit
  split
  · exact law
  · split_ifs
    · exact abandon_keepsBorrow law
    · exact law

theorem readBit_keepsBorrow (a b c : Bool) (law : BorrowLaw s) : BorrowLaw (readBit a b c s) := by
  unfold readBit
  split_ifs
  · exact capture_keepsBorrow _ _ _ (abandon_keepsBorrow law)
  · exact handBit_keepsBorrow _ _ _ law
  · exact law

theorem reportAttempt_keepsBorrow (droveStart : Bool) (law : BorrowLaw s) : BorrowLaw (reportAttempt droveStart s) := by
  cases droveStart
  · exact law
  · exact missPeriod_keepsBorrow law

theorem goStuck_keepsBorrow (law : BorrowLaw s) : BorrowLaw (goStuck s) := by
  rcases goStuck_cases s with ⟨h, -⟩ | ⟨r, -, -, h⟩ <;> rw [h]
  · exact law
  · exact capture_keepsBorrow _ _ _ (abandon_keepsBorrow law)

theorem endFrameRun_keepsBorrow (samples : Nat) (law : BorrowLaw s) : BorrowLaw (endFrameRun samples s) := by
  rcases endFrameRun_cases samples s with ⟨-, h⟩ | ⟨-, h⟩ <;> rw [h]
  · exact law
  · exact goStuck_keepsBorrow law

theorem endPulse_keepsBorrow (r : Run) (samples : Nat) (boundaryFirst : Bool) (law : BorrowLaw s) :
    BorrowLaw (endPulse r samples boundaryFirst s) := by
  have settled : BorrowLaw { s with line := settleLine s.line } := law
  unfold endPulse
  split
  case isTrue =>
    cases classOf (runLength samples) with
    | start => exact frameZero_keepsBorrow boundaryFirst law
    | hush => exact reportAttempt_keepsBorrow _ (handHush_keepsBorrow r settled)
    | glitch => exact reportAttempt_keepsBorrow _ settled
    | malformed => exact reportAttempt_keepsBorrow _ settled
    | stuck => exact goStuck_keepsBorrow law
  case isFalse =>
    cases classOf (runLength samples) with
    | stuck => exact goStuck_keepsBorrow law
    | start => exact settled
    | hush => exact settled
    | glitch => exact settled
    | malformed => exact settled

theorem trailEdge_keepsBorrow (samples : Nat) (boundaryFirst : Bool) (law : BorrowLaw s) :
    BorrowLaw (trailEdge samples boundaryFirst s) := by
  unfold trailEdge
  split
  · exact law
  · split
    · exact endFrameRun_keepsBorrow samples law
    · exact law
    · exact endPulse_keepsBorrow _ samples boundaryFirst law
    · exact endPulse_keepsBorrow _ samples boundaryFirst law
    · exact endPulse_keepsBorrow _ samples boundaryFirst law

theorem reachFree_keepsBorrow (law : BorrowLaw s) : BorrowLaw (reachFree s) := by
  unfold reachFree
  split
  · exact law
  · split
    · exact serve_keepsBorrow law
    · exact serve_keepsBorrow law
    · exact law
    · exact law
    · exact law

theorem endStartPulse_keepsBorrow (law : BorrowLaw s) : BorrowLaw (endStartPulse s) := by
  unfold endStartPulse
  split_ifs
  · exact serve_keepsBorrow law
  · exact law

theorem endHush_keepsBorrow (law : BorrowLaw s) : BorrowLaw (endHush s) := by
  unfold endHush
  split_ifs
  · exact serve_keepsBorrow law
  · exact law

theorem expireHoldOff_keepsBorrow (law : BorrowLaw s) : BorrowLaw (expireHoldOff s) := by
  unfold expireHoldOff
  split_ifs
  · exact law
  · exact serve_keepsBorrow law

theorem echoPulse_keepsBorrow (law : BorrowLaw s) : BorrowLaw (echoPulse s) := by
  unfold echoPulse
  split
  · exact law
  · exact serve_keepsBorrow (reportAttempt_keepsBorrow _ (capture_keepsBorrow _ _ _ law))
  · exact serve_keepsBorrow (capture_keepsBorrow _ _ _ law)

theorem ageSummary_keepsBorrow (law : BorrowLaw s) : BorrowLaw (ageSummary s) := by
  unfold ageSummary
  split
  · exact law
  · exact law

/-! The completion of a valid census. -/

theorem faultClash_keepsBorrow (f : Frame) (n : Nat) (law : BorrowLaw s) : BorrowLaw (faultClash f n s) := by
  have faulted (value : Nat) : BorrowLaw (capture .seatClash (some n) value (enterFaulted n .seatClash s)) :=
    capture_keepsBorrow _ _ _ (enterFaulted_keepsBorrow n .seatClash law)
  unfold faultClash
  split
  · exact law
  · split_ifs
    · split
      · exact law
      · exact law
      · exact faulted _
      · exact faulted _
      · exact faulted _
      · exact faulted _
    · exact law

theorem countClashes_keepsBorrow (f : Frame) (law : BorrowLaw s) : BorrowLaw (countClashes f s) := by
  rw [borrowLaw_iff] at law ⊢
  intro o' mem
  obtain ⟨⟨o, n⟩, stood, rfl⟩ := List.mem_map.mp mem
  exact law o (List.fst_mem_of_mem_zipIdx stood)

theorem examineClashes_keepsBorrow (f : Frame) (law : BorrowLaw s) : BorrowLaw (examineClashes f s) :=
  forOutlets_keeps BorrowLaw (faultClash f) (fun n _ => faultClash_keepsBorrow f n) _ _
    (countClashes_keepsBorrow f (raiseIf_keepsBorrow _ .clash law))

/-- A part that joins lifts the bar of its participation (R68). -/
theorem join_keepsBorrow (law : BorrowLaw s) : BorrowLaw (join s) :=
  raiseIf_keepsBorrow _ .rejoined (law.relax rfl (Or.imp_left (absurd rfl)))

theorem join_participation (s : State) : (join s).census.participation = .joined := by simp [join]

theorem completeCensus_keepsBorrow (f : Frame) (law : BorrowLaw s) : BorrowLaw (completeCensus f s) :=
  join_keepsBorrow (examineClashes_keepsBorrow f law)

/-- The new B before the clamp is 0 while the sense is LOST, while the curtail count stands, and outside PAUSED and CHARGING (R130). -/
theorem nextBorrow_eq_zero (p : Profile) {curtail : Nat} {sense : Sense} (demanding : Nat) (peak : Option Nat) {o : Outlet}
    (h : (sense = .lost ∨ 0 < curtail) ∨ inPair o.session.state = false) :
    nextBorrow p curtail sense demanding peak o = 0 := by
  unfold nextBorrow
  rcases h with (lost | curtailed) | outside
  · simp [lost]
  · simp [curtailed]
  · simp [outside]

/-- What a completion makes of one outlet's record: G from the water-fill, and then B from R130's table. -/
theorem updateBorrow_writeShare_lawful (p : Profile) {curtail : Nat} {sense : Sense} (demanding : Nat) (peak : Option Nat)
    (w : WaterFill) (r : Roster) (seat : Nat) {barred : Prop} {o : Outlet} (law : OutletBorrowLaw barred o) :
    OutletBorrowLaw (sense = .lost ∨ 0 < curtail)
      (updateBorrow p curtail sense demanding peak { o with share := writeShare p w r seat o.session.state o.share }) := by
  unfold updateBorrow
  split
  case isTrue vacant =>
    have vacant : o.session.state = .vacant := vacant
    refine .of_zero ?_
    rw [writeShare, if_pos vacant]
    exact law.2 (.inr (by rw [vacant]; rfl))
  case isFalse => exact clampBorrow_lawful (nextBorrow_eq_zero p demanding peak)

/-- The borrow update looks at the sense and the curtail count but not at the participation, which a completion has made JOINED (R68, R130). -/
theorem shareCompletion_keepsBorrow (joined : s.census.participation = .joined) (law : BorrowLaw s) :
    BorrowLaw (shareCompletion s) := by
  unfold shareCompletion
  split
  case h_1 => exact law
  case h_2 p _ =>
    refine recompute_keepsBorrow true ?_
    rw [borrowLaw_iff] at law ⊢
    have weaker : BorrowBarred (updateBorrows p (writeShares p s)) → s.feeder.sense = .lost ∨ 0 < s.shares.curtail := by
      rintro (part | lost | curtail)
      · exact absurd joined part
      · exact .inl lost
      · exact .inr (Nat.lt_of_lt_of_le curtail (Nat.sub_le _ 1))
    intro o' mem
    obtain ⟨_, written, rfl⟩ := List.mem_map.mp mem
    obtain ⟨⟨o, n⟩, stood, rfl⟩ := List.mem_map.mp written
    exact (updateBorrow_writeShare_lawful p _ _ _ _ _ (law o (List.fst_mem_of_mem_zipIdx stood))).relax weaker

theorem complete_keepsBorrow (f : Frame) (law : BorrowLaw s) : BorrowLaw (complete f s) :=
  shareCompletion_keepsBorrow (s := { completeCensus f s with roster := updateRoster _ _ _ }) (join_participation _)
    (completeCensus_keepsBorrow f law)

theorem endFrame_keepsBorrow (law : BorrowLaw s) : BorrowLaw (endFrame s) := by
  unfold endFrame
  split_ifs
  · split
    · exact complete_keepsBorrow _ law
    · exact law
  · exact law

/-! The requests. -/

/-- A part without a profile is OFFLINE and holds no borrow, so the profile finds none when it makes the part LISTENING (R66, R133). -/
theorem loadProfileRequest_keepsBorrow (body : List Byte) (participation : ParticipationLaw s) (law : BorrowLaw s) :
    BorrowLaw (loadProfileRequest body s) := by
  unfold loadProfileRequest
  split_ifs with _ loaded
  · exact law
  · exact law
  · exact law
  · obtain ⟨offline_iff, -⟩ := participation
    have offline : s.census.participation = .offline := offline_iff.mpr (by simpa using loaded)
    have barred : BorrowBarred s := .inl (by simp [offline])
    have zero : ∀ o ∈ s.outlets, o.share.b = 0 := fun o mem => ((borrowLaw_iff s).mp law o mem).2 (.inl barred)
    exact recompute_keepsBorrow false (borrowLaw_of_zero zero)

theorem openRequest_keepsBorrow (body : List Byte) (law : BorrowLaw s) : BorrowLaw (openRequest body s) := by
  unfold openRequest
  split
  · exact law
  · split
    · exact law
    · rename_i o found
      split_ifs with taken
      · exact law
      · have free : o.session.state = .vacant := by
          simp only [outletIsFree, Bool.not_eq_true', Bool.not_eq_false, Bool.and_eq_true, beq_iff_eq] at taken
          exact taken.1
        exact recompute_keepsBorrow false
          (raiseIf_keepsBorrow _ _ (modifyOutlet_keepsBorrow_at found (openOutlet_lawful _ free) law))

theorem amendRequest_keepsBorrow (body : List Byte) (law : BorrowLaw s) : BorrowLaw (amendRequest body s) := by
  unfold amendRequest
  split
  · exact law
  · rename_i o found
    split_ifs
    · exact law
    · exact law
    · split
      · exact law
      · exact recompute_keepsBorrow false
          (raiseIf_keepsBorrow _ _ (raiseIf_keepsBorrow _ _
            (modifyOutlet_keepsBorrow_at found (amendOutlet_lawful _ _ _ _) law)))

theorem closeRequest_keepsBorrow (body : List Byte) (law : BorrowLaw s) : BorrowLaw (closeRequest body s) := by
  unfold closeRequest
  split
  · exact law
  · exact recompute_keepsBorrow false (modifyOutlet_keepsBorrow _ (fun _ => .of_zero rfl) law)

theorem readOutletRequest_keepsBorrow (body : List Byte) (law : BorrowLaw s) : BorrowLaw (readOutletRequest body s) := by
  unfold readOutletRequest
  split
  · exact law
  · exact law

theorem afterReset_borrowLaw (straps : Straps) (held : List ResetCause) (ignore : Bool) (pending : List Instr) :
    BorrowLaw (.afterReset straps held ignore pending) :=
  borrowLaw_of_zero fun o mem => by rw [List.eq_of_mem_replicate mem]; rfl

/-- Every effect that a command can have keeps the law; the law of participation is for LOAD PROFILE alone. -/
theorem CommandEffect.keepsBorrow {t : State} (effect : CommandEffect s t) (participation : ParticipationLaw s) (law : BorrowLaw s) :
    BorrowLaw t := by
  cases effect with
  | stood => exact law
  | transactionOver => exact law
  | answered code status body => exact law
  | profileLoaded body => exact loadProfileRequest_keepsBorrow body participation law
  | opened body => exact openRequest_keepsBorrow body law
  | amended body => exact amendRequest_keepsBorrow body law
  | closed body => exact closeRequest_keepsBorrow body law
  | outletRead body => exact readOutletRequest_keepsBorrow body law
  | eventsRead body => exact law
  | faultCleared => exact law
  | maskSet body => exact law
  | reset straps held ignore => exact afterReset_borrowLaw straps held ignore _
  | leadingEdge bit => exact law
  | trailingEdge samples boundaryFirst => exact trailEdge_keepsBorrow samples boundaryFirst law
  | lineFree => exact reachFree_keepsBorrow law
  | startPulseEnd => exact endStartPulse_keepsBorrow law
  | hushDriveEnd => exact endHush_keepsBorrow law
  | holdOffExpiry => exact expireHoldOff_keepsBorrow law
  | lineStuck => exact goStuck_keepsBorrow law
  | pulseEcho => exact echoPulse_keepsBorrow law
  | bitRead first second third => exact readBit_keepsBorrow first second third law
  | frameEnd => exact endFrame_keepsBorrow law
  | timerExpiry => exact expireTimer_keepsBorrow law
  | fullWindow feederFirst => exact endFullWindow_keepsBorrow feederFirst law
  | minuteTick => exact minuteTick_keepsBorrow law
  | charge outlet charge => exact takeCharge_keepsBorrow outlet charge law
  | summaryAged => exact ageSummary_keepsBorrow law
  | pwmPeriod => exact mapOutlets_keepsBorrow id law
  | feederSample code =>
    refine law.relax rfl ?_
    unfold takeSample
    split_ifs <;> exact id

end

/-- Settles O37: a command has one of the effects of `CommandEffect`, and each keeps the law of borrow. -/
theorem borrowLawIsKept : Obligations.BorrowLawIsKept := by
  intro c s t participation law step
  obtain ⟨t', answer, effect⟩ := exec_effect c s
  obtain rfl := Host.Outcome.next.inj (answer.symm.trans step)
  exact effect.keepsBorrow participation law

end Sys2Proof.Machine
end

section
/-! PROOFS. The first-fault record (R171, R172, obligation O19). Since the state an event found, captures alone write the store: a filled
record stands, an empty one stays empty or is filled with a record that names an outlet for the faults of an outlet, and the further-faults
flag is only set. That is a relation between the state found and the state left, kept by each operation of the part. A command that is no
clearing leaves it; a clearing leaves it too or empties the record. -/

namespace Sys2Proof.Machine

/-- A fault record names an outlet where its kind is a fault of one outlet, and no other does (R171). -/
def FaultRecord.Named (r : FaultRecord) : Prop := r.outlet.isSome = faultNamesOutlet r.kind

/-- The fault store since the state found: a record was kept, or captured into an empty store, and a further fault stays noted (R171). -/
def FaultsKept (found s : State) : Prop :=
  (s.host.firstFault = found.host.firstFault ∨
    found.host.firstFault = none ∧ ∃ r, s.host.firstFault = some r ∧ r.Named) ∧
  (found.host.furtherFaults = true → s.host.furtherFaults = true)

theorem FaultsKept.refl (s : State) : FaultsKept s s := ⟨.inl rfl, id⟩

section
variable {found s : State}

theorem FaultsKept.of_host {t : State} (same : t.host = s.host) (kept : FaultsKept found s) : FaultsKept found t := by
  unfold FaultsKept; rw [same]; exact kept

theorem FaultsKept.firstFault {r : FaultRecord} (filled : found.host.firstFault = some r) (kept : FaultsKept found s) :
    s.host.firstFault = some r := by
  obtain ⟨same | ⟨empty, -⟩, -⟩ := kept
  · exact same.trans filled
  · rw [filled] at empty; cases empty

theorem FaultsKept.furtherFaults (noted : found.host.furtherFaults = true) (kept : FaultsKept found s) :
    s.host.furtherFaults = true := kept.2 noted

theorem FaultsKept.named (names : ∀ r, found.host.firstFault = some r → r.Named) (kept : FaultsKept found s) {r : FaultRecord}
    (filled : s.host.firstFault = some r) : r.Named := by
  obtain ⟨same | ⟨-, captured, stands, named⟩, -⟩ := kept
  · exact names r (same.symm.trans filled)
  · obtain rfl := Option.some.inj (stands.symm.trans filled)
    exact named

/-! The shared operations: a capture, an event raised, a recomputation, and a standing request served. -/

theorem capture_of_empty (kind : FaultKind) (outlet : Option Nat) (value : Nat) (empty : s.host.firstFault = none) :
    capture kind outlet value s =
      { s with host.firstFault := some ⟨kind, outlet, s.census.number, s.census.windowIndex, value⟩ } := by
  unfold capture; rw [empty]

theorem capture_of_filled (kind : FaultKind) (outlet : Option Nat) (value : Nat) (filled : s.host.firstFault ≠ none) :
    capture kind outlet value s = { s with host.furtherFaults := true } := by
  obtain ⟨r, stands⟩ := Option.ne_none_iff_exists'.mp filled
  unfold capture; rw [stands]

/-- A capture whose operands name an outlet just where the kind asks for one. -/
theorem capture_keepsFaults {kind : FaultKind} {outlet : Option Nat} (named : outlet.isSome = faultNamesOutlet kind) (value : Nat)
    (kept : FaultsKept found s) : FaultsKept found (capture kind outlet value s) := by
  obtain ⟨record, further⟩ := kept
  by_cases empty : s.host.firstFault = none
  · rw [capture_of_empty _ _ _ empty]
    refine ⟨.inr ⟨?_, _, rfl, named⟩, further⟩
    rcases record with same | ⟨none, -⟩
    · exact same.symm.trans empty
    · exact none
  · rw [capture_of_filled _ _ _ empty]
    exact ⟨record, fun _ => rfl⟩

theorem raiseIf_keepsFaults (cond : Bool) (e : Event) (kept : FaultsKept found s) : FaultsKept found (raiseIf cond e s) := by
  cases cond
  · exact kept
  · exact kept

theorem recompute_keepsFaults (mayRaise : Bool) (kept : FaultsKept found s) : FaultsKept found (recompute mayRaise s) :=
  kept.of_host (recompute_host mayRaise s)

theorem serve_keepsFaults (kept : FaultsKept found s) : FaultsKept found (serve s) := kept.of_host (serve_host s)

theorem takeOrder_keepsFaults (order : BorrowOrder) (kept : FaultsKept found s) : FaultsKept found (takeOrder order s) := by
  cases order with
  | halve => exact recompute_keepsFaults false kept
  | zero => exact recompute_keepsFaults false kept
  | zeroAndCurtail => exact recompute_keepsFaults false kept

/-! Changes of one session. -/

theorem enterTopped_keepsFaults (n : Nat) (kept : FaultsKept found s) : FaultsKept found (enterTopped n s) :=
  recompute_keepsFaults false kept

theorem enterFaulted_keepsFaults (n : Nat) (kind : SessionFault) (kept : FaultsKept found s) :
    FaultsKept found (enterFaulted n kind s) := recompute_keepsFaults false kept

theorem enterStalled_keepsFaults (n : Nat) (kept : FaultsKept found s) : FaultsKept found (enterStalled n s) :=
  recompute_keepsFaults false kept

theorem leaveStalled_keepsFaults (n : Nat) (kept : FaultsKept found s) : FaultsKept found (leaveStalled n s) :=
  recompute_keepsFaults false kept

theorem takeCompletion_keepsFaults (n : Nat) (kept : FaultsKept found s) : FaultsKept found (takeCompletion n s) := by
  unfold takeCompletion
  split
  · exact kept
  · split_ifs
    · exact enterTopped_keepsFaults n kept
    · exact kept

theorem takeCharge_keepsFaults (n charge : Nat) (kept : FaultsKept found s) : FaultsKept found (takeCharge n charge s) := by
  unfold takeCharge
  split
  · exact kept
  · split_ifs
    · exact takeCompletion_keepsFaults n kept
    · exact kept
    · exact kept

theorem minuteTick_keepsFaults (kept : FaultsKept found s) : FaultsKept found (minuteTick s) := by
  rw [minuteTick_frame s]; exact kept

/-! The window ends at the outlets: overdraw and release capture the fault of the outlet they judge (R153, R156). -/

theorem judgeOverdraw_keepsFaults (n : Nat) (kept : FaultsKept found s) : FaultsKept found (judgeOverdraw n s) := by
  rcases judgeOverdraw_cases n s with h | ⟨c, -, h⟩ | ⟨o, -, -, -, h⟩ <;> rw [h]
  · exact kept
  · exact kept
  · exact capture_keepsFaults rfl _ (enterFaulted_keepsFaults n .overdraw kept)

theorem judgeStall_keepsFaults (n : Nat) (o : Outlet) (kept : FaultsKept found s) : FaultsKept found (judgeStall n o s) := by
  unfold judgeStall
  split_ifs
  · exact enterStalled_keepsFaults n kept
  · exact kept
  · exact kept

theorem judgeUnstall_keepsFaults (n : Nat) (o : Outlet) (kept : FaultsKept found s) : FaultsKept found (judgeUnstall n o s) := by
  unfold judgeUnstall
  split_ifs
  · exact leaveStalled_keepsFaults n kept
  · exact kept
  · exact kept

theorem judgeResponse_keepsFaults (n : Nat) (kept : FaultsKept found s) : FaultsKept found (judgeResponse n s) := by
  rcases judgeResponse_cases n s with h | ⟨o, -, -, h⟩ | ⟨o, -, -, h⟩ <;> rw [h]
  · exact kept
  · exact judgeStall_keepsFaults n o kept
  · exact judgeUnstall_keepsFaults n o kept

/-- The two kinds of a release's fault are both faults of the outlet (R156). -/
theorem releaseFault_namesOutlet (state : SessionState) : faultNamesOutlet (releaseFault state) = true := by
  unfold releaseFault; split_ifs <;> rfl

theorem judgeRelease_keepsFaults (n : Nat) (judged : SessionState) (kept : FaultsKept found s) :
    FaultsKept found (judgeRelease n judged s) := by
  unfold judgeRelease
  split
  · exact kept
  · split_ifs
    · exact capture_keepsFaults (outlet := some n) (releaseFault_namesOutlet judged).symm _ kept
    · exact kept
    · exact kept
    · exact kept

theorem ramp_keepsFaults (n : Nat) (kept : FaultsKept found s) : FaultsKept found (ramp n s) := by
  unfold ramp
  split
  · split_ifs
    · exact recompute_keepsFaults false kept
    · exact kept
  · exact kept

theorem superviseOutlet_keepsFaults (n : Nat) (kept : FaultsKept found s) : FaultsKept found (superviseOutlet n s) :=
  ramp_keepsFaults n (judgeRelease_keepsFaults n _ (judgeResponse_keepsFaults n (judgeOverdraw_keepsFaults n kept)))

theorem outletsFullWindow_keepsFaults (kept : FaultsKept found s) : FaultsKept found (outletsFullWindow s) :=
  forOutlets_keeps (FaultsKept found) superviseOutlet (fun n _ => superviseOutlet_keepsFaults n) _ _ kept

theorem cutWindow_keepsFaults (kept : FaultsKept found s) : FaultsKept found (cutWindow s) :=
  forOutlets_keeps (FaultsKept found) ramp (fun n _ => ramp_keepsFaults n) _ _ kept

/-! The Feeder Watch: its faults, TRIP and SENSE_LOST, are the part's and name no outlet (R120, R123). -/

theorem noteTrip_keepsFaults (f trip : Nat) (kept : FaultsKept found s) : FaultsKept found (noteTrip f trip s) := by
  unfold noteTrip
  split_ifs
  · exact kept
  · exact capture_keepsFaults rfl _ kept

theorem judgeLimits_keepsFaults (p : Profile) (f : Nat) (kept : FaultsKept found s) : FaultsKept found (judgeLimits p f s) := by
  have counted (overs trip : Nat) : FaultsKept found
      (noteOverload p f s.feeder.overCount { s with feeder.overCount := overs, feeder.tripCount := trip }) :=
    raiseIf_keepsFaults _ _ kept
  dsimp only [judgeLimits]
  split_ifs
  · exact takeOrder_keepsFaults _ (noteTrip_keepsFaults f _ (counted _ _))
  · exact takeOrder_keepsFaults _ (counted _ _)
  · exact counted _ _

theorem loseSense_keepsFaults (sum : Nat) (kept : FaultsKept found s) : FaultsKept found (loseSense sum s) :=
  capture_keepsFaults rfl sum (takeOrder_keepsFaults .zero kept)

theorem judgeReading_keepsFaults (p : Profile) (r : Reading) (kept : FaultsKept found s) :
    FaultsKept found (judgeReading p r s) := by
  unfold judgeReading
  split
  · exact judgeLimits_keepsFaults p _ kept
  · split_ifs
    · exact loseSense_keepsFaults _ kept
    · exact kept
  · split_ifs
    · exact kept
    · exact kept
  · exact kept

theorem feederFullWindow_keepsFaults (kept : FaultsKept found s) : FaultsKept found (feederFullWindow s) := by
  unfold feederFullWindow
  split
  · exact kept
  · split_ifs
    · exact kept
    · exact judgeReading_keepsFaults (s := { s with feeder := recordReading _ _ s.feeder }) _ _ kept

theorem endFullWindow_keepsFaults (feederFirst : Bool) (kept : FaultsKept found s) :
    FaultsKept found (endFullWindow feederFirst s) := by
  cases feederFirst
  · exact serve_keepsFaults (feederFullWindow_keepsFaults (outletsFullWindow_keepsFaults kept) :)
  · exact serve_keepsFaults (outletsFullWindow_keepsFaults (feederFullWindow_keepsFaults kept) :)

theorem hearHush_keepsFaults (kept : FaultsKept found s) : FaultsKept found (hearHush s) := by
  unfold hearHush
  split_ifs
  · exact takeOrder_keepsFaults .zeroAndCurtail kept
  · exact kept

theorem handHush_keepsFaults (r : Run) (kept : FaultsKept found s) : FaultsKept found (handHush r s) := by
  unfold handHush
  split_ifs
  · exact kept
  · exact hearHush_keepsFaults kept

/-! The census rhythm. -/

theorem countMissed_keepsFaults (kept : FaultsKept found s) : FaultsKept found (countMissed s) :=
  kept.of_host (countMissed_host s)

theorem snapshotAtExpiry_keepsFaults (kept : FaultsKept found s) : FaultsKept found (snapshotAtExpiry s) :=
  kept.of_host (snapshotAtExpiry_host s)

theorem enterIslanded_keepsFaults (kept : FaultsKept found s) : FaultsKept found (enterIslanded s) :=
  recompute_keepsFaults true kept

theorem missPeriod_keepsFaults (kept : FaultsKept found s) : FaultsKept found (missPeriod s) := by
  rcases missPeriod_cases s with ⟨-, h⟩ | ⟨-, h⟩ <;> rw [h]
  · exact countMissed_keepsFaults kept
  · exact enterIslanded_keepsFaults (countMissed_keepsFaults kept)

theorem missPeriodAtExpiry_keepsFaults (kept : FaultsKept found s) : FaultsKept found (missPeriodAtExpiry s) := by
  unfold missPeriodAtExpiry
  split_ifs
  · exact enterIslanded_keepsFaults (snapshotAtExpiry_keepsFaults (countMissed_keepsFaults kept))
  · exact countMissed_keepsFaults kept

theorem refreshFallback_keepsFaults (kept : FaultsKept found s) : FaultsKept found (refreshFallback s) := by
  unfold refreshFallback
  split_ifs
  · exact recompute_keepsFaults true (snapshotAtExpiry_keepsFaults kept)
  · exact kept

theorem expireTimer_keepsFaults (kept : FaultsKept found s) : FaultsKept found (expireTimer s) := by
  have placed : FaultsKept found (placeStartRequest { s with census.timerMs := 2000 }) := kept
  dsimp only [expireTimer]
  split_ifs
  · exact refreshFallback_keepsFaults (serve_keepsFaults placed)
  · exact refreshFallback_keepsFaults (countMissed_keepsFaults placed)
  · exact missPeriodAtExpiry_keepsFaults placed
  · exact kept

theorem abandon_keepsFaults (kept : FaultsKept found s) : FaultsKept found (abandon s) := by
  rcases abandon_cases s with ⟨-, h⟩ | ⟨-, h⟩ <;> rw [h]
  · exact kept
  · exact missPeriod_keepsFaults kept

theorem prepareFrame_keepsFaults (kept : FaultsKept found s) : FaultsKept found (prepareFrame s) := by
  have taken : FaultsKept found (snapshot s) := kept.of_host (snapshot_host s)
  dsimp only [prepareFrame]
  split_ifs
  · exact recompute_keepsFaults true taken
  · exact taken
  · exact kept

theorem frameZero_keepsFaults (boundaryFirst : Bool) (kept : FaultsKept found s) :
    FaultsKept found (frameZero boundaryFirst s) := by
  dsimp only [frameZero]
  split_ifs
  · exact prepareFrame_keepsFaults (cutWindow_keepsFaults kept)
  · exact cutWindow_keepsFaults (prepareFrame_keepsFaults kept)

theorem ageSummary_keepsFaults (kept : FaultsKept found s) : FaultsKept found (ageSummary s) := by
  unfold ageSummary
  split
  · exact kept
  · exact kept

/-! The share line: LINE_STUCK and DRIVER are the part's faults and name no outlet (R44, R56, R57). -/

theorem handBit_keepsFaults (k : Nat) (v drove : Bool) (kept : FaultsKept found s) : FaultsKept found (handBit k v drove s) := by
  unfold handBit
  split
  · exact kept
  · split_ifs
    · exact abandon_keepsFaults kept
    · exact kept

theorem readBit_keepsFaults (a b c : Bool) (kept : FaultsKept found s) : FaultsKept found (readBit a b c s) := by
  unfold readBit
  split_ifs
  · exact capture_keepsFaults rfl _ (abandon_keepsFaults kept)
  · exact handBit_keepsFaults _ _ _ kept
  · exact kept

theorem reportAttempt_keepsFaults (droveStart : Bool) (kept : FaultsKept found s) :
    FaultsKept found (reportAttempt droveStart s) := by
  cases droveStart
  · exact kept
  · exact missPeriod_keepsFaults kept

theorem goStuck_keepsFaults (kept : FaultsKept found s) : FaultsKept found (goStuck s) := by
  rcases goStuck_cases s with ⟨h, -⟩ | ⟨r, -, -, h⟩ <;> rw [h]
  · exact kept
  · exact capture_keepsFaults rfl _ (abandon_keepsFaults kept)

theorem endFrameRun_keepsFaults (samples : Nat) (kept : FaultsKept found s) : FaultsKept found (endFrameRun samples s) := by
  rcases endFrameRun_cases samples s with ⟨-, h⟩ | ⟨-, h⟩ <;> rw [h]
  · exact kept
  · exact goStuck_keepsFaults kept

theorem endPulse_keepsFaults (r : Run) (samples : Nat) (boundaryFirst : Bool) (kept : FaultsKept found s) :
    FaultsKept found (endPulse r samples boundaryFirst s) := by
  have settled : FaultsKept found { s with line := settleLine s.line } := kept
  unfold endPulse
  split
  case isTrue =>
    cases classOf (runLength samples) with
    | start => exact frameZero_keepsFaults boundaryFirst kept
    | hush => exact reportAttempt_keepsFaults _ (handHush_keepsFaults r settled)
    | glitch | malformed => exact reportAttempt_keepsFaults _ settled
    | stuck => exact goStuck_keepsFaults kept
  case isFalse =>
    cases classOf (runLength samples) with
    | stuck => exact goStuck_keepsFaults kept
    | start | hush | glitch | malformed => exact settled

theorem trailEdge_keepsFaults (samples : Nat) (boundaryFirst : Bool) (kept : FaultsKept found s) :
    FaultsKept found (trailEdge samples boundaryFirst s) := by
  unfold trailEdge
  split
  · exact kept
  · split
    · exact endFrameRun_keepsFaults samples kept
    · exact kept
    · exact endPulse_keepsFaults _ samples boundaryFirst kept
    · exact endPulse_keepsFaults _ samples boundaryFirst kept
    · exact endPulse_keepsFaults _ samples boundaryFirst kept

theorem reachFree_keepsFaults (kept : FaultsKept found s) : FaultsKept found (reachFree s) := by
  unfold reachFree
  split
  · exact kept
  · split
    · exact serve_keepsFaults kept
    · exact serve_keepsFaults kept
    · exact kept
    · exact kept
    · exact kept

theorem endStartPulse_keepsFaults (kept : FaultsKept found s) : FaultsKept found (endStartPulse s) := by
  unfold endStartPulse
  split_ifs
  · exact serve_keepsFaults kept
  · exact kept

theorem endHush_keepsFaults (kept : FaultsKept found s) : FaultsKept found (endHush s) := by
  unfold endHush
  split_ifs
  · exact serve_keepsFaults kept
  · exact kept

theorem expireHoldOff_keepsFaults (kept : FaultsKept found s) : FaultsKept found (expireHoldOff s) := by
  unfold expireHoldOff
  split_ifs
  · exact kept
  · exact serve_keepsFaults kept

theorem echoPulse_keepsFaults (kept : FaultsKept found s) : FaultsKept found (echoPulse s) := by
  unfold echoPulse
  split
  · exact kept
  · exact serve_keepsFaults (reportAttempt_keepsFaults _ (capture_keepsFaults rfl _ kept))
  · exact serve_keepsFaults (capture_keepsFaults rfl _ kept)

/-! The completion of a valid census, which captures the clashes of the outlets it faults (R77). -/

theorem faultClash_keepsFaults (f : Frame) (n : Nat) (kept : FaultsKept found s) : FaultsKept found (faultClash f n s) := by
  have faulted (value : Nat) : FaultsKept found (capture .seatClash (some n) value (enterFaulted n .seatClash s)) :=
    capture_keepsFaults rfl value (enterFaulted_keepsFaults n .seatClash kept)
  unfold faultClash
  split
  · exact kept
  · split_ifs
    · split
      · exact kept
      · exact kept
      · exact faulted _
      · exact faulted _
      · exact faulted _
      · exact faulted _
    · exact kept

theorem examineClashes_keepsFaults (f : Frame) (kept : FaultsKept found s) : FaultsKept found (examineClashes f s) :=
  have counted : FaultsKept found (countClashes f (raiseIf (anyClash f s) .clash s)) := raiseIf_keepsFaults _ .clash kept
  forOutlets_keeps (FaultsKept found) (faultClash f) (fun n _ => faultClash_keepsFaults f n) _ _ counted

theorem join_keepsFaults (kept : FaultsKept found s) : FaultsKept found (join s) := raiseIf_keepsFaults _ .rejoined kept

theorem completeCensus_keepsFaults (f : Frame) (kept : FaultsKept found s) : FaultsKept found (completeCensus f s) :=
  join_keepsFaults (examineClashes_keepsFaults f kept)

theorem shareCompletion_keepsFaults (kept : FaultsKept found s) : FaultsKept found (shareCompletion s) := by
  unfold shareCompletion
  split
  · exact kept
  · exact recompute_keepsFaults true kept

theorem complete_keepsFaults (f : Frame) (kept : FaultsKept found s) : FaultsKept found (complete f s) :=
  shareCompletion_keepsFaults (s := { completeCensus f s with roster := updateRoster _ _ _ }) (completeCensus_keepsFaults f kept)

theorem endFrame_keepsFaults (kept : FaultsKept found s) : FaultsKept found (endFrame s) := by
  unfold endFrame
  split_ifs
  · split
    · exact complete_keepsFaults _ kept
    · exact kept
  · exact kept

/-! The requests. -/

theorem storeProfile_keepsFaults (p : Profile) (kept : FaultsKept found s) : FaultsKept found (storeProfile p s) :=
  recompute_keepsFaults false kept

theorem loadProfileRequest_keepsFaults (body : List Byte) (kept : FaultsKept found s) :
    FaultsKept found (loadProfileRequest body s) := by
  unfold loadProfileRequest
  split_ifs
  · exact kept
  · exact kept
  · exact kept
  · exact storeProfile_keepsFaults (profileOf body) kept

theorem openRequest_keepsFaults (body : List Byte) (kept : FaultsKept found s) : FaultsKept found (openRequest body s) := by
  unfold openRequest
  split
  · exact kept
  · split
    · exact kept
    · split_ifs
      · exact kept
      · exact recompute_keepsFaults false (raiseIf_keepsFaults _ _ kept)

theorem amendRequest_keepsFaults (body : List Byte) (kept : FaultsKept found s) : FaultsKept found (amendRequest body s) := by
  unfold amendRequest
  split
  · exact kept
  · split_ifs
    · exact kept
    · exact kept
    · split
      · exact kept
      · exact recompute_keepsFaults false (raiseIf_keepsFaults _ _ (raiseIf_keepsFaults _ _ kept))

theorem closeRequest_keepsFaults (body : List Byte) (kept : FaultsKept found s) : FaultsKept found (closeRequest body s) := by
  unfold closeRequest
  split
  · exact kept
  · exact recompute_keepsFaults false kept

theorem readOutletRequest_keepsFaults (body : List Byte) (kept : FaultsKept found s) :
    FaultsKept found (readOutletRequest body s) := by
  unfold readOutletRequest
  split
  · exact kept
  · exact kept

end

/-! An event taken under a condition is that event or none. -/

section
variable {event : State → State} {s t : State}

theorem onLine_keepsFaults (kept : FaultsKept s (event s)) : FaultsKept s (onLine event s) := by
  rcases onLine_cases event s with ⟨-, h⟩ | ⟨-, h⟩ <;> rw [h]
  · exact .refl s
  · exact kept

theorem whenRunning_keepsFaults (kept : FaultsKept s (event s)) : FaultsKept s (whenRunning event s) := by
  rcases whenRunning_cases event s with ⟨-, h⟩ | ⟨-, h⟩ <;> rw [h]
  · exact .refl s
  · exact kept

theorem onlyWhere_keepsFaults (outcome : State → State → Bool) (kept : FaultsKept s (event s)) :
    FaultsKept s (onlyWhere outcome event s) := by
  rcases onlyWhere_cases outcome event s with ⟨-, h⟩ | ⟨-, h⟩ <;> rw [h]
  · exact .refl s
  · exact kept

theorem ite_keepsFaults (taken : Bool) (kept : FaultsKept s t) : FaultsKept s (if taken then t else s) := by
  cases taken
  · exact .refl s
  · exact kept

end

/-- A request leaves the store as its effect does, and one without effect leaves it as it stood. -/
theorem takeRequest_faults (code : Byte) (lengthOk : Nat → Bool) (act : List Byte → State → State) (shifted : List Byte) (s : State) :
    FaultsKept s (takeRequest code lengthOk act shifted s) ∨ ∃ body, takeRequest code lengthOk act shifted s = act body s := by
  rcases takeRequest_cases code lengthOk act shifted s with ⟨-, h⟩ | ⟨-, -, h⟩ | ⟨-, -, h⟩ | ⟨-, body, -, -, h⟩
  · rw [h]; exact .inl (.refl s)
  · rw [h]; exact .inl (.refl s)
  · rw [h]; exact .inl (.refl s)
  · exact .inr ⟨body, h⟩

theorem takeRequest_keepsFaults (code : Byte) (lengthOk : Nat → Bool) {act : List Byte → State → State} (shifted : List Byte)
    {s : State} (kept : ∀ body, FaultsKept s (act body s)) : FaultsKept s (takeRequest code lengthOk act shifted s) := by
  rcases takeRequest_faults code lengthOk act shifted s with untaken | ⟨body, h⟩
  · exact untaken
  · rw [h]; exact kept body

theorem takeNothing_keepsFaults (s : State) : FaultsKept s (takeNothing s) := whenRunning_keepsFaults (.refl s)

theorem missedEvent_keepsFaults (cause : MissedBy) (s : State) : FaultsKept s (missedEvent cause s) := by
  cases cause with
  | timerExpiry => exact whenRunning_keepsFaults (expireTimer_keepsFaults (.refl s))
  | runEnd samples boundaryFirst => exact onLine_keepsFaults (trailEdge_keepsFaults samples boundaryFirst (.refl s))
  | pulseEcho => exact onLine_keepsFaults (echoPulse_keepsFaults (.refl s))
  | bitRead first second third => exact onLine_keepsFaults (readBit_keepsFaults first second third (.refl s))
  | lineStuck => exact onLine_keepsFaults (goStuck_keepsFaults (.refl s))

theorem overdueEvent_keepsFaults (cause : OverdueBy) (s : State) : FaultsKept s (overdueEvent cause s) := by
  cases cause with
  | minuteTick => exact whenRunning_keepsFaults (minuteTick_keepsFaults (.refl s))
  | opening shifted => exact takeRequest_keepsFaults _ _ shifted fun body => openRequest_keepsFaults body (.refl s)
  | amending shifted => exact takeRequest_keepsFaults _ _ shifted fun body => amendRequest_keepsFaults body (.refl s)

/-- Every command that is no clearing answers with a next state in which the fault store is kept (R171). -/
theorem exec_keepsFaults (c : Instr) (s : State) (keeps : clearsFault c = false) :
    ∃ t, exec c s = .next t ∧ FaultsKept s t := by
  cases c with
  | clearFault | restart | powerOnReset | resetNLow | supplyLowReset | resetRelease => cases keeps
  | loadProfile shifted =>
    exact ⟨_, rfl, takeRequest_keepsFaults _ _ shifted fun body => loadProfileRequest_keepsFaults body (.refl s)⟩
  | openSession shifted =>
    exact ⟨_, rfl, takeRequest_keepsFaults _ _ shifted fun body => openRequest_keepsFaults body (.refl s)⟩
  | amendSession shifted =>
    exact ⟨_, rfl, takeRequest_keepsFaults _ _ shifted fun body => amendRequest_keepsFaults body (.refl s)⟩
  | closeSession shifted =>
    exact ⟨_, rfl, takeRequest_keepsFaults _ _ shifted fun body => closeRequest_keepsFaults body (.refl s)⟩
  | readOutlet shifted =>
    exact ⟨_, rfl, takeRequest_keepsFaults _ _ shifted fun body => readOutletRequest_keepsFaults body (.refl s)⟩
  | readCensus shifted | readRoster shifted | readStatus shifted | readFault shifted | readEvents shifted | setMask shifted =>
    exact ⟨_, rfl, takeRequest_keepsFaults _ _ shifted fun _ => .refl s⟩
  | unknownRequest => exact ⟨_, rfl, by split_ifs <;> exact .refl s⟩
  | nullTransaction bytes =>
    refine ⟨_, rfl, ?_⟩
    cases bytes with
    | nil => exact takeNothing_keepsFaults s
    | cons code rest => dsimp only; split_ifs; exacts [takeNothing_keepsFaults s, .refl s]
  | leadingEdge => exact ⟨_, rfl, onLine_keepsFaults (.refl s)⟩
  | trailingEdge samples boundaryFirst =>
    exact ⟨_, rfl, onLine_keepsFaults (trailEdge_keepsFaults samples boundaryFirst (.refl s))⟩
  | lineFree => exact ⟨_, rfl, onLine_keepsFaults (reachFree_keepsFaults (.refl s))⟩
  | startPulseEnd => exact ⟨_, rfl, onLine_keepsFaults (endStartPulse_keepsFaults (.refl s))⟩
  | hushDriveEnd => exact ⟨_, rfl, onLine_keepsFaults (endHush_keepsFaults (.refl s))⟩
  | hushHoldOffExpiry => exact ⟨_, rfl, onLine_keepsFaults (expireHoldOff_keepsFaults (.refl s))⟩
  | lineStuck => exact ⟨_, rfl, onLine_keepsFaults (goStuck_keepsFaults (.refl s))⟩
  | echoFaultPulse => exact ⟨_, rfl, onLine_keepsFaults (echoPulse_keepsFaults (.refl s))⟩
  | frameBitRead first second third =>
    exact ⟨_, rfl, onLine_keepsFaults (readBit_keepsFaults first second third (.refl s))⟩
  | echoFault first second third | settleFault first second third =>
    exact ⟨_, rfl, onLine_keepsFaults (ite_keepsFaults _ (readBit_keepsFaults first second third (.refl s)))⟩
  | frameEnd => exact ⟨_, rfl, onLine_keepsFaults (endFrame_keepsFaults (.refl s))⟩
  | seatClashFault => exact ⟨_, rfl, onLine_keepsFaults (onlyWhere_keepsFaults _ (endFrame_keepsFaults (.refl s)))⟩
  | censusTimerExpiry => exact ⟨_, rfl, whenRunning_keepsFaults (expireTimer_keepsFaults (.refl s))⟩
  | islanded cause => exact ⟨_, rfl, onlyWhere_keepsFaults _ (missedEvent_keepsFaults cause s)⟩
  | fullWindowEnd feederFirst => exact ⟨_, rfl, whenRunning_keepsFaults (endFullWindow_keepsFaults feederFirst (.refl s))⟩
  | overload feederFirst | trip feederFirst =>
    exact ⟨_, rfl, whenRunning_keepsFaults (ite_keepsFaults _ (endFullWindow_keepsFaults feederFirst (.refl s)))⟩
  | senseLost feederFirst | senseBack feederFirst | overdraw _ feederFirst | stall _ feederFirst | unstall _ feederFirst
  | release _ feederFirst =>
    exact ⟨_, rfl, whenRunning_keepsFaults (onlyWhere_keepsFaults _ (endFullWindow_keepsFaults feederFirst (.refl s)))⟩
  | minuteTick => exact ⟨_, rfl, whenRunning_keepsFaults (minuteTick_keepsFaults (.refl s))⟩
  | overdue _ cause => exact ⟨_, rfl, onlyWhere_keepsFaults _ (overdueEvent_keepsFaults cause s)⟩
  | drawQuantum outlet charge => exact ⟨_, rfl, whenRunning_keepsFaults (takeCharge_keepsFaults outlet charge (.refl s))⟩
  | ampMinuteCompletion outlet charge =>
    exact ⟨_, rfl, whenRunning_keepsFaults (ite_keepsFaults _ (takeCharge_keepsFaults outlet charge (.refl s)))⟩
  | summaryAgeTick => exact ⟨_, rfl, whenRunning_keepsFaults (ageSummary_keepsFaults (.refl s))⟩
  | pwmPeriodStart => exact ⟨_, rfl, whenRunning_keepsFaults (.refl s)⟩
  | feederSample => exact ⟨_, rfl, whenRunning_keepsFaults (ite_keepsFaults _ (.refl s))⟩

/-- A request whose effect empties the record empties it, or has no effect. -/
theorem takeRequest_empties (code : Byte) (lengthOk : Nat → Bool) {act : List Byte → State → State} (shifted : List Byte) {s : State}
    (empties : ∀ body, (act body s).host.firstFault = none) :
    FaultsKept s (takeRequest code lengthOk act shifted s) ∨
      (takeRequest code lengthOk act shifted s).host.firstFault = none := by
  refine (takeRequest_faults code lengthOk act shifted s).imp_right ?_
  rintro ⟨body, h⟩
  rw [h]; exact empties body

theorem releaseReset_faults (cause : ResetCause) (straps : Straps) (csLow : Bool) (s : State) :
    FaultsKept s (releaseReset cause straps csLow s) ∨ (releaseReset cause straps csLow s).host.firstFault = none := by
  rcases releaseReset_cases cause straps csLow s with ⟨-, h⟩ | ⟨-, -, h⟩ | ⟨-, held, -, -, h⟩ <;> rw [h]
  · exact .inl (.refl s)
  · exact .inr rfl
  · exact .inr rfl

/-- CLEAR FAULT and the commands of reset empty the record where they act (R172, R173, R174). -/
theorem exec_clearing (c : Instr) (s : State) (clears : clearsFault c = true) :
    ∃ t, exec c s = .next t ∧ (FaultsKept s t ∨ t.host.firstFault = none) := by
  cases c with
  | clearFault shifted => exact ⟨_, rfl, takeRequest_empties _ _ shifted fun _ => rfl⟩
  | restart shifted => exact ⟨_, rfl, takeRequest_empties _ _ shifted fun _ => rfl⟩
  | powerOnReset | resetNLow | supplyLowReset => exact ⟨_, rfl, .inr rfl⟩
  | resetRelease cause _ _ _ csLow => exact ⟨_, rfl, releaseReset_faults cause _ csLow s⟩
  | _ => cases clears

/-- The record names an outlet just for the faults of one outlet after every command: it is kept, captured so, or emptied. -/
theorem exec_keepsFaultNamed (c : Instr) {s t : State} (names : ∀ r, s.host.firstFault = some r → r.Named)
    (step : exec c s = .next t) {r : FaultRecord} (filled : t.host.firstFault = some r) : r.Named := by
  have left : FaultsKept s t ∨ t.host.firstFault = none := by
    cases kind : clearsFault c with
    | false =>
      obtain ⟨t', answer, kept⟩ := exec_keepsFaults c s kind
      obtain rfl := Host.Outcome.next.inj (answer.symm.trans step)
      exact .inl kept
    | true =>
      obtain ⟨t', answer, left⟩ := exec_clearing c s kind
      obtain rfl := Host.Outcome.next.inj (answer.symm.trans step)
      exact left
  rcases left with kept | empty
  · exact kept.named names filled
  · rw [filled] at empty; cases empty

/-- CLEAR FAULT taken empties the record and the flag, and answers DONE (R172). -/
theorem exec_clearFault {s : State} {shifted : List Byte} (accepting : Accepting s) (body : requestBody shifted = some []) :
    exec (.clearFault shifted) s =
      .next { s with host.firstFault := none, host.furtherFaults := false, host.response := ⟨0x40#8, .done, []⟩ } :=
  congrArg Host.Outcome.next (takeRequest_of_accepting accepting body rfl)

/-- Settles O19: the record is written by captures alone, which leave a filled one, until a clearing empties it. -/
theorem firstFaultIsKept : Obligations.FirstFaultIsKept := by
  refine ⟨fun _ _ _ _ => capture_of_empty _ _ _, fun _ _ _ _ => capture_of_filled _ _ _, fun _ _ => exec_clearFault, ?_, ?_⟩
  · intro c s t r filled keeps step
    obtain ⟨t', answer, kept⟩ := exec_keepsFaults c s keeps
    obtain rfl := Host.Outcome.next.inj (answer.symm.trans step)
    exact ⟨kept.firstFault filled, fun noted => kept.furtherFaults noted⟩
  · intro c s t names step r filled
    exact exec_keepsFaultNamed c names step filled

end Sys2Proof.Machine
end

section
/-! PROOFS. The event set, the attention mask and `attn_n` (R169, R170, obligation O18). -/

namespace Sys2Proof.Machine

/-- A set of flags spelled in four bytes is read back whole (R169, R175). -/
theorem flagsOf_fourBytes (flags : EventSet) : flagsOf (fourBytes flags.toNat) = flags := by
  apply BitVec.eq_of_toNat_eq
  have := flags.isLt
  simp only [flagsOf, fourBytes, wordAt, byteAt, byteOf, List.getD_cons_zero, List.getD_cons_succ, BitVec.toNat_ofNat, Nat.reduceAdd]
  omega

section
variable {s : State} {shifted : List Byte} {flags : EventSet}

/-- READ EVENTS taken answers the set as it stood and clears the flags that its body names (R169). -/
theorem exec_readEvents (accepting : Accepting s) (body : requestBody shifted = some (fourBytes flags.toNat)) :
    exec (.readEvents shifted) s =
      .next { s with
        host.events := s.host.events &&& ~~~flags
        host.response := ⟨0x35#8, .done, fourBytes s.host.events.toNat⟩ } :=
  calc exec (.readEvents shifted) s
    _ = .next (readEventsRequest (fourBytes flags.toNat) s) :=
      congrArg Host.Outcome.next (takeRequest_of_accepting accepting body rfl)
    _ = _ := by rw [readEventsRequest, flagsOf_fourBytes]; rfl

/-- SET MASK taken replaces the mask, with bit 31 stored as 0 (R169). -/
theorem exec_setMask (accepting : Accepting s) (body : requestBody shifted = some (fourBytes flags.toNat)) :
    exec (.setMask shifted) s =
      .next { s with host.mask := flags &&& 0x7FFFFFFF#32, host.response := ⟨0x41#8, .done, []⟩ } :=
  calc exec (.setMask shifted) s
    _ = .next (setMaskRequest (fourBytes flags.toNat) s) :=
      congrArg Host.Outcome.next (takeRequest_of_accepting accepting body rfl)
    _ = _ := by rw [setMaskRequest, flagsOf_fourBytes]; rfl

end

/-- Two sets meet where some flag is in both. -/
theorem eventSet_and_ne_zero_iff (a b : EventSet) :
    a &&& b ≠ 0#32 ↔ ∃ i < 32, a.getLsbD i = true ∧ b.getLsbD i = true := by
  constructor
  · contrapose!
    intro apart
    refine BitVec.eq_of_getLsbD_eq fun i hi => ?_
    simpa using apart i hi
  · rintro ⟨i, -, ha, hb⟩ empty
    have flag : (a &&& b).getLsbD i = true := by rw [BitVec.getLsbD_and, ha, hb]; rfl
    simp [empty] at flag

/-- `attn_n` is low out of reset while a flag is both set and masked (R170). -/
theorem attentionLow_iff (s : State) :
    attentionLow s = true ↔
      s.host.resetHeld = [] ∧ ∃ i < 32, s.host.events.getLsbD i = true ∧ s.host.mask.getLsbD i = true := by
  rw [← eventSet_and_ne_zero_iff]
  simp [attentionLow]

/-- Settles O18: the two requests as they are taken, and the flags that set and mask share. -/
theorem eventsMaskAndAttention : Obligations.EventsMaskAndAttention :=
  ⟨fun _ _ _ accepting body => ⟨exec_readEvents accepting body, exec_setMask accepting body⟩, attentionLow_iff⟩

end Sys2Proof.Machine
end

section
/-! PROOFS. What a command can do to the outlets' records, said once. Each change of one record is one of the named operations of
`RecordOp`; a step of the part changes records so, recomputes the targets, or leaves the outlets alone; and an event is a sequence of such
steps. A law that each operation keeps is then kept by every event. -/

set_option Elab.async false

namespace Sys2Proof.Machine

/-- The kinds of change that a statement may have to tell apart; every other operation is plain. -/
inductive RecordKind
  | plain
  | raised
  | ramped
  | unstalled
  | opened
  | amended
  | closed
  | completed
  | charged (charge : Nat)

/-- What one operation of the part, under a profile or without one, makes of one outlet's record; a recomputation of targets, which looks at
all the records, is a step of its own. -/
inductive RecordOp (profile : Option Profile) (o : Outlet) : RecordKind → Outlet → Prop
  | history : RecordOp profile o .plain (enterHistory o)
  | meterFull : RecordOp profile o .plain (meterFullWindow o)
  | meterCut : RecordOp profile o .plain (meterCutWindow o)
  | faulted (kind : SessionFault) (occupied : o.session.state ≠ .vacant) (sound : o.session.state ≠ .faulted) :
    RecordOp profile o .plain (faultOutlet kind o)
  | stalled (charging : o.session.state = .charging) : RecordOp profile o .plain (stallOutlet o)
  | overdrawCounted (count : Nat) (below : count ≤ 3) : RecordOp profile o .plain { o with supervision.overdrawCount := count }
  | stallCounted (count : Nat) (below : count ≤ 239) : RecordOp profile o .plain { o with supervision.stallCount := count }
  | unstallCounted (count : Nat) (below : count ≤ 3) : RecordOp profile o .plain { o with supervision.unstallCount := count }
  | releaseCounted (count : Nat) (below : count ≤ 7) (deasserted : o.supervision.releaseDriven = false) :
    RecordOp profile o .plain { o with supervision.releaseCount := count }
  | released (idle : o.session.state = .vacant ∨ o.session.state = .faulted) :
    RecordOp profile o .plain { o with supervision.releaseCount := 8, supervision.releaseDriven := true }
  | borrowed (b : Nat) (none : o.share.b = 0 → b = 0) : RecordOp profile o .plain { o with share.b := b }
  | shared (share : Share) (target : share.target = o.share.target) (vacant : o.session.state = .vacant → share = o.share) :
    RecordOp profile o .plain { o with share := share }
  | snapshot (theta : Nat) : RecordOp profile o .plain { o with session := snapshotSession theta o.session }
  | ticked : RecordOp profile o .plain (tickRecord o)
  | duty (duty : Nat) : RecordOp profile o .plain { o with setpointDuty := duty }
  | clashed (count : Nat) : RecordOp profile o .plain { o with clashCount := count }
  | unstalled (stalled : o.session.state = .stalled) : RecordOp profile o .unstalled (unstallOutlet o)
  | ramped (p : Profile) (loaded : profile = some p) : RecordOp profile o .ramped (rampOutlet p o)
  | opened (p : Profile) (number : CensusNumber) (need departure vanMax : Nat) (tag : List Byte) (loaded : profile = some p)
      (vacant : o.session.state = .vacant) (deasserted : o.supervision.releaseDriven = false) (need_le : need ≤ 65535)
      (tag_le : tag.length ≤ 16) :
    RecordOp profile o .opened (openOutlet (openedSession p number need departure vanMax tag) o)
  | amended (p : Profile) (need departure vanMax : Nat) (loaded : profile = some p) (occupied : o.session.state ≠ .vacant)
      (sound : o.session.state ≠ .faulted) (need_le : need ≤ 65535) :
    RecordOp profile o .amended (amendOutlet p need departure vanMax o)
  | closed : RecordOp profile o .closed (closedOutlet o)
  | charged (charge : Nat) (short : reachesQuantum (integrate charge o.meter) = false) :
    RecordOp profile o (.charged charge) { o with meter := integrate charge o.meter }
  | counted (charge : Nat) (reaches : reachesQuantum (integrate charge o.meter) = true) :
    RecordOp profile o (.charged charge) { o with meter := countQuantum (integrate charge o.meter) }
  | completed (more : topsAfter o.session = false) :
    RecordOp profile o .completed { o with session := completeSession o.session }
  | toppedUp (last : topsAfter o.session = true) :
    RecordOp profile o .completed (topOutlet { o with session := completeSession o.session })

/-- What stands until the next reset: the profile once loaded, the pool made from it, and the straps (R98, R162, R165). -/
def standing (s : State) : Option Profile × Option Nat × Straps := (s.host.profile, s.shares.pool, s.host.straps)

/-- One step of an event as the outlets see it, where `allowed` says which kinds of change outlet n can take in it beside the plain ones:
something else changes, a profile is loaded, records change each by an operation, or the targets are recomputed. -/
inductive OutletStep (allowed : Nat → RecordKind → Prop) (s : State) : State → Prop
  | aside {t : State} (outlets : t.outlets = s.outlets) (stands : standing t = standing s) : OutletStep allowed s t
  | loaded {t : State} (p : Profile) (none : s.host.profile = none) (inRange : profileInRange p = true)
      (loaded : t.host.profile = some p) (outlets : t.outlets = s.outlets)
      (straps : t.host.straps = s.host.straps) : OutletStep allowed s t
  | changed {t : State} (stands : standing t = standing s) (length : t.outlets.length = s.outlets.length)
      (each : ∀ n o o', s.outlets[n]? = some o → t.outlets[n]? = some o' →
        o' = o ∨ ∃ kind, (kind = .plain ∨ allowed n kind) ∧ RecordOp s.host.profile o kind o') : OutletStep allowed s t
  | recomputed (mayRaise : Bool) (raises : mayRaise = true → ∀ n, allowed n .raised) : OutletStep allowed s (recompute mayRaise s)

/-- An event as the outlets see it: a sequence of steps. -/
def OutletSteps (allowed : Nat → RecordKind → Prop) : State → State → Prop := Relation.ReflTransGen (OutletStep allowed)

section
variable {allowed : Nat → RecordKind → Prop} {s t u : State}

theorem OutletSteps.refl (s : State) : OutletSteps allowed s s := Relation.ReflTransGen.refl

theorem OutletSteps.trans (first : OutletSteps allowed s t) (second : OutletSteps allowed t u) : OutletSteps allowed s u :=
  Relation.ReflTransGen.trans first second

theorem OutletSteps.mono {more : Nat → RecordKind → Prop} (steps : OutletSteps allowed s t)
    (weaker : ∀ n kind, allowed n kind → more n kind) : OutletSteps more s t := by
  refine Relation.ReflTransGen.mono (fun a b step => ?_) _ _ steps
  cases step with
  | aside outlets stands => exact .aside outlets stands
  | loaded p none inRange loaded outlets straps => exact .loaded p none inRange loaded outlets straps
  | changed stands length each =>
    refine .changed stands length fun n o o' found found' => (each n o o' found found').imp_right ?_
    rintro ⟨kind, ok, op⟩
    exact ⟨kind, ok.imp_right (weaker n kind), op⟩
  | recomputed mayRaise raises => exact .recomputed mayRaise fun h n => weaker n _ (raises h n)

theorem aside_steps (outlets : t.outlets = s.outlets := by rfl) (stands : standing t = standing s := by rfl) :
    OutletSteps allowed s t := .single (.aside outlets stands)

/-- Something else changes after the steps. -/
theorem OutletSteps.andAside (steps : OutletSteps allowed s t) (outlets : u.outlets = t.outlets := by rfl)
    (stands : standing u = standing t := by rfl) : OutletSteps allowed s u := steps.trans (aside_steps outlets stands)

/-- Something else changes before the steps. -/
theorem OutletSteps.afterAside (steps : OutletSteps allowed t u) (outlets : t.outlets = s.outlets := by rfl)
    (stands : standing t = standing s := by rfl) : OutletSteps allowed s u := (aside_steps outlets stands).trans steps

theorem recompute_steps (mayRaise : Bool) (raises : mayRaise = true → ∀ n, allowed n .raised) (s : State) :
    OutletSteps allowed s (recompute mayRaise s) := .single (.recomputed mayRaise raises)

/-- A recomputation that may raise no target. -/
theorem lower_steps (s : State) : OutletSteps allowed s (recompute false s) := recompute_steps false (fun h => nomatch h) s

theorem OutletSteps.lower (steps : OutletSteps allowed s t) : OutletSteps allowed s (recompute false t) := steps.trans (lower_steps t)

theorem OutletSteps.raise (e : Event) (steps : OutletSteps allowed s t) : OutletSteps allowed s (raise e t) :=
  steps.andAside

theorem OutletSteps.capture (kind : FaultKind) (outlet : Option Nat) (value : Nat) (steps : OutletSteps allowed s t) :
    OutletSteps allowed s (capture kind outlet value t) :=
  steps.andAside (by rw [capture_outlets]) (by simp [standing])

theorem OutletSteps.serve (steps : OutletSteps allowed s t) : OutletSteps allowed s (serve t) :=
  steps.andAside (serve_outlets t) (by simp [standing])

theorem OutletSteps.length (steps : OutletSteps allowed s t) : t.outlets.length = s.outlets.length := by
  induction steps with
  | refl => rfl
  | tail _ step ih =>
    cases step with
    | aside outlets => rw [outlets, ih]
    | loaded p _ _ _ outlets => rw [outlets, ih]
    | changed _ length => rw [length, ih]
    | recomputed mayRaise => rw [recompute_outlets_length, ih]

theorem modifyOutlet_steps {n : Nat} {f : Outlet → Outlet}
    (op : ∀ o, s.outlets[n]? = some o → ∃ kind, (kind = .plain ∨ allowed n kind) ∧ RecordOp s.host.profile o kind (f o)) :
    OutletSteps allowed s (modifyOutlet n f s) := by
  refine .single (.changed rfl (modifyOutlet_length n f s) fun m o o' found found' => ?_)
  rw [modifyOutlet_getElem?, found] at found'
  split at found'
  case isTrue here =>
    subst here
    obtain rfl := Option.some.inj found'
    exact .inr (op o found)
  case isFalse => exact .inl (Option.some.inj found').symm

theorem modifyOutlet_plainSteps {n : Nat} {f : Outlet → Outlet}
    (op : ∀ o, s.outlets[n]? = some o → RecordOp s.host.profile o .plain (f o)) : OutletSteps allowed s (modifyOutlet n f s) :=
  modifyOutlet_steps fun o found => ⟨.plain, .inl rfl, op o found⟩

/-- Every record changes by a plain operation, whatever else changes beside the profile. -/
theorem plainSteps (stands : standing t = standing s) (length : t.outlets.length = s.outlets.length)
    (op : ∀ (n : Nat) (o o' : Outlet), s.outlets[n]? = some o → t.outlets[n]? = some o' → RecordOp s.host.profile o .plain o') :
    OutletSteps allowed s t :=
  .single (.changed stands length fun n o o' found found' => .inr ⟨.plain, .inl rfl, op n o o' found found'⟩)

theorem mapOutlets_plainSteps {f : Outlet → Outlet} (op : ∀ o, RecordOp s.host.profile o .plain (f o)) :
    OutletSteps allowed s (mapOutlets f s) :=
  plainSteps rfl (mapOutlets_length f s) fun n o o' found found' => by
    rw [mapOutlets_getElem?, found] at found'
    obtain rfl := Option.some.inj found'
    exact op o

theorem raiseIf_steps (cond : Bool) (e : Event) (s : State) : OutletSteps allowed s (raiseIf cond e s) :=
  aside_steps (raiseIf_outlets cond e s) (by unfold raiseIf; split <;> rfl)

theorem countMissed_steps (s : State) : OutletSteps allowed s (countMissed s) :=
  aside_steps (countMissed_outlets s) (by simp [standing])

theorem forOutlets_steps {f : Nat → State → State} (turn : ∀ n t, OutletSteps allowed t (f n t)) (count : Nat) (s : State) :
    OutletSteps allowed s (forOutlets count f s) :=
  forOutlets_keeps (OutletSteps allowed s) f (fun n t steps => steps.trans (turn n t)) count s (.refl s)

/-! The orders on borrow, and the changes of one session. -/

theorem zeroBorrow_op (profile : Option Profile) (o : Outlet) : RecordOp profile o .plain (zeroBorrow o) := .borrowed 0 fun _ => rfl

theorem halveBorrow_op (profile : Option Profile) (o : Outlet) : RecordOp profile o .plain (halveBorrow o) :=
  .borrowed _ fun none => by simp [clampBorrow, none]

theorem takeOrder_steps (order : BorrowOrder) (s : State) : OutletSteps allowed s (takeOrder order s) := by
  cases order with
  | halve => exact (mapOutlets_plainSteps (halveBorrow_op _)).lower
  | zero => exact (mapOutlets_plainSteps (zeroBorrow_op _)).lower
  | zeroAndCurtail =>
    have zeroed : OutletSteps allowed s (mapOutlets zeroBorrow s) := mapOutlets_plainSteps (zeroBorrow_op _)
    exact OutletSteps.lower (t := curtailBorrow _) zeroed.andAside

theorem enterFaulted_steps {n : Nat} {o : Outlet} (kind : SessionFault) (found : s.outlets[n]? = some o)
    (occupied : o.session.state ≠ .vacant) (sound : o.session.state ≠ .faulted) :
    OutletSteps allowed s (enterFaulted n kind s) := by
  have fault : OutletSteps allowed s (modifyOutlet n (faultOutlet kind) s) := modifyOutlet_plainSteps fun o' found' => by
    obtain rfl := Option.some.inj (found.symm.trans found')
    exact .faulted kind occupied sound
  exact (fault.raise (.faulted n)).lower

theorem enterStalled_steps {n : Nat} {o : Outlet} (found : s.outlets[n]? = some o) (charging : o.session.state = .charging) :
    OutletSteps allowed s (enterStalled n s) := by
  have stall : OutletSteps allowed s (modifyOutlet n stallOutlet s) := modifyOutlet_plainSteps fun o' found' => by
    obtain rfl := Option.some.inj (found.symm.trans found')
    exact .stalled charging
  exact (stall.raise (.stalled n)).lower

theorem leaveStalled_steps {n : Nat} {o : Outlet} (ok : allowed n .unstalled) (found : s.outlets[n]? = some o)
    (stalled : o.session.state = .stalled) : OutletSteps allowed s (leaveStalled n s) := by
  have leave : OutletSteps allowed s (modifyOutlet n unstallOutlet s) := modifyOutlet_steps fun o' found' => by
    obtain rfl := Option.some.inj (found.symm.trans found')
    exact ⟨.unstalled, .inr ok, .unstalled stalled⟩
  exact leave.lower

/-- A completion for an outlet, and where it takes the last of the need the change of the session with it (R7, R21). -/
theorem takeCompletion_steps {n : Nat} (ok : allowed n .completed) (s : State) : OutletSteps allowed s (takeCompletion n s) := by
  unfold takeCompletion
  split
  case h_1 => exact .refl s
  case h_2 o found =>
    split
    case isTrue last =>
      have both : modifyOutlet n topOutlet (modifyOutlet n (fun o => { o with session := completeSession o.session }) s) =
          modifyOutlet n (fun o => topOutlet { o with session := completeSession o.session }) s := by
        simp only [modifyOutlet, List.modify_modify_eq]; rfl
      have top : OutletSteps allowed s (modifyOutlet n (fun o => topOutlet { o with session := completeSession o.session }) s) :=
        modifyOutlet_steps fun o' found' => by
          obtain rfl := Option.some.inj (found.symm.trans found')
          exact ⟨.completed, .inr ok, .toppedUp last⟩
      rw [enterTopped, both]
      exact (top.raise (.topped n)).lower
    case isFalse more =>
      exact modifyOutlet_steps fun o' found' => by
        obtain rfl := Option.some.inj (found.symm.trans found')
        exact ⟨.completed, .inr ok, .completed (Bool.eq_false_iff.mpr more)⟩

theorem takeCharge_steps {n charge : Nat} (charged : allowed n (.charged charge)) (completed : allowed n .completed) (s : State) :
    OutletSteps allowed s (takeCharge n charge s) := by
  unfold takeCharge
  split
  case h_1 => exact .refl s
  case h_2 o found =>
    have count (reaches : reachesQuantum (integrate charge o.meter) = true) :
        OutletSteps allowed s (modifyOutlet n (fun o => { o with meter := countQuantum (integrate charge o.meter) }) s) :=
      modifyOutlet_steps fun o' found' => by
        obtain rfl := Option.some.inj (found.symm.trans found')
        exact ⟨_, .inr charged, .counted charge reaches⟩
    split_ifs with reaches
    · exact (count reaches).trans (takeCompletion_steps completed _)
    · exact count reaches
    · exact modifyOutlet_steps fun o' found' => by
        obtain rfl := Option.some.inj (found.symm.trans found')
        exact ⟨_, .inr charged, .charged charge (Bool.eq_false_iff.mpr reaches)⟩

theorem minuteTick_steps (s : State) : OutletSteps allowed s (minuteTick s) := by
  have ticked : OutletSteps allowed s (mapOutlets tickRecord s) := mapOutlets_plainSteps fun _ => .ticked
  exact ticked.andAside (minuteTick_outlets s) (by rw [minuteTick_frame s]; rfl)

/-! The window ends at the outlets. -/

theorem judgeOverdraw_steps (n : Nat) (s : State) : OutletSteps allowed s (judgeOverdraw n s) := by
  rcases judgeOverdraw_cases n s with h | ⟨c, below, h⟩ | ⟨o, found, judged, -, h⟩ <;> rw [h]
  · exact .refl s
  · exact modifyOutlet_plainSteps fun _ _ => .overdrawCounted c below
  · refine (enterFaulted_steps .overdraw found ?_ ?_).capture _ _ _ <;> rintro same <;> simp [same, judgedForOverdraw] at judged

theorem judgeStall_steps {n : Nat} {o : Outlet} (found : s.outlets[n]? = some o) (charging : o.session.state = .charging) :
    OutletSteps allowed s (judgeStall n o s) := by
  unfold judgeStall
  split_ifs with _ reached
  · exact enterStalled_steps found charging
  · exact modifyOutlet_plainSteps fun o' found' => by
      obtain rfl := Option.some.inj (found.symm.trans found')
      exact .stallCounted _ (by omega)
  · exact modifyOutlet_plainSteps fun _ _ => .stallCounted 0 (by omega)

theorem judgeUnstall_steps {n : Nat} {o : Outlet} (ok : allowed n .unstalled) (found : s.outlets[n]? = some o)
    (stalled : o.session.state = .stalled) : OutletSteps allowed s (judgeUnstall n o s) := by
  unfold judgeUnstall
  split_ifs with _ reached
  · exact leaveStalled_steps ok found stalled
  · exact modifyOutlet_plainSteps fun o' found' => by
      obtain rfl := Option.some.inj (found.symm.trans found')
      exact .unstallCounted _ (by omega)
  · exact modifyOutlet_plainSteps fun _ _ => .unstallCounted 0 (by omega)

theorem judgeResponse_steps {n : Nat} (ok : allowed n .unstalled) (s : State) : OutletSteps allowed s (judgeResponse n s) := by
  rcases judgeResponse_cases n s with h | ⟨o, found, charging, h⟩ | ⟨o, found, stalled, h⟩ <;> rw [h]
  · exact .refl s
  · exact judgeStall_steps found charging
  · exact judgeUnstall_steps ok found stalled

theorem judgedForRelease_iff (state : SessionState) : judgedForRelease state = true ↔ state = .vacant ∨ state = .faulted := by
  cases state <;> simp [judgedForRelease]

/-- Release is judged by the state found at the start of the window end; the steps before it leave a VACANT or FAULTED session as it is. -/
theorem judgeRelease_steps {n : Nat} {judged : SessionState}
    (stands : ∀ o, s.outlets[n]? = some o → judgedForRelease judged = true → o.session.state = judged) :
    OutletSteps allowed s (judgeRelease n judged s) := by
  unfold judgeRelease
  split
  case h_1 => exact .refl s
  case h_2 o found =>
    split_ifs with isJudged _ reached
    · simp only [Bool.and_eq_true] at isJudged
      have release : OutletSteps allowed s
          (modifyOutlet n (fun o => { o with supervision.releaseCount := 8, supervision.releaseDriven := true }) s) :=
        modifyOutlet_plainSteps fun o' found' =>
          .released (stands o' found' isJudged.1 ▸ (judgedForRelease_iff judged).mp isJudged.1)
      exact (release.raise (.release n)).capture _ _ _
    · exact modifyOutlet_plainSteps fun o' found' => by
        obtain rfl := Option.some.inj (found.symm.trans found')
        simp only [Bool.and_eq_true, Bool.not_eq_true'] at isJudged
        exact .releaseCounted _ (by omega) isJudged.2
    · exact modifyOutlet_plainSteps fun o' found' => by
        obtain rfl := Option.some.inj (found.symm.trans found')
        simp only [Bool.and_eq_true, Bool.not_eq_true'] at isJudged
        exact .releaseCounted 0 (by omega) isJudged.2
    · exact .refl s

theorem ramp_steps {n : Nat} (ok : allowed n .ramped) (s : State) : OutletSteps allowed s (ramp n s) := by
  unfold ramp
  split
  case h_1 p o loaded found =>
    have ramped : OutletSteps allowed s (modifyOutlet n (rampOutlet p) s) :=
      modifyOutlet_steps fun _ _ => ⟨.ramped, .inr ok, .ramped p loaded⟩
    split_ifs
    · exact ramped.lower
    · exact ramped
  case h_2 => exact .refl s

/-- A session that is VACANT or FAULTED is judged neither for overdraw nor for its response (R152). -/
theorem judge_of_idle {n : Nat} {o : Outlet} (found : s.outlets[n]? = some o)
    (idle : o.session.state = .vacant ∨ o.session.state = .faulted) :
    judgeResponse n (judgeOverdraw n s) = s := by
  have stood : judgeOverdraw n s = s := by
    rcases idle with h | h <;> simp [judgeOverdraw, found, h, judgedForOverdraw]
  rw [stood]
  rcases idle with h | h <;> simp [judgeResponse, found, h]

/-- The full window end at one outlet but for the ramp: history, overdraw, stall or unstall, release (R152). -/
def judgeOutlet (n : Nat) (s : State) : State :=
  judgeRelease n (sessionState s n) (judgeResponse n (judgeOverdraw n (modifyOutlet n enterHistory s)))

theorem superviseOutlet_eq (n : Nat) (s : State) : superviseOutlet n s = ramp n (judgeOutlet n s) := rfl

theorem judgeOutlet_steps {n : Nat} (unstalled : allowed n .unstalled) (s : State) : OutletSteps allowed s (judgeOutlet n s) := by
  have history : OutletSteps allowed s (modifyOutlet n enterHistory s) := modifyOutlet_plainSteps fun _ _ => .history
  refine history.trans ((judgeOverdraw_steps n _).trans ((judgeResponse_steps unstalled _).trans
    (judgeRelease_steps fun o found judged => ?_)))
  have idle := (judgedForRelease_iff _).mp judged
  cases before : s.outlets[n]? with
  | none =>
    have judgedSteps := history.trans ((judgeOverdraw_steps n _).trans (judgeResponse_steps unstalled _))
    have beyond : s.outlets.length ≤ n := List.getElem?_eq_none_iff.mp before
    have within := (List.getElem?_eq_some_iff.mp found).1
    rw [judgedSteps.length] at within
    omega
  | some u =>
    have state : sessionState s n = u.session.state := by simp [sessionState, before]
    have entered : (modifyOutlet n enterHistory s).outlets[n]? = some (enterHistory u) := by
      rw [modifyOutlet_getElem?, before]; simp
    rw [state] at idle ⊢
    rw [judge_of_idle entered idle, entered] at found
    obtain rfl := Option.some.inj found
    rfl

theorem superviseOutlet_steps {n : Nat} (unstalled : allowed n .unstalled) (ramped : allowed n .ramped) (s : State) :
    OutletSteps allowed s (superviseOutlet n s) := (judgeOutlet_steps unstalled s).trans (ramp_steps ramped _)

theorem outletsFullWindow_steps (unstalled : ∀ n, allowed n .unstalled) (ramped : ∀ n, allowed n .ramped) (s : State) :
    OutletSteps allowed s (outletsFullWindow s) :=
  (mapOutlets_plainSteps fun _ => .meterFull).trans
    (forOutlets_steps (fun n => superviseOutlet_steps (unstalled n) (ramped n)) _ _)

theorem cutWindow_steps (ramped : ∀ n, allowed n .ramped) (s : State) : OutletSteps allowed s (cutWindow s) := by
  have metered : OutletSteps allowed s (mapOutlets meterCutWindow (feederCutWindow s)) :=
    (mapOutlets_plainSteps fun _ => .meterCut).afterAside
  have ramps := forOutlets_steps (fun n => ramp_steps (ramped n)) (feederCutWindow s).outlets.length
    (mapOutlets meterCutWindow (feederCutWindow s))
  exact (metered.trans ramps).andAside

/-! The Feeder Watch: its orders on borrow. -/

theorem noteTrip_steps (f trip : Nat) (s : State) : OutletSteps allowed s (noteTrip f trip s) := by
  unfold noteTrip
  split_ifs
  · exact aside_steps
  · exact OutletSteps.capture _ _ _ aside_steps

theorem judgeLimits_steps (p : Profile) (f : Nat) (s : State) : OutletSteps allowed s (judgeLimits p f s) := by
  have counted (overs trip : Nat) : OutletSteps allowed s
      (noteOverload p f s.feeder.overCount { s with feeder.overCount := overs, feeder.tripCount := trip }) :=
    (raiseIf_steps _ _ _).afterAside
  dsimp only [judgeLimits]
  split_ifs
  · exact (counted _ _).trans ((noteTrip_steps _ _ _).trans (takeOrder_steps _ _))
  · exact (counted _ _).trans (takeOrder_steps _ _)
  · exact counted _ _

theorem loseSense_steps (sum : Nat) (s : State) : OutletSteps allowed s (loseSense sum s) :=
  ((takeOrder_steps .zero _).afterAside.raise .senseLost).capture _ _ _

theorem judgeReading_steps (p : Profile) (r : Reading) (s : State) : OutletSteps allowed s (judgeReading p r s) := by
  unfold judgeReading
  split
  · exact (judgeLimits_steps p _ _).afterAside
  · split_ifs
    · exact loseSense_steps _ s
    · exact aside_steps
  · split_ifs
    · exact aside_steps
    · exact aside_steps
  · exact aside_steps

theorem feederFullWindow_steps (s : State) : OutletSteps allowed s (feederFullWindow s) := by
  unfold feederFullWindow
  split
  case h_1 => exact aside_steps
  case h_2 p _ =>
    split_ifs
    · exact aside_steps
    · let r := readingOf p.fullScale s.feeder.windowSum
      exact (judgeReading_steps p r { s with feeder := recordReading s.census.windowIndex r s.feeder }).afterAside.andAside

theorem endFullWindow_steps (unstalled : ∀ n, allowed n .unstalled) (ramped : ∀ n, allowed n .ramped) (feederFirst : Bool) (s : State) :
    OutletSteps allowed s (endFullWindow feederFirst s) := by
  have supervise := outletsFullWindow_steps unstalled ramped
  cases feederFirst
  · exact ((supervise s).trans (feederFullWindow_steps _)).andAside.serve
  · exact ((feederFullWindow_steps s).trans (supervise _)).andAside.serve

theorem hearHush_steps (s : State) : OutletSteps allowed s (hearHush s) := by
  unfold hearHush
  split_ifs
  · exact ((takeOrder_steps _ _).afterAside).raise .hush
  · exact aside_steps

theorem handHush_steps (r : Run) (s : State) : OutletSteps allowed s (handHush r s) := by
  unfold handHush
  split_ifs
  · exact aside_steps
  · exact hearHush_steps s

theorem snapshot_steps (s : State) : OutletSteps allowed s (snapshot s) := by
  unfold snapshot
  split
  · exact .refl s
  · exact mapOutlets_plainSteps fun _ => .snapshot _

theorem snapshotAtExpiry_steps (s : State) : OutletSteps allowed s (snapshotAtExpiry s) := by
  unfold snapshotAtExpiry
  split_ifs
  · exact snapshot_steps s
  · exact .refl s

end

end Sys2Proof.Machine
end

section
/-! PROOFS. The events of the census, the share line and the requests as sequences of outlet steps, with the conditions under which one may
raise a target or ramp an offer (R141, R143). -/

set_option Elab.async false

namespace Sys2Proof.Machine

/-- The part goes to ISLANDED from a missed-period count of 2 (R70). -/
def EntersIslanded (s t : State) : Prop :=
  t.census.participation = .islanded ∧ s.census.participation ≠ .islanded ∧ s.census.missed = 2

section
variable {allowed : Nat → RecordKind → Prop} {s : State}

theorem enterIslanded_steps (raised : ∀ n, allowed n .raised) (s : State) : OutletSteps allowed s (enterIslanded s) :=
  (mapOutlets_plainSteps (s := raise .islanded { s with census.participation := .islanded }) (zeroBorrow_op _)).afterAside.trans
    (recompute_steps true (fun _ => raised) _)

theorem enterIslanded_participation (s : State) : (enterIslanded s).census.participation = .islanded :=
  congrArg CensusEngine.participation (enterIslanded_frame s).census

theorem countMissed_participation (s : State) : (countMissed s).census.participation = s.census.participation := by
  unfold countMissed; split <;> rfl

/-- A count of missed periods that reaches 3 is an entry into ISLANDED, whatever the event does before it to the outlets. -/
theorem entersIslanded_of_reachesThree {t : State} (reaches : reachesThree s = true) (entered : t.census.participation = .islanded) :
    EntersIslanded s t := by
  obtain ⟨missed, part⟩ := (reachesThree_iff s).mp reaches
  exact ⟨entered, by rcases part with h | h <;> simp [h], missed⟩

theorem missPeriod_steps (raised : EntersIslanded s (missPeriod s) → ∀ n, allowed n .raised) :
    OutletSteps allowed s (missPeriod s) := by
  rcases missPeriod_cases s with ⟨-, h⟩ | ⟨reaches, h⟩
  · rw [h]; exact countMissed_steps s
  · have enters := entersIslanded_of_reachesThree (t := missPeriod s) reaches (by rw [h, enterIslanded_participation])
    rw [h]
    exact (countMissed_steps s).trans (enterIslanded_steps (raised enters) _)

theorem missPeriodAtExpiry_steps (raised : EntersIslanded s (missPeriodAtExpiry s) → ∀ n, allowed n .raised) :
    OutletSteps allowed s (missPeriodAtExpiry s) := by
  by_cases reaches : reachesThree s = true
  · have h : missPeriodAtExpiry s = enterIslanded (snapshotAtExpiry (countMissed s)) := if_pos reaches
    have enters := entersIslanded_of_reachesThree (t := missPeriodAtExpiry s) reaches (by rw [h, enterIslanded_participation])
    rw [h]
    exact (countMissed_steps s).trans ((snapshotAtExpiry_steps _).trans (enterIslanded_steps (raised enters) _))
  · rw [missPeriodAtExpiry, if_neg reaches]; exact countMissed_steps s

theorem refreshFallback_steps (raised : s.census.participation = .islanded → ∀ n, allowed n .raised) :
    OutletSteps allowed s (refreshFallback s) := by
  unfold refreshFallback
  split_ifs with part
  · exact (snapshotAtExpiry_steps s).trans (recompute_steps true (fun _ => raised part) _)
  · exact .refl s

theorem refreshFallback_census (s : State) : (refreshFallback s).census = s.census := by
  unfold refreshFallback; split_ifs <;> simp

/-- An expiry may raise targets where it enters ISLANDED or finds it (R30, R61, R70, R141). -/
theorem expireTimer_steps
    (raised : EntersIslanded s (expireTimer s) ∨
      s.census.participation = .islanded ∧ (expireTimer s).census.participation = .islanded → ∀ n, allowed n .raised) :
    OutletSteps allowed s (expireTimer s) := by
  by_cases part : takesPart s = true
  · by_cases free : s.line.state = .free
    · have h : expireTimer s = refreshFallback (serve (placeStartRequest { s with census.timerMs := 2000 })) := by
        simp [expireTimer, takesPart, free] at part ⊢; simp [part]
      rw [h] at raised ⊢
      refine (OutletSteps.serve aside_steps).trans (refreshFallback_steps fun islanded => raised (.inr ?_))
      rw [refreshFallback_census]
      simp only [serve_census, placeStartRequest_census] at islanded ⊢
      exact ⟨islanded, islanded⟩
    · by_cases islanded : s.census.participation = .islanded
      · have h : expireTimer s = refreshFallback (countMissed (placeStartRequest { s with census.timerMs := 2000 })) := by
          simp [expireTimer, takesPart, free, islanded]
        rw [h] at raised ⊢
        refine (countMissed_steps _).afterAside.trans (refreshFallback_steps fun _ => raised (.inr ⟨islanded, ?_⟩))
        rw [refreshFallback_census, countMissed_participation]
        exact islanded
      · have h : expireTimer s = missPeriodAtExpiry (placeStartRequest { s with census.timerMs := 2000 }) := by
          simp [expireTimer, takesPart, free, islanded] at part ⊢; simp [part]
        rw [h] at raised ⊢
        exact (missPeriodAtExpiry_steps fun enters => raised (.inl enters)).afterAside
  · have h : expireTimer s = { s with census.timerMs := 2000 } := by simp [expireTimer, takesPart] at part ⊢; simp [part]
    rw [h]; exact aside_steps

theorem abandon_steps (raised : EntersIslanded s (abandon s) → ∀ n, allowed n .raised) : OutletSteps allowed s (abandon s) := by
  rcases abandon_cases s with ⟨-, h⟩ | ⟨-, h⟩ <;> rw [h] at raised ⊢
  · exact aside_steps
  · exact (missPeriod_steps fun enters => raised enters).afterAside

theorem prepareFrame_steps (raised : s.census.participation = .islanded → ∀ n, allowed n .raised) :
    OutletSteps allowed s (prepareFrame s) := by
  have framed : OutletSteps allowed s
      { snapshot s with
        census.frame := some (newFrame (snapshot s))
        census.reachedFrameZero := true } := (snapshot_steps s).andAside
  dsimp only [prepareFrame]
  split_ifs with _ part
  · exact framed.trans (recompute_steps true (fun _ => raised (by simpa using part)) _)
  · exact framed
  · exact .refl s

theorem prepareFrame_participation (s : State) : (prepareFrame s).census.participation = s.census.participation := by
  dsimp only [prepareFrame]; split_ifs <;> simp

theorem frameZero_participation (boundaryFirst : Bool) (s : State) :
    (frameZero boundaryFirst s).census.participation = s.census.participation := by
  dsimp only [frameZero]
  split_ifs
  · rw [prepareFrame_participation, cutWindow_participation]
  · rw [cutWindow_participation, prepareFrame_participation]

theorem prepareFrame_line (s : State) : (prepareFrame s).line = s.line := by
  dsimp only [prepareFrame]; split_ifs <;> simp

theorem cutWindow_line (s : State) : (cutWindow s).line = s.line := (outletsCutWindow_frame (feederCutWindow s)).line

/-- A frame zero takes the line to FRAME (R43, R47). -/
theorem frameZero_line (boundaryFirst : Bool) (s : State) : (frameZero boundaryFirst s).line = startFrame s.line := by
  dsimp only [frameZero]
  split_ifs
  · rw [prepareFrame_line, cutWindow_line]
  · rw [cutWindow_line, prepareFrame_line]

/-- A frame zero ramps the offers, and in ISLANDED makes the fallback targets (R64, R72, R141). -/
theorem frameZero_steps (boundaryFirst : Bool) (ramped : ∀ n, allowed n .ramped)
    (raised : s.census.participation = .islanded → ∀ n, allowed n .raised) : OutletSteps allowed s (frameZero boundaryFirst s) := by
  dsimp only [frameZero]
  refine OutletSteps.afterAside (t := { s with line := startFrame s.line, census.timerMs := 2000, census.frame := none }) ?_
  split_ifs
  · refine (cutWindow_steps ramped _).trans (prepareFrame_steps fun part => raised ?_)
    rwa [cutWindow_participation] at part
  · refine OutletSteps.trans (prepareFrame_steps ?_) (cutWindow_steps ramped _)
    exact raised

theorem handBit_steps {k : Nat} {v drove : Bool} (raised : EntersIslanded s (handBit k v drove s) → ∀ n, allowed n .raised) :
    OutletSteps allowed s (handBit k v drove s) := by
  unfold handBit at raised ⊢
  split at raised
  case h_1 => exact aside_steps
  case h_2 f _ =>
    split_ifs at raised ⊢
    · exact (abandon_steps fun enters => raised enters).afterAside
    · exact aside_steps

theorem readBit_steps {a b c : Bool} (raised : EntersIslanded s (readBit a b c s) → ∀ n, allowed n .raised) :
    OutletSteps allowed s (readBit a b c s) := by
  unfold readBit at raised ⊢
  split_ifs at raised ⊢
  · refine OutletSteps.capture _ _ _ ((abandon_steps fun enters => raised ?_).afterAside)
    simpa [takeEchoFault, EntersIslanded] using enters
  · exact (handBit_steps fun enters => raised enters).afterAside
  · exact .refl s

theorem reportAttempt_steps {droveStart : Bool} (raised : EntersIslanded s (reportAttempt droveStart s) → ∀ n, allowed n .raised) :
    OutletSteps allowed s (reportAttempt droveStart s) := by
  cases droveStart
  · exact .refl s
  · exact missPeriod_steps raised

theorem goStuck_steps (raised : EntersIslanded s (goStuck s) → ∀ n, allowed n .raised) : OutletSteps allowed s (goStuck s) := by
  rcases goStuck_cases s with ⟨h, -⟩ | ⟨r, -, -, h⟩ <;> rw [h] at raised ⊢
  · exact .refl s
  · refine OutletSteps.capture _ _ _ (OutletSteps.raise .stuck (abandon_steps fun enters => raised ?_).afterAside)
    simpa [EntersIslanded] using enters

theorem takeOrder_census (order : BorrowOrder) (s : State) : (takeOrder order s).census = s.census := by
  cases order <;> simp [takeOrder]

theorem handHush_census (r : Run) (s : State) : (handHush r s).census = s.census := by
  unfold handHush hearHush; split_ifs <;> simp [takeOrder_census]

/-- The end of a run outside FRAME and STUCK is a frame zero, or may raise targets where it enters ISLANDED. -/
theorem endPulse_steps {r : Run} {samples : Nat} {boundaryFirst : Bool}
    (zero : endPulse r samples boundaryFirst s = frameZero boundaryFirst s → OutletSteps allowed s (frameZero boundaryFirst s))
    (raised : EntersIslanded s (endPulse r samples boundaryFirst s) → ∀ n, allowed n .raised) :
    OutletSteps allowed s (endPulse r samples boundaryFirst s) := by
  unfold endPulse at zero raised ⊢
  split
  case isTrue classifiable =>
    rw [if_pos classifiable] at zero raised
    cases class_ : classOf (runLength samples) <;> simp only [class_] at zero raised ⊢
    case start => exact zero trivial
    case hush =>
      refine OutletSteps.trans (handHush_steps r _).afterAside (reportAttempt_steps fun enters => raised ?_)
      simpa [EntersIslanded, handHush_census] using enters
    case glitch => exact (reportAttempt_steps fun enters => raised enters).afterAside
    case malformed => exact (reportAttempt_steps fun enters => raised enters).afterAside
    case stuck => exact (goStuck_steps fun enters => raised enters).andAside
  case isFalse unclassifiable =>
    rw [if_neg unclassifiable] at zero raised
    cases class_ : classOf (runLength samples) <;> simp only [class_] at zero raised ⊢
    case stuck => exact (goStuck_steps fun enters => raised enters).andAside
    all_goals exact aside_steps

/-- The trailing edge of a run: a frame zero, reached from a line that is not FRAME, or an end of a run that may enter ISLANDED. -/
theorem trailEdge_steps {samples : Nat} {boundaryFirst : Bool}
    (zero : s.line.state ≠ .frame → trailEdge samples boundaryFirst s = frameZero boundaryFirst s →
      OutletSteps allowed s (frameZero boundaryFirst s))
    (raised : EntersIslanded s (trailEdge samples boundaryFirst s) → ∀ n, allowed n .raised) :
    OutletSteps allowed s (trailEdge samples boundaryFirst s) := by
  cases run : s.line.run with
  | none => rw [trailEdge, run]; exact .refl s
  | some r =>
    cases state : s.line.state with
    | frame =>
      have h : trailEdge samples boundaryFirst s = endFrameRun samples s := by simp [trailEdge, run, state]
      rw [h] at raised ⊢
      rcases endFrameRun_cases samples s with ⟨-, h⟩ | ⟨-, h⟩ <;> rw [h] at raised ⊢
      · exact aside_steps
      · exact (goStuck_steps fun enters => raised enters).andAside
    | stuck =>
      have h : trailEdge samples boundaryFirst s = { s with line := endRun s.line } := by simp [trailEdge, run, state]
      rw [h]; exact aside_steps
    | settling | free | pulse =>
      have h : trailEdge samples boundaryFirst s = endPulse r samples boundaryFirst s := by simp [trailEdge, run, state]
      rw [h] at zero raised ⊢
      exact endPulse_steps (zero (by simp [state])) raised

theorem reachFree_steps (s : State) : OutletSteps allowed s (reachFree s) := by
  unfold reachFree
  split
  · exact .refl s
  · split
    · exact OutletSteps.serve aside_steps
    · exact OutletSteps.serve aside_steps
    · exact .refl s
    · exact .refl s
    · exact .refl s

theorem endStartPulse_steps (s : State) : OutletSteps allowed s (endStartPulse s) := by
  unfold endStartPulse
  split_ifs
  · exact OutletSteps.serve aside_steps
  · exact .refl s

theorem endHush_steps (s : State) : OutletSteps allowed s (endHush s) := by
  unfold endHush
  split_ifs
  · exact OutletSteps.serve aside_steps
  · exact .refl s

theorem expireHoldOff_steps (s : State) : OutletSteps allowed s (expireHoldOff s) := by
  unfold expireHoldOff
  split_ifs
  · exact .refl s
  · exact OutletSteps.serve aside_steps

theorem echoPulse_steps (raised : EntersIslanded s (echoPulse s) → ∀ n, allowed n .raised) : OutletSteps allowed s (echoPulse s) := by
  unfold echoPulse at raised ⊢
  split at raised
  case h_1 => exact .refl s
  case h_2 sawRun _ =>
    refine OutletSteps.serve (OutletSteps.trans (OutletSteps.capture .driver none 65534 aside_steps)
      (reportAttempt_steps fun enters => raised ?_))
    simpa [EntersIslanded] using enters
  case h_3 => exact OutletSteps.serve (OutletSteps.capture _ _ _ aside_steps)

theorem ageSummary_steps (s : State) : OutletSteps allowed s (ageSummary s) := by
  unfold ageSummary
  split
  · exact .refl s
  · exact aside_steps

theorem startPwmPeriod_steps (s : State) : OutletSteps allowed s (startPwmPeriod s) := mapOutlets_plainSteps fun _ => .duty _

/-! The completion of a valid census. -/

theorem faultClash_steps (f : Frame) (n : Nat) (s : State) : OutletSteps allowed s (faultClash f n s) := by
  unfold faultClash
  split
  case h_1 => exact .refl s
  case h_2 o found =>
    have fault (value : Nat) (occupied : o.session.state ≠ .vacant) (sound : o.session.state ≠ .faulted) :
        OutletSteps allowed s (capture .seatClash (some n) value (enterFaulted n .seatClash s)) :=
      (enterFaulted_steps .seatClash found occupied sound).capture _ _ _
    split_ifs
    · split
      case h_1 | h_2 => exact .refl s
      all_goals exact fault _ (by simp [*]) (by simp [*])
    · exact .refl s

theorem countClashes_steps (f : Frame) (s : State) : OutletSteps allowed s (countClashes f s) :=
  plainSteps rfl (by simp [countClashes]) fun n o o' found found' => by
    simp only [countClashes, List.getElem?_map, List.getElem?_zipIdx, found, Option.map_some, Option.some.injEq] at found'
    subst found'
    exact .clashed _

theorem examineClashes_steps (f : Frame) (s : State) : OutletSteps allowed s (examineClashes f s) :=
  (raiseIf_steps (anyClash f s) .clash s).trans
    ((countClashes_steps f _).trans (forOutlets_steps (fun n => faultClash_steps f n) _ _))

theorem join_steps (s : State) : OutletSteps allowed s (join s) := (raiseIf_steps _ .rejoined _).afterAside

theorem completeCensus_steps (f : Frame) (s : State) : OutletSteps allowed s (completeCensus f s) :=
  (examineClashes_steps f { s with census.missed := 0, census.number := f.number, census.frame := none }).afterAside.trans (join_steps _)

theorem writeShare_target (p : Profile) (w : WaterFill) (r : Roster) (seat : Nat) (st : SessionState) (sh : Share) :
    (writeShare p w r seat st sh).target = sh.target := by unfold writeShare; split <;> rfl

theorem writeShares_steps (p : Profile) (s : State) : OutletSteps allowed s (writeShares p s) :=
  plainSteps rfl (by simp [writeShares]) fun n o o' found found' => by
    simp only [writeShares, List.getElem?_map, List.getElem?_zipIdx, found, Option.map_some, Option.some.injEq] at found'
    subst found'
    exact .shared _ (writeShare_target _ _ _ _ _ _) fun vacant => by simp [writeShare, vacant]

theorem updateBorrows_steps (p : Profile) (s : State) : OutletSteps allowed s (updateBorrows p s) :=
  plainSteps rfl (by simp [updateBorrows]) fun n o o' found found' => by
    simp only [updateBorrows, List.getElem?_map, found, Option.map_some, Option.some.injEq] at found'
    subst found'
    unfold updateBorrow
    split
    case isTrue => exact .shared o.share rfl fun _ => rfl
    case isFalse occupied => exact .shared { o.share with b := _ } rfl fun vacant => absurd vacant occupied

theorem shareCompletion_steps (raised : ∀ n, allowed n .raised) (s : State) : OutletSteps allowed s (shareCompletion s) := by
  unfold shareCompletion
  split
  · exact .refl s
  · exact (writeShares_steps _ s).trans ((updateBorrows_steps _ _).trans (recompute_steps true (fun _ => raised) _))

theorem complete_steps (raised : ∀ n, allowed n .raised) (f : Frame) (s : State) : OutletSteps allowed s (complete f s) :=
  (completeCensus_steps f s).trans
    (shareCompletion_steps raised
      { completeCensus f s with
        roster := updateRoster f.read (completeCensus f s).census.number (completeCensus f s).roster }).afterAside.andAside

theorem shareCompletion_census (s : State) : (shareCompletion s).census = s.census := by
  unfold shareCompletion
  split
  · rfl
  · exact recompute_census _ _

/-- A completed census leaves the part JOINED (R68). -/
theorem complete_participation (f : Frame) (s : State) : (complete f s).census.participation = .joined := by
  have joined := join_participation (examineClashes f { s with census.missed := 0, census.number := f.number, census.frame := none })
  calc (complete f s).census.participation
      = (shareCompletion { completeCensus f s with
          roster := updateRoster f.read (completeCensus f s).census.number (completeCensus f s).roster }).census.participation := rfl
    _ = .joined := by rw [shareCompletion_census]; exact joined

/-- The end of a frame may raise targets where it completes a census (R82, R141). -/
theorem endFrame_steps (raised : s.census.frame ≠ none → s.line.state = .frame → (endFrame s).census.participation = .joined →
    ∀ n, allowed n .raised) : OutletSteps allowed s (endFrame s) := by
  unfold endFrame at raised ⊢
  split_ifs at raised ⊢ with due
  · split at raised
    case h_1 f found =>
      have inFrame : s.line.state = .frame := by simp only [endDue, Bool.and_eq_true, beq_iff_eq] at due; exact due.1
      exact (complete_steps (raised (by simp [found]) inFrame (complete_participation f _)) f _).afterAside
    case h_2 => exact aside_steps
  · exact .refl s

/-! The requests. -/

theorem respond_steps (code : Byte) (status : Status) (body : List Byte) (s : State) :
    OutletSteps allowed s (respond code status body s) := aside_steps

theorem storeProfile_steps {p : Profile} (none : s.host.profile = none) (inRange : profileInRange p = true) :
    OutletSteps allowed s (storeProfile p s) := by
  have load : OutletSteps allowed s
      { s with
        host.profile := some p
        shares.pool := some (p.importLimit - p.reserve)
        census.participation := .listening
        feeder.partialWindow := true } := .single (.loaded p none inRange rfl rfl rfl)
  exact load.lower

theorem loadProfileRequest_steps (body : List Byte) (s : State) : OutletSteps allowed s (loadProfileRequest body s) := by
  unfold loadProfileRequest
  split_ifs with _ loaded inRange
  · exact respond_steps _ _ _ s
  · exact respond_steps _ _ _ s
  · exact respond_steps _ _ _ s
  · exact (storeProfile_steps (by simpa using loaded) (by simpa using inRange)).andAside

theorem byteAt_le (body : List Byte) (i : Nat) : byteAt body i ≤ 255 := Nat.le_of_lt_succ (body.getD i 0#8).isLt

theorem wordAt_le (body : List Byte) (i : Nat) : wordAt body i ≤ 65535 := by
  have high := byteAt_le body i
  have low := byteAt_le body (i + 1)
  unfold wordAt; omega

theorem outletIsFree_iff (o : Outlet) :
    outletIsFree o = true ↔ o.session.state = .vacant ∧ o.supervision.releaseDriven = false := by simp [outletIsFree]

theorem openRequest_steps {body : List Byte} (opened : ∀ n, allowed n .opened) (length : body.length ≤ 23) (s : State) :
    OutletSteps allowed s (openRequest body s) := by
  unfold openRequest
  split
  case h_1 => exact respond_steps _ _ _ s
  case h_2 p loaded =>
    split
    case h_1 => exact respond_steps _ _ _ s
    case h_2 o found =>
      split_ifs with free
      · exact respond_steps _ _ _ s
      · obtain ⟨vacant, deasserted⟩ := (outletIsFree_iff o).mp (by simpa using free)
        have record : OutletSteps allowed s (modifyOutlet (byteAt body 0)
            (openOutlet (openedSession p s.census.number (wordAt body 1) (wordAt body 3) (wordAt body 5) (tagOf body))) s) :=
          modifyOutlet_steps fun o' found' => by
            obtain rfl := Option.some.inj (found.symm.trans found')
            exact ⟨_, .inr (opened _), .opened p _ _ _ _ _ loaded vacant deasserted (wordAt_le _ _) (by simp [tagOf]; omega)⟩
        exact (record.trans (raiseIf_steps _ _ _)).lower.andAside

theorem amendRequest_steps (amended : ∀ n, allowed n .amended) (body : List Byte) (s : State) :
    OutletSteps allowed s (amendRequest body s) := by
  unfold amendRequest
  split
  case h_1 => exact respond_steps _ _ _ s
  case h_2 o found =>
    split_ifs with occupied sound
    · exact respond_steps _ _ _ s
    · exact respond_steps _ _ _ s
    · split
      case h_1 => exact respond_steps _ _ _ s
      case h_2 p loaded =>
        have record : OutletSteps allowed s (modifyOutlet (byteAt body 0)
            (fun _ => amendOutlet p (wordAt body 1) (wordAt body 3) (wordAt body 5) o) s) :=
          modifyOutlet_steps fun o' found' => by
            obtain rfl := Option.some.inj (found.symm.trans found')
            exact ⟨_, .inr (amended _), .amended p _ _ _ loaded occupied sound (wordAt_le _ _)⟩
        exact (record.trans ((raiseIf_steps _ _ _).trans (raiseIf_steps _ _ _))).lower.andAside

theorem closeRequest_steps (closed : ∀ n, allowed n .closed) (body : List Byte) (s : State) :
    OutletSteps allowed s (closeRequest body s) := by
  unfold closeRequest
  split
  · exact respond_steps _ _ _ s
  · have record : OutletSteps allowed s (modifyOutlet (byteAt body 0) closedOutlet s) :=
      modifyOutlet_steps fun _ _ => ⟨_, .inr (closed _), .closed⟩
    exact record.lower.andAside

theorem readOutletRequest_steps (body : List Byte) (s : State) : OutletSteps allowed s (readOutletRequest body s) := by
  unfold readOutletRequest
  split
  · exact respond_steps _ _ _ s
  · exact respond_steps _ _ _ s

end

end Sys2Proof.Machine
end

section
/-! PROOFS. What each command but reset may do to the outlets: its steps, with the kinds of change that it can bring. -/

set_option Elab.async false

namespace Sys2Proof.Machine

/-- The events at which a target may rise (R141): the completion of a census, the entry into ISLANDED, and in ISLANDED an expiry or a frame
zero. -/
def MayRaise (c : Instr) (s t : State) : Prop :=
  (t.census.participation = .joined ∧ s.census.frame ≠ none ∧ s.line.state = .frame ∧ (c = .frameEnd ∨ ∃ m, c = .seatClashFault m)) ∨
  (t.census.participation = .islanded ∧ s.census.participation ≠ .islanded ∧ s.census.missed = 2 ∧ mayEnterIslanded c = true) ∨
  (t.census.participation = .islanded ∧ s.census.participation = .islanded ∧
    (c = .censusTimerExpiry ∨
      ∃ samples boundaryFirst, c = .trailingEdge samples boundaryFirst ∧ s.line.state ≠ .frame ∧ t.line.state = .frame))

/-- The window boundaries, at which offers are ramped (R63, R64, R143). -/
def IsBoundaryEvent (c : Instr) (s t : State) : Prop :=
  (isBoundary c = true ∧ (∀ samples boundaryFirst, c ≠ .trailingEdge samples boundaryFirst) ∧
    ∃ feederFirst, t = endFullWindow feederFirst s) ∨
  ∃ samples boundaryFirst, c = .trailingEdge samples boundaryFirst ∧ s.line.state ≠ .frame ∧ t = frameZero boundaryFirst s

/-- The kinds of change that a command can bring to outlet n. -/
def CommandAllows (c : Instr) (s t : State) (n : Nat) : RecordKind → Prop
  | .plain => True
  | .unstalled => ∃ feederFirst, t = endFullWindow feederFirst s
  | .raised => MayRaise c s t
  | .ramped => IsBoundaryEvent c s t
  | .opened => setsNeed c = true
  | .amended => setsNeed c = true ∧ ∃ body, t = amendRequest body s
  | .closed => ∃ shifted, c = .closeSession shifted
  | .completed => ∃ charge, c = .drawQuantum n charge ∨ c = .ampMinuteCompletion n charge
  | .charged charge => c = .drawQuantum n charge ∨ c = .ampMinuteCompletion n charge

/-- The state after a command is reached by outlet steps of the kinds that the command can bring. -/
def CommandSteps (c : Instr) (s t : State) : Prop := OutletSteps (CommandAllows c s t) s t

section
variable {c : Instr} {s : State}

theorem CommandSteps.stood (c : Instr) (s : State) : CommandSteps c s s := OutletSteps.refl s

theorem onLine_commandSteps {event : State → State} (steps : CommandSteps c s (event s)) : CommandSteps c s (onLine event s) := by
  rcases onLine_cases event s with ⟨-, h⟩ | ⟨-, h⟩ <;> rw [h]
  · exact .stood c s
  · exact steps

theorem whenRunning_commandSteps {event : State → State} (steps : CommandSteps c s (event s)) :
    CommandSteps c s (whenRunning event s) := by
  rcases whenRunning_cases event s with ⟨-, h⟩ | ⟨-, h⟩ <;> rw [h]
  · exact .stood c s
  · exact steps

theorem onlyWhere_commandSteps {outcome : State → State → Bool} {event : State → State}
    (steps : outcome s (event s) = true → CommandSteps c s (event s)) : CommandSteps c s (onlyWhere outcome event s) := by
  rcases onlyWhere_cases outcome event s with ⟨-, h⟩ | ⟨taken, h⟩ <;> rw [h]
  · exact .stood c s
  · exact steps taken

theorem ite_commandSteps (taken : Bool) {t : State} (steps : CommandSteps c s t) : CommandSteps c s (if taken then t else s) := by
  cases taken
  · exact .stood c s
  · exact steps

theorem takeRequest_commandSteps (code : Byte) {lengthOk : Nat → Bool} {act : List Byte → State → State} (shifted : List Byte)
    (steps : ∀ body, lengthOk body.length = true → CommandSteps c s (act body s)) :
    CommandSteps c s (takeRequest code lengthOk act shifted s) := by
  rcases takeRequest_cases code lengthOk act shifted s with ⟨-, h⟩ | ⟨-, -, h⟩ | ⟨-, -, h⟩ | ⟨-, body, -, ok, h⟩ <;> rw [h]
  · exact .stood c s
  · exact aside_steps
  · exact respond_steps _ _ _ s
  · exact steps body ok

theorem takeNothing_commandSteps (c : Instr) (s : State) : CommandSteps c s (takeNothing s) :=
  whenRunning_commandSteps (aside_steps (t := { s with host.ignoreTransaction := false }))

/-- A command that is a full window end, or an outcome of one. -/
theorem endFullWindow_commandSteps (boundary : isBoundary c = true) (noEdge : ∀ samples boundaryFirst, c ≠ .trailingEdge samples boundaryFirst)
    (feederFirst : Bool) (s : State) : CommandSteps c s (endFullWindow feederFirst s) :=
  endFullWindow_steps (fun _ => ⟨feederFirst, rfl⟩) (fun _ => .inl ⟨boundary, noEdge, feederFirst, rfl⟩) feederFirst s

theorem EntersIslanded.mayRaise {t : State} (may : mayEnterIslanded c = true) (enters : EntersIslanded s t) : MayRaise c s t := by
  obtain ⟨after, before, missed⟩ := enters
  exact .inr (.inl ⟨after, before, missed, may⟩)

theorem readBit_commandSteps (may : mayEnterIslanded c = true) (a b d : Bool) : CommandSteps c s (readBit a b d s) :=
  readBit_steps fun enters _ => enters.mayRaise may

theorem endFrame_commandSteps (frameEnd : c = .frameEnd ∨ ∃ m, c = .seatClashFault m) : CommandSteps c s (endFrame s) :=
  endFrame_steps fun frame inFrame joined _ => .inl ⟨joined, frame, inFrame, frameEnd⟩

theorem trailingEdge_commandSteps (samples : Nat) (boundaryFirst : Bool) :
    CommandSteps (.trailingEdge samples boundaryFirst) s (trailEdge samples boundaryFirst s) := by
  refine trailEdge_steps (fun notFrame zero => ?_) fun enters _ => enters.mayRaise rfl
  refine frameZero_steps boundaryFirst (fun _ => .inr ⟨samples, boundaryFirst, rfl, notFrame, zero⟩) fun islanded _ => ?_
  rw [zero]
  refine .inr (.inr ⟨?_, islanded, .inr ⟨samples, boundaryFirst, rfl, notFrame, ?_⟩⟩)
  · rw [frameZero_participation, islanded]
  · rw [frameZero_line]; rfl

theorem becomesIslanded_iff (s t : State) :
    becomesIslanded s t = true ↔ s.census.participation ≠ .islanded ∧ t.census.participation = .islanded := by
  simp [becomesIslanded]

/-- The row of the entry into ISLANDED: a frame zero is no such event, as it leaves the participation as it stands. -/
theorem missedEvent_commandSteps (cause : MissedBy) (taken : becomesIslanded s (missedEvent cause s) = true) :
    CommandSteps (.islanded cause) s (missedEvent cause s) := by
  obtain ⟨before, after⟩ := (becomesIslanded_iff _ _).mp taken
  cases cause with
  | timerExpiry =>
    refine whenRunning_commandSteps (expireTimer_steps fun raised _ => ?_)
    rcases raised with enters | ⟨islanded, -⟩
    · exact enters.mayRaise rfl
    · exact absurd islanded before
  | runEnd samples boundaryFirst =>
    rcases onLine_cases (trailEdge samples boundaryFirst) s with ⟨-, h⟩ | ⟨-, h⟩ <;> dsimp only [missedEvent] at after ⊢ <;> rw [h] at after ⊢
    · exact .stood _ s
    · refine trailEdge_steps (fun _ zero => ?_) fun enters _ => enters.mayRaise rfl
      rw [zero, frameZero_participation] at after
      exact absurd after before
  | pulseEcho => exact onLine_commandSteps (echoPulse_steps fun enters _ => enters.mayRaise rfl)
  | bitRead first second third => exact onLine_commandSteps (readBit_commandSteps rfl first second third)
  | lineStuck => exact onLine_commandSteps (goStuck_steps fun enters _ => enters.mayRaise rfl)

theorem overdueEvent_commandSteps (n : Nat) (cause : OverdueBy) : CommandSteps (.overdue n cause) s (overdueEvent cause s) := by
  cases cause with
  | minuteTick => exact whenRunning_commandSteps (minuteTick_steps s)
  | opening shifted =>
    dsimp only [overdueEvent]
    refine takeRequest_commandSteps _ shifted fun body length =>
      openRequest_steps (fun _ => (rfl : setsNeed (.overdue n (.opening shifted)) = true)) ?_ s
    simp only [Bool.and_eq_true, decide_eq_true_eq] at length; exact length.2
  | amending shifted =>
    dsimp only [overdueEvent]
    exact takeRequest_commandSteps _ shifted fun body _ =>
      amendRequest_steps (fun _ => ⟨(rfl : setsNeed (.overdue n (.amending shifted)) = true), body, rfl⟩) body s

/-- Every command but reset answers with a next state that outlet steps of its kinds reach. -/
theorem exec_commandSteps (c : Instr) (s : State) (noReset : isReset c = false) :
    ∃ t, exec c s = .next t ∧ CommandSteps c s t := by
  cases c with
  | restart | powerOnReset | resetNLow | supplyLowReset | resetRelease => cases noReset
  | loadProfile shifted => exact ⟨_, rfl, takeRequest_commandSteps _ shifted fun body _ => loadProfileRequest_steps body s⟩
  | openSession shifted =>
    refine ⟨_, rfl, takeRequest_commandSteps _ shifted fun body length => openRequest_steps (fun _ => (rfl : setsNeed _ = true)) ?_ s⟩
    simp only [Bool.and_eq_true, decide_eq_true_eq] at length; exact length.2
  | amendSession shifted =>
    exact ⟨_, rfl, takeRequest_commandSteps _ shifted fun body _ => amendRequest_steps (fun _ => ⟨(rfl : setsNeed (.amendSession shifted) = true), body, rfl⟩) body s⟩
  | closeSession shifted =>
    exact ⟨_, rfl, takeRequest_commandSteps _ shifted fun body _ => closeRequest_steps (fun _ => ⟨shifted, rfl⟩) body s⟩
  | readOutlet shifted => exact ⟨_, rfl, takeRequest_commandSteps _ shifted fun body _ => readOutletRequest_steps body s⟩
  | readCensus shifted | readRoster shifted | readStatus shifted | readFault shifted | readEvents shifted | clearFault shifted
  | setMask shifted =>
    exact ⟨_, rfl, takeRequest_commandSteps _ shifted fun _ _ => aside_steps⟩
  | unknownRequest code shifted =>
    exact ⟨_, rfl, by split_ifs; exacts [.stood _ s, .stood _ s, aside_steps, respond_steps _ _ _ s]⟩
  | nullTransaction bytes =>
    refine ⟨_, rfl, ?_⟩
    cases bytes with
    | nil => exact takeNothing_commandSteps _ s
    | cons code rest => dsimp only; split_ifs; exacts [takeNothing_commandSteps _ s, .stood _ s]
  | leadingEdge bit => exact ⟨_, rfl, onLine_commandSteps aside_steps⟩
  | trailingEdge samples boundaryFirst => exact ⟨_, rfl, onLine_commandSteps (trailingEdge_commandSteps samples boundaryFirst)⟩
  | lineFree => exact ⟨_, rfl, onLine_commandSteps (reachFree_steps s)⟩
  | startPulseEnd => exact ⟨_, rfl, onLine_commandSteps (endStartPulse_steps s)⟩
  | hushDriveEnd => exact ⟨_, rfl, onLine_commandSteps (endHush_steps s)⟩
  | hushHoldOffExpiry => exact ⟨_, rfl, onLine_commandSteps (expireHoldOff_steps s)⟩
  | lineStuck => exact ⟨_, rfl, onLine_commandSteps (goStuck_steps fun enters _ => enters.mayRaise rfl)⟩
  | echoFaultPulse => exact ⟨_, rfl, onLine_commandSteps (echoPulse_steps fun enters _ => enters.mayRaise rfl)⟩
  | frameBitRead first second third => exact ⟨_, rfl, onLine_commandSteps (readBit_commandSteps rfl first second third)⟩
  | echoFault first second third | settleFault first second third =>
    exact ⟨_, rfl, onLine_commandSteps (ite_commandSteps _ (readBit_commandSteps rfl first second third))⟩
  | frameEnd => exact ⟨_, rfl, onLine_commandSteps (endFrame_commandSteps (.inl rfl))⟩
  | seatClashFault m =>
    exact ⟨_, rfl, onLine_commandSteps (onlyWhere_commandSteps fun _ => endFrame_commandSteps (.inr ⟨m, rfl⟩))⟩
  | censusTimerExpiry =>
    refine ⟨_, rfl, whenRunning_commandSteps (expireTimer_steps fun raised _ => ?_)⟩
    rcases raised with enters | ⟨before, after⟩
    · exact enters.mayRaise rfl
    · exact .inr (.inr ⟨after, before, .inl rfl⟩)
  | islanded cause => exact ⟨_, rfl, onlyWhere_commandSteps (missedEvent_commandSteps cause)⟩
  | fullWindowEnd feederFirst => exact ⟨_, rfl, whenRunning_commandSteps (endFullWindow_commandSteps rfl (fun _ _ h => Instr.noConfusion h) feederFirst s)⟩
  | overload feederFirst | trip feederFirst =>
    exact ⟨_, rfl, whenRunning_commandSteps (ite_commandSteps _ (endFullWindow_commandSteps rfl (fun _ _ h => Instr.noConfusion h) feederFirst s))⟩
  | senseLost feederFirst | senseBack feederFirst | overdraw _ feederFirst | stall _ feederFirst | unstall _ feederFirst
  | release _ feederFirst =>
    exact ⟨_, rfl, whenRunning_commandSteps
      (onlyWhere_commandSteps fun _ => endFullWindow_commandSteps rfl (fun _ _ h => Instr.noConfusion h) feederFirst s)⟩
  | minuteTick => exact ⟨_, rfl, whenRunning_commandSteps (minuteTick_steps s)⟩
  | overdue n cause => exact ⟨_, rfl, onlyWhere_commandSteps fun _ => overdueEvent_commandSteps n cause⟩
  | drawQuantum n charge =>
    exact ⟨_, rfl, whenRunning_commandSteps (takeCharge_steps (.inl rfl) ⟨charge, .inl rfl⟩ s)⟩
  | ampMinuteCompletion n charge =>
    exact ⟨_, rfl, whenRunning_commandSteps (ite_commandSteps _ (takeCharge_steps (.inr rfl) ⟨charge, .inr rfl⟩ s))⟩
  | summaryAgeTick => exact ⟨_, rfl, whenRunning_commandSteps (ageSummary_steps s)⟩
  | pwmPeriodStart => exact ⟨_, rfl, whenRunning_commandSteps (startPwmPeriod_steps s)⟩
  | feederSample code => exact ⟨_, rfl, whenRunning_commandSteps (ite_commandSteps _ aside_steps)⟩

end

theorem commandSteps_of_exec {c : Instr} {s t : State} (noReset : isReset c = false) (step : exec c s = .next t) : CommandSteps c s t := by
  obtain ⟨t', answer, steps⟩ := exec_commandSteps c s noReset
  obtain rfl := Host.Outcome.next.inj (answer.symm.trans step)
  exact steps

/-- A command of reset leaves the part as it stood, ends an ignored transaction, answers, or brings the state of reset (R173, R174). -/
theorem exec_reset_cases {c : Instr} {s t : State} (isReset_ : isReset c = true) (step : exec c s = .next t) :
    (t.outlets = s.outlets ∧ t.host.profile = s.host.profile ∧ t.line = s.line ∧ t.census = s.census ∧ t.feeder = s.feeder ∧
      t.shares = s.shares ∧ t.host.straps = s.host.straps) ∨
    ∃ straps held ignore, t = .afterReset straps held ignore s.pending ∧ (straps = s.host.straps ∨ ∃ seat out rate, straps = .sampled seat out rate) := by
  cases c with
  | restart shifted =>
    obtain rfl := Host.Outcome.next.inj step
    rcases takeRequest_cases 0x5A#8 (fun n => n == 0) (fun _ s => takeReset .restart s) shifted s with
      ⟨-, h⟩ | ⟨-, -, h⟩ | ⟨-, -, h⟩ | ⟨-, body, -, -, h⟩ <;> rw [h]
    · exact .inl ⟨rfl, rfl, rfl, rfl, rfl, rfl, rfl⟩
    · exact .inl ⟨rfl, rfl, rfl, rfl, rfl, rfl, rfl⟩
    · exact .inl ⟨rfl, rfl, rfl, rfl, rfl, rfl, rfl⟩
    · exact .inr ⟨_, _, _, rfl, .inl rfl⟩
  | powerOnReset | resetNLow | supplyLowReset =>
    obtain rfl := Host.Outcome.next.inj step
    exact .inr ⟨_, _, _, rfl, .inl rfl⟩
  | resetRelease cause seat out rate csLow =>
    obtain rfl := Host.Outcome.next.inj step
    rcases releaseReset_cases cause (.sampled seat out rate) csLow s with ⟨-, h⟩ | ⟨-, -, h⟩ | ⟨-, held, -, -, h⟩ <;> rw [h]
    · exact .inl ⟨rfl, rfl, rfl, rfl, rfl, rfl, rfl⟩
    · exact .inr ⟨_, _, _, rfl, .inr ⟨_, _, _, rfl⟩⟩
    · exact .inr ⟨_, _, _, rfl, .inl rfl⟩
  | _ => cases isReset_

end Sys2Proof.Machine
end

section
/-! PROOFS. The obligations on single records: what every operation on an outlet's record keeps, and with it every command. -/

set_option Elab.async false

namespace Sys2Proof.Machine

/-! What a sequence of outlet steps makes of one outlet's record. -/

/-- A relation of an outlet's record to the one it was, kept along an event: it holds of the record itself, it goes on over every operation that
the event can bring to this outlet, and over a new target within the raw one. -/
theorem OutletSteps.relates {allowed : Nat → RecordKind → Prop} {s t : State} {n : Nat} {o o' : Outlet} (R : Outlet → Outlet → Prop)
    (refl : ∀ o, R o o) (op : ∀ profile o u kind v, (kind = .plain ∨ allowed n kind) → RecordOp profile u kind v → R o u → R o v)
    (give : ∀ p part curtail mayRaise o u t, (mayRaise = true → allowed n .raised) → t ≤ rawTarget p part curtail u → R o u →
      R o (giveTarget mayRaise u t))
    (steps : OutletSteps allowed s t) (found : s.outlets[n]? = some o) (found' : t.outlets[n]? = some o') : R o o' := by
  induction steps generalizing o' with
  | refl =>
    obtain rfl := Option.some.inj (found.symm.trans found')
    exact refl o
  | @tail t v steps step ih =>
    have within : n < t.outlets.length := by
      rw [OutletSteps.length steps]; exact (List.getElem?_eq_some_iff.mp found).1
    have before := ih (List.getElem?_eq_getElem within)
    cases step with
    | aside outlets =>
      rw [outlets, List.getElem?_eq_getElem within] at found'
      obtain rfl := Option.some.inj found'
      exact before
    | loaded p none inRange loaded outlets =>
      rw [outlets, List.getElem?_eq_getElem within] at found'
      obtain rfl := Option.some.inj found'
      exact before
    | changed profile length each =>
      rcases each n _ o' (List.getElem?_eq_getElem within) found' with rfl | ⟨kind, ok, record⟩
      · exact before
      · exact op _ _ _ kind _ ok record before
    | recomputed mayRaise raises =>
      cases loaded : t.host.profile with
      | none =>
        rw [recompute_of_none mayRaise loaded, List.getElem?_eq_getElem within] at found'
        obtain rfl := Option.some.inj found'
        exact before
      | some p =>
        rw [recompute_of_profile mayRaise loaded, retarget_getElem?, List.getElem?_eq_getElem within] at found'
        obtain rfl := Option.some.inj found'
        exact give p _ _ mayRaise _ _ _ (fun h => raises h n) (cappedTargets_le p _ _ _ n _ (List.getElem?_eq_getElem within)) before

/-- A law of a single record that the operations and the new targets keep is kept by the event. -/
theorem OutletSteps.keeps {allowed : Nat → RecordKind → Prop} {s t : State} (Law : Outlet → Prop)
    (op : ∀ n profile o kind o', (kind = .plain ∨ allowed n kind) → RecordOp profile o kind o' → Law o → Law o')
    (give : ∀ p part curtail mayRaise o t, t ≤ rawTarget p part curtail o → Law o → Law (giveTarget mayRaise o t))
    (steps : OutletSteps allowed s t) (law : ∀ o ∈ s.outlets, Law o) : ∀ o ∈ t.outlets, Law o := by
  intro o' mem
  obtain ⟨n, found'⟩ := List.mem_iff_getElem?.mp mem
  have within : n < s.outlets.length := by rw [← steps.length]; exact (List.getElem?_eq_some_iff.mp found').1
  exact steps.relates (n := n) (o := s.outlets[n]) (R := fun u v => Law u → Law v) (fun _ => id)
    (fun profile o u kind v ok record before l => op n profile u kind v ok record (before l))
    (fun p part curtail mayRaise o u t _ le before l => give p part curtail mayRaise u t le (before l))
    (List.getElem?_eq_getElem within) found' (law _ (List.getElem_mem within))

/-! What the operations of session changes leave of the records. -/

section
variable (o : Outlet)

@[simp] theorem dropShares_session : (dropShares o).session = o.session := by unfold dropShares; split <;> rfl
@[simp] theorem dropShares_supervision : (dropShares o).supervision = o.supervision := by unfold dropShares; split <;> rfl
@[simp] theorem dropShares_meter : (dropShares o).meter = o.meter := by unfold dropShares; split <;> rfl
@[simp] theorem dropShares_clashCount : (dropShares o).clashCount = o.clashCount := by unfold dropShares; split <;> rfl
@[simp] theorem dropShares_setpointDuty : (dropShares o).setpointDuty = o.setpointDuty := by unfold dropShares; split <;> rfl
@[simp] theorem dropShares_target : (dropShares o).share.target = o.share.target := by unfold dropShares; split <;> rfl

end

/-- The record with the fields of AMEND, before its state is settled (R12). -/
def amendedRecord (p : Profile) (need departure vanMax : Nat) (o : Outlet) : Outlet :=
  reclampBorrow { o with session := amendedSession p need departure vanMax o.session }

/-- The state of an amended record settled from the state found and the need left (R13). -/
def settleAmended (a : Outlet) : Outlet :=
  match a.session.state with
  | .paused => if a.session.need = 0 then topOutlet a else a
  | .charging => if a.session.need = 0 then topOutlet a else a
  | .topped => if a.session.need = 0 then a else repauseOutlet a
  | .stalled => if a.session.need = 0 then topOutlet a else repauseOutlet a
  | .vacant => a
  | .faulted => a

theorem amendOutlet_eq_settle (p : Profile) (need departure vanMax : Nat) (o : Outlet) :
    amendOutlet p need departure vanMax o = settleAmended (amendedRecord p need departure vanMax o) := rfl

/-- AMEND settles the state from the one found and the need left (R13): TOPPED without need, PAUSED again from TOPPED and STALLED with need. -/
theorem amendOutlet_cases (p : Profile) (need departure vanMax : Nat) {o : Outlet} (occupied : o.session.state ≠ .vacant)
    (sound : o.session.state ≠ .faulted) :
    ((amendedRecord p need departure vanMax o).session.need = 0 ∧ o.session.state ≠ .topped ∧
      amendOutlet p need departure vanMax o = topOutlet (amendedRecord p need departure vanMax o)) ∨
    ((amendedRecord p need departure vanMax o).session.need = 0 ∧ o.session.state = .topped ∧
      amendOutlet p need departure vanMax o = amendedRecord p need departure vanMax o) ∨
    ((amendedRecord p need departure vanMax o).session.need ≠ 0 ∧ inPair o.session.state = true ∧
      amendOutlet p need departure vanMax o = amendedRecord p need departure vanMax o) ∨
    ((amendedRecord p need departure vanMax o).session.need ≠ 0 ∧ (o.session.state = .topped ∨ o.session.state = .stalled) ∧
      amendOutlet p need departure vanMax o = repauseOutlet (amendedRecord p need departure vanMax o)) := by
  have settled : (amendedRecord p need departure vanMax o).session.state = o.session.state := rfl
  rw [← settled] at occupied sound ⊢
  rw [amendOutlet_eq_settle]
  unfold settleAmended
  split
  case h_1 state | h_2 state => split_ifs with zero <;> simp [zero, state, inPair]
  case h_3 state | h_4 state => split_ifs with zero <;> simp [zero, state]
  case h_5 state => exact absurd state occupied
  case h_6 state => exact absurd state sound

/-- The charge does not stand still: a completion raises delivered and takes one from a need that is left, but in TOPPED (R21). -/
theorem completeSession_eq {r : Session} (occupied : r.state ≠ .vacant) :
    completeSession r =
      { r with delivered := min (r.delivered + 1) 65535, need := if r.state = .topped then r.need else r.need - 1 } := by
  unfold completeSession countDelivered
  split <;> simp_all

theorem completeSession_of_vacant {r : Session} (vacant : r.state = .vacant) : completeSession r = r := by
  simp [completeSession, vacant]

theorem topsAfter_iff (r : Session) :
    topsAfter r = true ↔ (r.state = .paused ∨ r.state = .charging ∨ r.state = .stalled) ∧ r.need ≤ 1 := by
  unfold topsAfter; split <;> simp_all

/-- The new target that a recomputation may give at all: none for a session that takes none (R137). -/
theorem rawTarget_of_noTarget (p : Profile) (part : Participation) (curtail : Nat) {o : Outlet}
    (idle : o.session.state = .vacant ∨ o.session.state = .topped ∨ o.session.state = .faulted) : rawTarget p part curtail o = 0 := by
  rw [rawTarget_eq_tableTarget, tableTarget, if_pos (.inr (.inr idle))]

/-! O35: targets. -/

/-- No operation raises a target; only a recomputation that may raise does (R141). -/
theorem RecordOp.target_le {profile : Option Profile} {o o' : Outlet} {kind : RecordKind} (op : RecordOp profile o kind o') :
    o'.share.target ≤ o.share.target := by
  cases op with
  | shared share target => exact target.le
  | amended p need departure vanMax loaded occupied sound =>
    rcases amendOutlet_cases p need departure vanMax occupied sound with ⟨-, -, h⟩ | ⟨-, -, h⟩ | ⟨-, -, h⟩ | ⟨-, -, h⟩ <;> rw [h]
    exacts [Nat.zero_le _, le_rfl, le_rfl, le_rfl]
  | ramped p => rw [rampOutlet_share]
  | stalled => exact (dropShares_target o).le
  | faulted | closed | toppedUp => exact Nat.zero_le _
  | _ => exact le_rfl

/-- An event that may raise no target raises none. -/
theorem OutletSteps.target_le {allowed : Nat → RecordKind → Prop} {s t : State} {n : Nat} {o o' : Outlet} (steps : OutletSteps allowed s t)
    (noRaise : ¬ allowed n .raised) (found : s.outlets[n]? = some o) (found' : t.outlets[n]? = some o') :
    o'.share.target ≤ o.share.target := by
  refine steps.relates (R := fun o u => u.share.target ≤ o.share.target) (fun o => le_rfl)
    (fun _ _ _ _ _ _ op before => op.target_le.trans before) (fun _ _ _ mayRaise o u t raises _ before => ?_) found found'
  cases mayRaise with
  | true => exact absurd (raises rfl) noRaise
  | false =>
    rw [giveTarget_share]
    exact (Nat.min_le_right _ _).trans before

theorem afterReset_cleared {straps : Straps} {held : List ResetCause} {ignore : Bool} {pending : List Instr} {o : Outlet}
    (mem : o ∈ (State.afterReset straps held ignore pending).outlets) : o = Outlet.cleared := List.eq_of_mem_replicate mem

/-- Settles O35: a target rises only at a recomputation that may raise, and `CommandAllows` holds the events that bring one. -/
theorem targetRisesOnlyWhereItMay : Obligations.TargetRisesOnlyWhereItMay := by
  unfold Obligations.TargetRisesOnlyWhereItMay
  intro c s t n o o' step found found' rises
  cases reset : isReset c with
  | true =>
    rcases exec_reset_cases reset step with ⟨outlets, -⟩ | ⟨straps, held, ignore, rfl, -⟩
    · rw [outlets, found] at found'
      obtain rfl := Option.some.inj found'
      exact absurd rises (lt_irrefl _)
    · rw [afterReset_cleared (List.mem_of_getElem? found')] at rises
      exact absurd rises (Nat.not_lt_zero _)
  | false =>
    by_contra noRaise
    exact absurd rises ((commandSteps_of_exec reset step).target_le noRaise found found').not_gt

/-! O24: need and delivered. -/

/-- What a session holds of its order: need set, tag, census number and van max, its need and what was delivered of it. -/
def orderOf (o : Outlet) : Nat × List Byte × Option CensusNumber × Nat × Nat × Nat :=
  (o.session.needSet, o.session.tag, o.session.openedIn, o.session.vanMax, o.session.need, o.session.delivered)

theorem orderOf_meter (o : Outlet) (meter : Meter) : orderOf { o with meter := meter } = orderOf o := rfl

/-- The operations that touch what a session holds of its order. -/
def isOrderKind : RecordKind → Bool
  | .opened | .amended | .closed | .completed => true
  | .plain | .raised | .ramped | .unstalled | .charged _ => false

theorem RecordOp.orderOf_eq {profile : Option Profile} {o o' : Outlet} {kind : RecordKind} (op : RecordOp profile o kind o')
    (other : isOrderKind kind = false) : orderOf o' = orderOf o := by
  cases op with
  | faulted | stalled => simp [orderOf, faultOutlet, stallOutlet]
  | snapshot theta =>
    simp only [orderOf, snapshotSession]
    split_ifs <;> rfl
  | ticked =>
    rw [tickRecord_eq]
    split <;> rfl
  | ramped p =>
    unfold rampOutlet
    split_ifs <;> rfl
  | opened | amended | closed | completed | toppedUp => cases other
  | charged | counted => exact orderOf_meter o _
  | _ => rfl

theorem giveTarget_orderOf (mayRaise : Bool) (o : Outlet) (t : Nat) : orderOf (giveTarget mayRaise o t) = orderOf o := by
  simp only [orderOf]
  rw [giveTarget_session]

theorem OutletSteps.orderOf_eq {allowed : Nat → RecordKind → Prop} {s t : State} {n : Nat} {o o' : Outlet} (steps : OutletSteps allowed s t)
    (others : ∀ kind, allowed n kind → isOrderKind kind = false) (found : s.outlets[n]? = some o) (found' : t.outlets[n]? = some o') :
    orderOf o' = orderOf o := by
  refine steps.relates (R := fun o u => orderOf u = orderOf o) (fun _ => rfl) (fun _ _ _ kind _ ok op before => ?_)
    (fun _ _ _ _ _ _ _ _ _ before => by rw [giveTarget_orderOf, before]) found found'
  rcases ok with rfl | ok
  · rw [op.orderOf_eq rfl, before]
  · rw [op.orderOf_eq (others kind ok), before]

/-- A completion at an outlet makes of its session what `completeSession` makes, as far as its order goes (R21). -/
theorem takeCompletion_orderOf {n : Nat} {s : State} {o o' : Outlet} (found : s.outlets[n]? = some o)
    (found' : (takeCompletion n s).outlets[n]? = some o') : orderOf o' = orderOf { o with session := completeSession o.session } := by
  have completed : (modifyOutlet n (fun o => { o with session := completeSession o.session }) s).outlets[n]? =
      some { o with session := completeSession o.session } := by rw [modifyOutlet_getElem?, found]; simp
  simp only [takeCompletion, found] at found'
  split at found'
  case isTrue last =>
    have topped : (modifyOutlet n topOutlet (modifyOutlet n (fun o => { o with session := completeSession o.session }) s)).outlets[n]? =
        some (topOutlet { o with session := completeSession o.session }) := by rw [modifyOutlet_getElem?, completed]; simp
    rw [enterTopped] at found'
    have steps : OutletSteps (fun _ _ => False) (raise (.topped n) (modifyOutlet n topOutlet
        (modifyOutlet n (fun o => { o with session := completeSession o.session }) s))) _ := lower_steps _
    rw [steps.orderOf_eq (fun _ => False.elim) topped found']
    simp [orderOf, topOutlet]
  case isFalse => exact congrArg orderOf (Option.some.inj (completed.symm.trans found')).symm

/-- A charge at an outlet leaves its order or completes one ampere-minute (R147, R149). -/
theorem takeCharge_orderOf {n charge : Nat} {s : State} {o o' : Outlet} (found : s.outlets[n]? = some o)
    (found' : (takeCharge n charge s).outlets[n]? = some o') :
    orderOf o' = orderOf o ∨ orderOf o' = orderOf { o with session := completeSession o.session } := by
  simp only [takeCharge, found] at found'
  have counted : (modifyOutlet n (fun o => { o with meter := countQuantum (integrate charge o.meter) }) s).outlets[n]? =
      some { o with meter := countQuantum (integrate charge o.meter) } := by rw [modifyOutlet_getElem?, found]; simp
  have integrated : (modifyOutlet n (fun o => { o with meter := integrate charge o.meter }) s).outlets[n]? =
      some { o with meter := integrate charge o.meter } := by rw [modifyOutlet_getElem?, found]; simp
  split_ifs at found'
  · exact .inr ((takeCompletion_orderOf counted found').trans (orderOf_meter { o with session := completeSession o.session } _))
  · exact .inl (Option.some.inj (counted.symm.trans found') ▸ orderOf_meter o _)
  · exact .inl (Option.some.inj (integrated.symm.trans found') ▸ orderOf_meter o _)

/-- The outcomes of one completion for need and delivered (R21): one off the need, or none where it is 0 or the session TOPPED. -/
theorem orderOf_complete {o o' : Outlet} (order : orderOf o' = orderOf { o with session := completeSession o.session }) :
    o'.session.needSet = o.session.needSet ∧ o'.session.tag = o.session.tag ∧ o'.session.openedIn = o.session.openedIn ∧
    o'.session.vanMax = o.session.vanMax ∧
    ((o'.session.need = o.session.need ∧ o'.session.delivered = o.session.delivered) ∨
      (o'.session.delivered = min (o.session.delivered + 1) 65535 ∧
        (o'.session.need + 1 = o.session.need ∨ (o.session.need = 0 ∨ o.session.state = .topped) ∧ o'.session.need = o.session.need))) := by
  simp only [orderOf, Prod.mk.injEq] at order
  obtain ⟨needSet, tag, openedIn, vanMax, need, delivered⟩ := order
  by_cases vacant : o.session.state = .vacant
  · rw [completeSession_of_vacant vacant] at needSet tag openedIn vanMax need delivered
    exact ⟨needSet, tag, openedIn, vanMax, .inl ⟨need, delivered⟩⟩
  · rw [completeSession_eq vacant] at needSet tag openedIn vanMax need delivered
    refine ⟨needSet, tag, openedIn, vanMax, .inr ⟨delivered, ?_⟩⟩
    split at need <;> rename_i topped
    · exact .inr ⟨.inr topped, need⟩
    · replace need : o'.session.need = o.session.need - 1 := need
      by_cases zero : o.session.need = 0
      · exact .inr ⟨.inl zero, by omega⟩
      · exact .inl (by omega)

theorem orderOf_parts {o o' : Outlet} (order : orderOf o' = orderOf o) :
    o'.session.needSet = o.session.needSet ∧ o'.session.tag = o.session.tag ∧ o'.session.openedIn = o.session.openedIn ∧
    o'.session.vanMax = o.session.vanMax ∧ o'.session.need = o.session.need ∧ o'.session.delivered = o.session.delivered := by
  simpa only [orderOf, Prod.mk.injEq] using order

/-- A command that is no draw at outlet n, no OPEN, AMEND or CLOSE and no reset leaves the order of its session. -/
theorem CommandSteps.orderOf_eq {c : Instr} {s t : State} {n : Nat} {o o' : Outlet} (steps : CommandSteps c s t) (sets : setsNeed c = false)
    (noDraw : ∀ charge, c ≠ .drawQuantum n charge ∧ c ≠ .ampMinuteCompletion n charge)
    (found : s.outlets[n]? = some o) (found' : t.outlets[n]? = some o') : orderOf o' = orderOf o := by
  refine OutletSteps.orderOf_eq steps (fun kind ok => ?_) found found'
  cases kind with
  | opened => exact absurd (sets.symm.trans ok) (by decide)
  | amended => exact absurd (sets.symm.trans ok.1) (by decide)
  | closed =>
    obtain ⟨shifted, rfl⟩ := ok
    cases sets
  | completed =>
    obtain ⟨charge, draw⟩ := ok
    exact (draw.elim (noDraw charge).1 (noDraw charge).2).elim
  | _ => rfl

/-- Settles O24. A draw at the own outlet brings at most one completion, and no other command touches what a session holds of its order. -/
theorem needIsConserved : Obligations.NeedIsConserved := by
  unfold Obligations.NeedIsConserved
  intro c s t n o o' noReset sets step found found'
  by_cases draw : ∃ charge, c = .drawQuantum n charge ∨ c = .ampMinuteCompletion n charge
  · obtain ⟨charge, draw⟩ := draw
    have order : orderOf o' = orderOf o ∨ orderOf o' = orderOf { o with session := completeSession o.session } := by
      have stood (same : t = s) : orderOf o' = orderOf o := by
        rw [same, found] at found'
        rw [← Option.some.inj found']
      rcases draw with rfl | rfl <;> obtain rfl := Host.Outcome.next.inj step
      · rcases whenRunning_cases (takeCharge n charge) s with ⟨-, h⟩ | ⟨-, h⟩
        · exact .inl (stood h)
        · rw [h] at found'
          exact takeCharge_orderOf found found'
      · rcases whenRunning_cases (fun s => if completesMinute n charge s then takeCharge n charge s else s) s with ⟨-, h⟩ | ⟨-, h⟩
        · exact .inl (stood h)
        · by_cases completing : completesMinute n charge s = true
          · rw [h, if_pos completing] at found'
            exact takeCharge_orderOf found found'
          · exact .inl (stood (by rw [h, if_neg completing]))
    rcases order with order | order
    · obtain ⟨needSet, tag, openedIn, vanMax, moved⟩ := orderOf_parts order
      exact ⟨needSet, tag, openedIn, vanMax, .inl moved⟩
    · obtain ⟨needSet, tag, openedIn, vanMax, moved⟩ := orderOf_complete order
      exact ⟨needSet, tag, openedIn, vanMax, moved.imp_right fun moved => ⟨charge, draw, moved⟩⟩
  · have noDraw (charge : Nat) : c ≠ .drawQuantum n charge ∧ c ≠ .ampMinuteCompletion n charge :=
      ⟨fun h => draw ⟨charge, .inl h⟩, fun h => draw ⟨charge, .inr h⟩⟩
    obtain ⟨needSet, tag, openedIn, vanMax, moved⟩ :=
      orderOf_parts ((commandSteps_of_exec noReset step).orderOf_eq sets noDraw found found')
    exact ⟨needSet, tag, openedIn, vanMax, .inl moved⟩

end Sys2Proof.Machine
end

section
/-! PROOFS. The laws of the supervision, session and meter records: kept by every operation on a record, and so by every command. -/

set_option Elab.async false

namespace Sys2Proof.Machine

/-- A law of single records is kept by every command where the operations and new targets keep it and the cleared record meets it. -/
theorem law_of_exec {c : Instr} {s t : State} (Law : Outlet → Prop) (cleared : Law .cleared)
    (op : ∀ n profile o kind o', (kind = .plain ∨ CommandAllows c s t n kind) → RecordOp profile o kind o' → Law o → Law o')
    (give : ∀ p part curtail mayRaise o t, t ≤ rawTarget p part curtail o → Law o → Law (giveTarget mayRaise o t))
    (law : ∀ o ∈ s.outlets, Law o) (step : exec c s = .next t) : ∀ o ∈ t.outlets, Law o := by
  cases reset : isReset c with
  | false => exact OutletSteps.keeps Law op give (commandSteps_of_exec reset step) law
  | true =>
    rcases exec_reset_cases reset step with ⟨outlets, -⟩ | ⟨straps, held, ignore, rfl, -⟩
    · rwa [outlets]
    · intro o mem
      rwa [afterReset_cleared mem]

/-! O33: supervision. -/

/-- A release output that is not driven has counted fewer than 8 windows. -/
theorem SupervisionLaw.count_below {o : Outlet} (law : SupervisionLaw o) (deasserted : o.supervision.releaseDriven = false) :
    o.supervision.releaseCount ≤ 7 := by
  obtain ⟨-, -, -, -, count, driven, -⟩ := law
  have : o.supervision.releaseCount ≠ 8 := fun h => by simp [driven.mpr h] at deasserted
  omega

theorem SupervisionLaw.deasserted {o : Outlet} (law : SupervisionLaw o) (occupied : o.session.state ≠ .vacant)
    (sound : o.session.state ≠ .faulted) : o.supervision.releaseDriven = false := by
  obtain ⟨-, -, -, -, -, -, idle⟩ := law
  by_contra driven
  exact (idle (by simpa using driven)).elim occupied sound

/-- The law goes over to a record with the same supervision whose session state stands while the output is driven. -/
theorem SupervisionLaw.of_same {o o' : Outlet} (law : SupervisionLaw o) (supervision : o'.supervision = o.supervision)
    (state : o.supervision.releaseDriven = true → o'.session.state = o.session.state) : SupervisionLaw o' := by
  obtain ⟨history, overdraw, stall, unstall, count, driven, idle⟩ := law
  rw [SupervisionLaw, supervision]
  exact ⟨history, overdraw, stall, unstall, count, driven, fun h => state h ▸ idle h⟩

/-- The law of a record whose output is not driven: its counts stand below their ends. -/
theorem SupervisionLaw.of_deasserted {o : Outlet} (deasserted : o.supervision.releaseDriven = false)
    (history : o.supervision.history.length = 8) (overdraw : o.supervision.overdrawCount ≤ 3) (stall : o.supervision.stallCount ≤ 239)
    (unstall : o.supervision.unstallCount ≤ 3) (count : o.supervision.releaseCount ≤ 7) : SupervisionLaw o :=
  ⟨history, overdraw, stall, unstall, by omega, by simp [deasserted]; omega, by simp [deasserted]⟩

theorem amendOutlet_supervision (p : Profile) (need departure vanMax : Nat) {o : Outlet} (occupied : o.session.state ≠ .vacant)
    (sound : o.session.state ≠ .faulted) :
    (amendOutlet p need departure vanMax o).supervision = o.supervision ∨
      (amendOutlet p need departure vanMax o).supervision = { o.supervision with stallCount := 0, unstallCount := 0 } := by
  rcases amendOutlet_cases p need departure vanMax occupied sound with ⟨-, -, h⟩ | ⟨-, -, h⟩ | ⟨-, -, h⟩ | ⟨-, -, h⟩ <;> rw [h]
  · exact .inr (by simp [topOutlet, amendedRecord, reclampBorrow])
  · exact .inl rfl
  · exact .inl rfl
  · exact .inr rfl

/-- The ramp at a record: the window maximum, and the stall count of a session that goes CHARGING (R143, R158). -/
theorem rampOutlet_cases (p : Profile) (o : Outlet) :
    rampOutlet p o = o ∨
    (o.session.state = .paused ∧ (rampOutlet p o).session.state = .charging ∧
      (rampOutlet p o).supervision =
        { o.supervision with stallCount := 0, windowMax := max o.supervision.windowMax (rampedOffer p o.session.offer o.share.target) }) ∨
    ((rampOutlet p o).session.state = o.session.state ∧
      (rampOutlet p o).supervision =
        { o.supervision with windowMax := max o.supervision.windowMax (rampedOffer p o.session.offer o.share.target) }) := by
  unfold rampOutlet
  split_ifs with _ starts
  · exact .inl rfl
  · simp only [startsCharging, Bool.and_eq_true, beq_iff_eq] at starts
    exact .inr (.inl ⟨starts.1.1, rfl, rfl⟩)
  · exact .inr (.inr ⟨rfl, rfl⟩)

/-- Every operation keeps the law of a supervision record (R150 to R158). -/
theorem RecordOp.keepsSupervision {profile : Option Profile} {o o' : Outlet} {kind : RecordKind} (op : RecordOp profile o kind o')
    (law : SupervisionLaw o) : SupervisionLaw o' := by
  obtain ⟨history, overdraw, stall, unstall, count, driven, idle⟩ := id law
  cases op with
  | history => exact ⟨by simp [enterHistory, history], overdraw, stall, unstall, count, driven, idle⟩
  | faulted kind occupied sound =>
    exact .of_deasserted (by simpa [faultOutlet] using law.deasserted occupied sound) (by simpa [faultOutlet] using history)
      (Nat.zero_le _) (Nat.zero_le _) (Nat.zero_le _) (Nat.zero_le _)
  | stalled charging =>
    have off := law.deasserted (by simp [charging]) (by simp [charging])
    exact .of_deasserted (by simpa [stallOutlet] using off) (by simpa [stallOutlet] using history) (by simpa [stallOutlet] using overdraw)
      (Nat.zero_le _) (Nat.zero_le _) (by simpa [stallOutlet] using law.count_below off)
  | overdrawCounted c below => exact ⟨history, below, stall, unstall, count, driven, idle⟩
  | stallCounted c below => exact ⟨history, overdraw, below, unstall, count, driven, idle⟩
  | unstallCounted c below => exact ⟨history, overdraw, stall, below, count, driven, idle⟩
  | releaseCounted c below deasserted => exact .of_deasserted deasserted history overdraw stall unstall below
  | released isIdle => exact ⟨history, overdraw, stall, unstall, le_rfl, by simp, fun _ => isIdle⟩
  | ticked =>
    rw [tickRecord_eq]
    split <;> exact law
  | snapshot theta => exact law.of_same rfl fun _ => snapshotSession_state theta o.session
  | unstalled stalled =>
    have off := law.deasserted (by simp [stalled]) (by simp [stalled])
    exact .of_deasserted off history overdraw (Nat.zero_le _) (Nat.zero_le _) (law.count_below off)
  | ramped p =>
    rcases rampOutlet_cases p o with h | ⟨paused, -, h⟩ | ⟨state, h⟩
    · rwa [h]
    · have off := law.deasserted (by simp [paused]) (by simp [paused])
      exact .of_deasserted (by rw [h]; exact off) (by rw [h]; exact history) (by rw [h]; exact overdraw) (by rw [h]; exact Nat.zero_le _)
        (by rw [h]; exact unstall) (by rw [h]; exact law.count_below off)
    · rw [SupervisionLaw, h, state]
      exact ⟨history, overdraw, stall, unstall, count, driven, idle⟩
  | opened p number need departure vanMax tag loaded vacant deasserted =>
    exact .of_deasserted deasserted history overdraw stall unstall (Nat.zero_le _)
  | amended p need departure vanMax loaded occupied sound =>
    have off := law.deasserted occupied sound
    have below := law.count_below off
    rcases amendOutlet_supervision p need departure vanMax occupied sound with h | h
    · exact .of_deasserted (by rwa [h]) (by rwa [h]) (by rwa [h]) (by rwa [h]) (by rwa [h]) (by rwa [h])
    · exact .of_deasserted (by rwa [h]) (by rwa [h]) (by rwa [h]) (by rw [h]; exact Nat.zero_le _) (by rw [h]; exact Nat.zero_le _)
        (by rwa [h])
  | closed => exact .of_deasserted rfl rfl (Nat.zero_le _) (Nat.zero_le _) (Nat.zero_le _) (Nat.zero_le _)
  | completed => exact law.of_same rfl fun _ => completeSession_state o.session
  | toppedUp last =>
    obtain ⟨active, -⟩ := (topsAfter_iff _).mp last
    have off := law.deasserted (by rcases active with h | h | h <;> simp [h]) (by rcases active with h | h | h <;> simp [h])
    exact .of_deasserted (by simpa [topOutlet] using off) (by simpa [topOutlet] using history) (by simpa [topOutlet] using overdraw)
      (Nat.zero_le _) (Nat.zero_le _) (by simpa [topOutlet] using law.count_below off)
  | charged | counted => exact law.of_same rfl fun _ => rfl
  | _ => exact law

theorem giveTarget_keepsSupervision (mayRaise : Bool) {o : Outlet} (t : Nat) (law : SupervisionLaw o) :
    SupervisionLaw (giveTarget mayRaise o t) := by
  obtain ⟨history, overdraw, -, unstall, count, driven, idle⟩ := id law
  have state (driven : o.supervision.releaseDriven = true) : (giveTarget mayRaise o t).session.state = o.session.state := by
    rcases giveTarget_state o mayRaise t with h | ⟨charging, -⟩
    · exact h
    · rw [law.deasserted (by simp [charging]) (by simp [charging])] at driven
      cases driven
  rcases giveTarget_supervision o mayRaise t with h | h
  · exact law.of_same h state
  · rw [SupervisionLaw, h]
    exact ⟨history, overdraw, Nat.zero_le _, unstall, count, driven, fun h => state h ▸ idle h⟩

/-- A driven release output stays driven over every operation but CLOSE (R157). -/
theorem RecordOp.keepsRelease {profile : Option Profile} {o o' : Outlet} {kind : RecordKind} (op : RecordOp profile o kind o')
    (notClosed : kind ≠ .closed) (driven : o.supervision.releaseDriven = true) : o'.supervision.releaseDriven = true := by
  cases op with
  | faulted | stalled | toppedUp => simpa [faultOutlet, stallOutlet, topOutlet] using driven
  | ticked => rw [tickRecord_eq]; split <;> exact driven
  | ramped p => rcases rampOutlet_cases p o with h | ⟨-, -, h⟩ | ⟨-, h⟩ <;> rw [h] <;> exact driven
  | amended p need departure vanMax loaded occupied sound =>
    rcases amendOutlet_supervision p need departure vanMax occupied sound with h | h <;> rw [h] <;> exact driven
  | closed => exact absurd rfl notClosed
  | released => rfl
  | _ => exact driven

theorem giveTarget_releaseDriven (mayRaise : Bool) (o : Outlet) (t : Nat) :
    (giveTarget mayRaise o t).supervision.releaseDriven = o.supervision.releaseDriven := by
  rcases giveTarget_supervision o mayRaise t with h | h <;> rw [h]

theorem releaseDriven_iff (s : State) (n : Nat) :
    releaseDriven s n = true ↔ ∃ o, s.outlets[n]? = some o ∧ o.supervision.releaseDriven = true := by
  unfold releaseDriven
  cases s.outlets[n]? <;> simp

/-- Settles O33: each operation keeps the law of its record, and none but CLOSE ends a driven release output. -/
theorem supervisionLawIsKept : Obligations.SupervisionLawIsKept := by
  unfold Obligations.SupervisionLawIsKept
  refine ⟨fun c s t law step => law_of_exec SupervisionLaw ?_ (fun _ _ _ _ _ _ op => op.keepsSupervision)
    (fun _ _ _ mayRaise _ t _ => giveTarget_keepsSupervision mayRaise t) law step, ?_⟩
  · exact .of_deasserted rfl rfl (Nat.zero_le _) (Nat.zero_le _) (Nat.zero_le _) (Nat.zero_le _)
  · intro c s t n _ noReset notClose step driven
    have steps := commandSteps_of_exec noReset step
    obtain ⟨o, found, driven⟩ := (releaseDriven_iff s n).mp driven
    have within : n < t.outlets.length := by rw [OutletSteps.length steps]; exact (List.getElem?_eq_some_iff.mp found).1
    refine (releaseDriven_iff t n).mpr ⟨_, List.getElem?_eq_getElem within, ?_⟩
    refine steps.relates (R := fun o u => o.supervision.releaseDriven = true → u.supervision.releaseDriven = true) (fun _ => id)
      (fun _ _ _ kind _ ok op before driven => op.keepsRelease ?_ (before driven))
      (fun _ _ _ _ _ _ _ _ _ before driven => by rw [giveTarget_releaseDriven]; exact before driven)
      found (List.getElem?_eq_getElem within) driven
    rintro rfl
    rcases ok with ok | ⟨shifted, ok⟩
    · cases ok
    · exact notClose shifted ok

/-! O40: session and meter. -/

/-- The law of a session record taken by itself: `SessionLaw` without what it says of a VACANT outlet. -/
structure RecordLaw (r : Session) : Prop where
  needSet : r.needSet ≤ 65535
  need : r.need ≤ r.needSet
  departure : r.departure ≤ 2047
  delivered : r.delivered ≤ 65535
  tag : r.tag.length ≤ 16
  laxity : ∀ l, r.laxity = some l → -2048 ≤ l ∧ l ≤ 2047
  active : r.state = .paused ∨ r.state = .charging ∨ r.state = .stalled → 0 < r.need
  topped : r.state = .topped → r.need = 0
  faulted : r.faultKind.isSome ↔ r.state = .faulted
  overdue : r.departure = 0 → 0 < r.need → r.overdue = true

theorem sessionLaw_iff (o : Outlet) :
    SessionLaw o ↔ RecordLaw o.session ∧ (o.session.state = .vacant → o.session = Session.cleared ∧ o.share = Share.cleared) := by
  constructor
  · rintro ⟨needSet, need, departure, delivered, tag, laxity, vacant, active, topped, faulted, overdue⟩
    exact ⟨⟨needSet, need, departure, delivered, tag, laxity, active, topped, faulted, overdue⟩, vacant⟩
  · rintro ⟨⟨needSet, need, departure, delivered, tag, laxity, active, topped, faulted, overdue⟩, vacant⟩
    exact ⟨needSet, need, departure, delivered, tag, laxity, vacant, active, topped, faulted, overdue⟩

/-- PAUSED, CHARGING and STALLED, the states of a session with need left (R7). -/
def isActive (st : SessionState) : Prop := st = .paused ∨ st = .charging ∨ st = .stalled

namespace RecordLaw
variable {r : Session} (law : RecordLaw r)
include law

/-- A session moves between PAUSED, CHARGING and STALLED with its record but for the offer. -/
theorem move (before : isActive r.state) {st : SessionState} (after : isActive st) (offer : Nat) :
    RecordLaw { r with state := st, offer := offer } where
  __ := law
  active := fun _ => law.active before
  topped := by rcases after with rfl | rfl | rfl <;> exact nofun
  faulted := by
    have notFaulted : r.state ≠ .faulted := by rcases before with h | h | h <;> simp [h]
    have none := law.faulted.not.mpr notFaulted
    rcases after with rfl | rfl | rfl <;> simpa using none

theorem withOffer (offer : Nat) : RecordLaw { r with offer := offer } where
  __ := law

theorem enterFaulted (kind : SessionFault) : RecordLaw { r with state := .faulted, offer := 0, faultKind := some kind } where
  __ := law
  active := by rintro (h | h | h) <;> cases h
  topped := nofun
  faulted := by simp

theorem enterTopped (sound : r.state ≠ .faulted) (zero : r.need = 0) : RecordLaw { r with state := .topped, offer := 0 } where
  __ := law
  active := by rintro (h | h | h) <;> cases h
  topped := fun _ => zero
  faulted := by simpa using law.faulted.not.mpr sound

/-- AMEND applied to a record, as far as the state found allows the need that it leaves (R12, R19). -/
theorem amended (p : Profile) {need : Nat} (departure vanMax : Nat) (need_le : need ≤ 65535) {st : SessionState} {offer : Nat}
    (active : isActive st → 0 < amendedField r.need need) (topped : st = .topped → amendedField r.need need = 0)
    (sound : r.state ≠ .faulted) (stays : st ≠ .faulted) :
    RecordLaw { amendedSession p need departure vanMax r with state := st, offer := offer } where
  needSet := by
    show amendedField r.need need ≤ 65535
    have := law.need; have := law.needSet
    unfold amendedField; split <;> omega
  need := le_rfl
  departure := by
    show (if departure = keepCode then r.departure else clampDeparture departure) ≤ 2047
    have := law.departure
    unfold clampDeparture; split <;> omega
  delivered := law.delivered
  tag := law.tag
  laxity := law.laxity
  active := active
  topped := topped
  faulted := by
    have none := law.faulted.not.mpr sound
    constructor
    · exact fun h => absurd h none
    · exact fun h => absurd h stays
  overdue := by
    intro zero left
    replace zero : (if departure = keepCode then r.departure else clampDeparture departure) = 0 := zero
    replace left : 0 < amendedField r.need need := left
    show (if (if departure = keepCode then r.departure else clampDeparture departure) = 0 then
      r.overdue || decide (0 < amendedField r.need need) else false) = true
    simp [zero, left]

theorem completed (more : topsAfter r = false) : RecordLaw (completeSession r) := by
  by_cases vacant : r.state = .vacant
  · rwa [completeSession_of_vacant vacant]
  have fewer : (if r.state = .topped then r.need else r.need - 1) ≤ r.need := by split <;> omega
  rw [completeSession_eq vacant]
  exact
    { law with
      need := fewer.trans law.need
      delivered := Nat.min_le_right _ _
      active := fun active => by
        have several : ¬ r.need ≤ 1 := fun last => by simp [(topsAfter_iff r).mpr ⟨active, last⟩] at more
        have notTopped : r.state ≠ .topped := by rcases active with h | h | h <;> simp [show r.state = _ from h]
        show 0 < if r.state = .topped then r.need else r.need - 1
        rw [if_neg notTopped]; omega
      topped := fun h => by
        show (if r.state = .topped then r.need else r.need - 1) = 0
        rw [if_pos h, law.topped h]
      overdue := fun zero left => law.overdue zero (lt_of_lt_of_le left fewer) }

/-- The completion that takes the last of the need, with the state TOPPED that it brings (R7, R21). -/
theorem toppedUp (last : topsAfter r = true) : RecordLaw { completeSession r with state := .topped, offer := 0 } := by
  obtain ⟨active, le⟩ := (topsAfter_iff r).mp last
  have occupied : r.state ≠ .vacant := by rcases active with h | h | h <;> simp [h]
  have sound : r.state ≠ .faulted := by rcases active with h | h | h <;> simp [h]
  have zero : (if r.state = .topped then r.need else r.need - 1) = 0 := by split <;> rename_i h <;> simp_all
  rw [completeSession_eq occupied]
  exact
    { law with
      need := by show (if r.state = .topped then r.need else r.need - 1) ≤ r.needSet; omega
      delivered := Nat.min_le_right _ _
      active := by rintro (h | h | h) <;> cases h
      topped := fun _ => zero
      faulted := by simpa using law.faulted.not.mpr sound
      overdue := fun _ left => absurd zero (Nat.ne_of_gt left) }

theorem snapshot (theta : Nat) : RecordLaw (snapshotSession theta r) := by
  unfold snapshotSession
  split_ifs
  · exact law
  · exact { law with laxity := nofun }
  · exact { law with laxity := fun l h => by obtain rfl := Option.some.inj h; unfold laxityOf; omega }

theorem ticked : RecordLaw (tickSession r) := by
  unfold tickSession
  split_ifs with _ zero
  · exact law
  · exact law
  · exact
      { law with
        departure := by have := law.departure; show r.departure - 1 ≤ 2047; omega
        overdue := fun last left => by
          replace last : r.departure - 1 = 0 := last
          replace left : 0 < r.need := left
          have one : r.departure = 1 := by omega
          simp [one, left] }

end RecordLaw

theorem topOutlet_session (o : Outlet) : (topOutlet o).session = { o.session with state := .topped, offer := 0 } := by simp [topOutlet]

/-- A record that is not VACANT keeps the law where its session does. -/
theorem SessionLaw.of_record {o : Outlet} (law : RecordLaw o.session) (occupied : o.session.state ≠ .vacant) : SessionLaw o :=
  (sessionLaw_iff o).mpr ⟨law, fun h => absurd h occupied⟩

/-- Cleared records, as after CLOSE and after reset, meet the law. -/
theorem SessionLaw.of_cleared {o : Outlet} (session : o.session = .cleared) (share : o.share = .cleared) : SessionLaw o := by
  refine (sessionLaw_iff o).mpr ⟨?_, fun _ => ⟨session, share⟩⟩
  rw [session]
  exact
    { needSet := Nat.zero_le _
      need := le_rfl
      departure := Nat.zero_le _
      delivered := Nat.zero_le _
      tag := Nat.zero_le _
      laxity := nofun
      active := by rintro (h | h | h) <;> cases h
      topped := nofun
      faulted := by decide
      overdue := fun _ left => absurd left (lt_irrefl _) }

theorem openedSession_lawful (p : Profile) (number : CensusNumber) (need departure vanMax : Nat) (tag : List Byte) (need_le : need ≤ 65535)
    (tag_le : tag.length ≤ 16) : RecordLaw (openedSession p number need departure vanMax tag) where
  needSet := need_le
  need := le_rfl
  departure := by show min departure 2047 ≤ 2047; omega
  delivered := Nat.zero_le _
  tag := tag_le
  laxity := nofun
  active := by
    intro active
    by_contra zero
    have zero : need = 0 := by have : ¬ 0 < need := zero; omega
    simp [openedSession, zero] at active
  topped := by
    intro topped
    by_contra some
    have : need ≠ 0 := some
    simp [openedSession, this] at topped
  faulted := by
    have : (openedSession p number need departure vanMax tag).state ≠ .faulted := by unfold openedSession; dsimp only; split <;> simp
    simpa [openedSession] using this
  overdue := by
    intro zero left
    replace zero : clampDeparture departure = 0 := zero
    replace left : 0 < need := left
    simp [openedSession, zero, left]

theorem amendOutlet_lawfulSession (p : Profile) {need : Nat} (departure vanMax : Nat) {o : Outlet} (occupied : o.session.state ≠ .vacant)
    (sound : o.session.state ≠ .faulted) (need_le : need ≤ 65535) (law : RecordLaw o.session) :
    SessionLaw (amendOutlet p need departure vanMax o) := by
  have left : (amendedRecord p need departure vanMax o).session.need = amendedField o.session.need need := rfl
  rcases amendOutlet_cases p need departure vanMax occupied sound with ⟨zero, -, h⟩ | ⟨zero, state, h⟩ | ⟨some, state, h⟩ | ⟨some, state, h⟩ <;>
    rw [h] <;> rw [left] at *
  · refine .of_record ?_ (by simp [topOutlet])
    rw [topOutlet_session]
    exact law.amended p departure vanMax need_le (by rintro (h | h | h) <;> cases h) (fun _ => zero) sound nofun
  · refine .of_record ?_ occupied
    exact law.amended p (st := o.session.state) (offer := o.session.offer) departure vanMax need_le
      (by rintro (h | h | h) <;> rw [state] at h <;> cases h) (fun _ => zero) sound sound
  · refine .of_record ?_ occupied
    exact law.amended p (st := o.session.state) (offer := o.session.offer) departure vanMax need_le (fun _ => Nat.pos_of_ne_zero some)
      (fun topped => by rw [topped] at state; cases state) sound sound
  · refine .of_record ?_ (by simp [repauseOutlet])
    exact law.amended p (st := .paused) (offer := 0) departure vanMax need_le (fun _ => Nat.pos_of_ne_zero some) nofun sound nofun

/-- Every operation keeps the law of a session record with its share record. -/
theorem RecordOp.keepsSession {profile : Option Profile} {o o' : Outlet} {kind : RecordKind} (op : RecordOp profile o kind o')
    (law : SessionLaw o) : SessionLaw o' := by
  obtain ⟨record, vacant⟩ := (sessionLaw_iff o).mp law
  cases op with
  | faulted kind occupied sound => exact .of_record (by simpa [faultOutlet] using record.enterFaulted kind) (by simp [faultOutlet])
  | stalled charging =>
    refine .of_record ?_ (by simp [stallOutlet])
    simpa [stallOutlet] using record.move (.inr (.inl charging)) (.inr (.inr rfl)) o.session.offer
  | borrowed b zero =>
    refine (sessionLaw_iff _).mpr ⟨record, fun free => ?_⟩
    obtain ⟨session, share⟩ := vacant free
    refine ⟨session, ?_⟩
    show { o.share with b := b } = Share.cleared
    rw [zero (by rw [share]; rfl), share]; rfl
  | shared share target stands =>
    refine (sessionLaw_iff _).mpr ⟨record, fun free => ?_⟩
    obtain ⟨session, cleared⟩ := vacant free
    exact ⟨session, (stands free).trans cleared⟩
  | snapshot theta =>
    refine (sessionLaw_iff _).mpr ⟨record.snapshot theta, fun free => ?_⟩
    have free : o.session.state = .vacant := (snapshotSession_state theta o.session).symm.trans free
    exact (snapshotSession_of_vacant theta free).symm ▸ vacant free
  | ticked =>
    refine (sessionLaw_iff _).mpr ⟨record.ticked, fun free => ?_⟩
    rw [tickRecord_eq] at free ⊢
    split at free <;> rename_i due
    · exact absurd free due.1
    · rw [if_neg due]; exact vacant free
  | unstalled stalled => exact .of_record (record.move (.inr (.inr stalled)) (.inr (.inl rfl)) o.session.offer) nofun
  | ramped p =>
    unfold rampOutlet
    split_ifs with covered starts
    · exact law
    · simp only [startsCharging, Bool.and_eq_true, beq_iff_eq] at starts
      exact .of_record (record.move (.inl starts.1.1) (.inr (.inl rfl)) _) nofun
    · refine .of_record (record.withOffer _) fun free => covered ?_
      obtain ⟨-, share⟩ := vacant free
      rw [share]; exact Nat.zero_le _
  | opened p number need departure vanMax tag loaded free deasserted need_le tag_le =>
    refine .of_record (openedSession_lawful p number need departure vanMax tag need_le tag_le) ?_
    show (if need = 0 then SessionState.topped else .paused) ≠ .vacant
    split <;> simp
  | amended p need departure vanMax loaded occupied sound need_le =>
    exact amendOutlet_lawfulSession p departure vanMax occupied sound need_le record
  | closed =>
    exact .of_cleared rfl rfl
  | completed more =>
    refine (sessionLaw_iff _).mpr ⟨record.completed more, fun free => ?_⟩
    have free : o.session.state = .vacant := (completeSession_state o.session).symm.trans free
    exact (completeSession_of_vacant free).symm ▸ vacant free
  | toppedUp last =>
    refine .of_record ?_ (by simp [topOutlet])
    rw [topOutlet_session]
    exact record.toppedUp last
  | charged | counted => exact (sessionLaw_iff _).mpr ⟨record, vacant⟩
  | _ => exact law

/-- A new target within the raw one keeps the law: a VACANT outlet is given none (R137). -/
theorem giveTarget_keepsSession (p : Profile) (part : Participation) (curtail : Nat) (mayRaise : Bool) {o : Outlet} {t : Nat}
    (within : t ≤ rawTarget p part curtail o) (law : SessionLaw o) : SessionLaw (giveTarget mayRaise o t) := by
  obtain ⟨record, vacant⟩ := (sessionLaw_iff o).mp law
  refine (sessionLaw_iff _).mpr ⟨?_, fun free => ?_⟩
  · rw [giveTarget_session]
    rcases giveTarget_state o mayRaise t with h | ⟨charging, h, -⟩ <;> rw [h]
    · exact record.withOffer _
    · exact record.move (.inr (.inl charging)) (.inl rfl) _
  · rcases giveTarget_state o mayRaise t with h | ⟨-, h, -⟩ <;> rw [h] at free
    · obtain ⟨session, share⟩ := vacant free
      have zero : t = 0 := by
        rw [rawTarget_of_noTarget p part curtail (.inl free)] at within; omega
      have noOffer : o.session.offer = 0 := by rw [session]; rfl
      rw [giveTarget_of_le (by rw [free]; exact nofun) (by rw [noOffer]; exact Nat.zero_le _)]
      refine ⟨session, ?_⟩
      dsimp only
      rw [share, zero]; cases mayRaise <;> rfl
    · cases free

/-- A charge within one quantum keeps the law of the meter (R147, R149). -/
theorem RecordOp.keepsMeter {profile : Option Profile} {o o' : Outlet} {kind : RecordKind} (op : RecordOp profile o kind o')
    (quantum : ∀ charge, kind = .charged charge → charge ≤ 25000) (law : MeterLaw o) : MeterLaw o' := by
  obtain ⟨charge, windowCount, remainder⟩ := id law
  cases op with
  | meterFull | meterCut => exact ⟨charge, Nat.zero_le _, remainder⟩
  | faulted | stalled | toppedUp => simpa [MeterLaw, faultOutlet, stallOutlet, topOutlet] using law
  | ticked => rw [tickRecord_eq]; split <;> exact law
  | ramped p => unfold rampOutlet; split_ifs <;> exact law
  | amended p need departure vanMax loaded occupied sound =>
    have meter : (amendOutlet p need departure vanMax o).meter = o.meter := by
      rcases amendOutlet_cases p need departure vanMax occupied sound with ⟨-, -, h⟩ | ⟨-, -, h⟩ | ⟨-, -, h⟩ | ⟨-, -, h⟩ <;> rw [h]
      · simp [topOutlet, amendedRecord, reclampBorrow]
      all_goals rfl
    rwa [MeterLaw, meter]
  | charged c short =>
    have below : ¬ 25000 ≤ o.meter.charge + c := of_decide_eq_false short
    exact ⟨by show o.meter.charge + c < 25000; omega, windowCount, remainder⟩
  | counted c reaches =>
    have le := quantum c rfl
    refine ⟨?_, Nat.min_le_right _ _, ?_⟩
    · show o.meter.charge + c - 25000 < 25000
      omega
    · show (if o.meter.remainder + 1 < 2400 then o.meter.remainder + 1 else 0) < 2400
      split <;> omega
  | _ => exact law

/-- Settles O40: each operation keeps both laws of its record; a draw in its range charges at most one quantum. -/
theorem sessionAndMeterLawsAreKept : Obligations.SessionAndMeterLawsAreKept := by
  unfold Obligations.SessionAndMeterLawsAreKept
  intro c s t wellFormed law step
  refine law_of_exec (fun o => SessionLaw o ∧ MeterLaw o) ?_ (fun n profile o kind o' ok op law => ⟨op.keepsSession law.1, op.keepsMeter ?_ law.2⟩)
    (fun p part curtail mayRaise o t within law => ⟨giveTarget_keepsSession p part curtail mayRaise within law.1, ?_⟩) law step
  · exact ⟨.of_cleared rfl rfl, by decide, by decide, by decide⟩
  · rintro charge rfl
    rcases ok with ok | draw
    · cases ok
    · rcases draw with rfl | rfl <;> simp_all [Instr.wellFormed, wellFormedCharge]
  · rw [MeterLaw, giveTarget_meter]; exact law.2

end Sys2Proof.Machine
end

section
/-! PROOFS. What the events leave of the census, the line and the Feeder Watch: the frame of a missed period, of an abandonment and of an order
on borrow, and with them the laws of participation, of the line and of the Feeder Watch. -/

set_option Elab.async false

namespace Sys2Proof.Machine

/-! Frames of the events that several commands share. -/

section
variable (s : State)

/-- Entry into ISLANDED leaves everything but the participation, the outlets' records and the events (R70). -/
theorem enterIslanded_eq :
    enterIslanded s = { s with
      census.participation := .islanded
      outlets := (enterIslanded s).outlets
      host.events := s.host.events ||| eventFlag .islanded } := by
  unfold enterIslanded recompute
  split <;> rfl

/-- The census after a missed period (R65, R69, R70). -/
def missedCensus (e : CensusEngine) : CensusEngine :=
  { e with
    missed := if e.participation = .offline then e.missed else min 3 (e.missed + 1)
    participation :=
      if e.missed = 2 ∧ (e.participation = .listening ∨ e.participation = .joined) then .islanded else e.participation }

theorem takesPart_iff : takesPart s = true ↔ s.census.participation ≠ .offline := by simp [takesPart]

theorem countMissed_eq :
    countMissed s = { s with
      census.missed := if s.census.participation = .offline then s.census.missed else min 3 (s.census.missed + 1) } := by
  unfold countMissed
  by_cases offline : s.census.participation = .offline
  · rw [if_neg (by rw [takesPart_iff]; exact not_not.mpr offline), if_pos offline]
  · rw [if_pos ((takesPart_iff s).mpr offline), if_neg offline]

/-- A missed period leaves everything but the census's count and participation, the outlets' records and the events (R69, R70). -/
theorem missPeriod_eq :
    missPeriod s = { s with
      census := missedCensus s.census
      outlets := (missPeriod s).outlets
      host.events := (missPeriod s).host.events } := by
  rcases missPeriod_cases s with ⟨no, h⟩ | ⟨yes, h⟩ <;> rw [h]
  · have stays := (reachesThree_iff s).not.mp (by simp [no])
    rw [countMissed_eq, missedCensus, if_neg stays]
  · rw [enterIslanded_eq, countMissed_eq, missedCensus, if_pos ((reachesThree_iff s).mp yes)]

theorem missPeriod_census : (missPeriod s).census = missedCensus s.census := by rw [missPeriod_eq]
theorem missPeriod_feeder : (missPeriod s).feeder = s.feeder := by rw [missPeriod_eq]
theorem missPeriod_shares : (missPeriod s).shares = s.shares := by rw [missPeriod_eq]
theorem missPeriod_profile : (missPeriod s).host.profile = s.host.profile := by rw [missPeriod_eq]

/-- The census after an abandonment (R80, R81). -/
def abandonedCensus (e : CensusEngine) : CensusEngine := if e.frame = none then e else missedCensus { e with frame := none }

theorem abandon_census : (abandon s).census = abandonedCensus s.census := by
  rcases abandon_cases s with ⟨none, h⟩ | ⟨some, h⟩ <;> rw [h, abandonedCensus]
  · rw [if_pos none]
  · rw [if_neg some, missPeriod_census]; rfl

theorem abandon_feeder : (abandon s).feeder = s.feeder := by
  rcases abandon_cases s with ⟨-, h⟩ | ⟨-, h⟩ <;> rw [h]
  rw [missPeriod_feeder]; rfl

theorem abandon_shares : (abandon s).shares = s.shares := by
  rcases abandon_cases s with ⟨-, h⟩ | ⟨-, h⟩ <;> rw [h]
  rw [missPeriod_shares]; rfl

theorem abandon_profile : (abandon s).host.profile = s.host.profile := by
  rcases abandon_cases s with ⟨-, h⟩ | ⟨-, h⟩ <;> rw [h]
  rw [missPeriod_profile]; rfl

end

theorem missedCensus_frame (e : CensusEngine) : (missedCensus e).frame = e.frame := rfl

theorem abandonedCensus_frame (e : CensusEngine) : (abandonedCensus e).frame = none := by
  unfold abandonedCensus
  split
  · assumption
  · rfl

/-- An order on borrow leaves everything but the curtail count and the outlets' records (R124). -/
theorem takeOrder_eq (order : BorrowOrder) (s : State) :
    takeOrder order s = { s with
      shares.curtail := if order = .zeroAndCurtail then 3 else s.shares.curtail
      outlets := (takeOrder order s).outlets } := by
  cases order <;> simp only [takeOrder, recompute] <;> split <;> rfl

theorem takeOrder_line (order : BorrowOrder) (s : State) : (takeOrder order s).line = s.line := by rw [takeOrder_eq]
theorem takeOrder_feeder (order : BorrowOrder) (s : State) : (takeOrder order s).feeder = s.feeder := by rw [takeOrder_eq]
theorem takeOrder_host (order : BorrowOrder) (s : State) : (takeOrder order s).host = s.host := by rw [takeOrder_eq]

/-- A hush-class run leaves the line, the census and the profile; the feeder's hush request is dropped, but where a hush is heard without a
profile (R48, R125, R126). -/
theorem handHush_line (r : Run) (s : State) : (handHush r s).line = s.line := by
  unfold handHush hearHush; split_ifs <;> simp [takeOrder_line]

theorem handHush_profile (r : Run) (s : State) : (handHush r s).host.profile = s.host.profile := by
  unfold handHush hearHush; split_ifs <;> simp [takeOrder_host]

/-! The part that the Feeder Watch plays at a full window end. -/

theorem judgeLimits_frame (p : Profile) (f : Nat) (s : State) :
    (judgeLimits p f s).line = s.line ∧ (judgeLimits p f s).census = s.census ∧
      (judgeLimits p f s).host.profile = s.host.profile := by
  unfold judgeLimits noteTrip noteOverload
  dsimp only
  split_ifs <;> simp [takeOrder_line, takeOrder_census, takeOrder_host]

theorem judgeReading_frame (p : Profile) (r : Reading) (s : State) :
    (judgeReading p r s).line = s.line ∧ (judgeReading p r s).census = s.census ∧
      (judgeReading p r s).host.profile = s.host.profile := by
  unfold judgeReading
  split
  · exact judgeLimits_frame p _ _
  · split_ifs
    · simp [loseSense, takeOrder_line, takeOrder_census, takeOrder_host]
    · exact ⟨rfl, rfl, rfl⟩
  · split_ifs <;> exact ⟨rfl, rfl, rfl⟩
  · exact ⟨rfl, rfl, rfl⟩

theorem feederFullWindow_frame (s : State) :
    (feederFullWindow s).line = s.line ∧ (feederFullWindow s).census = s.census ∧
      (feederFullWindow s).host.profile = s.host.profile := by
  unfold feederFullWindow
  split
  · exact ⟨rfl, rfl, rfl⟩
  · split_ifs
    · exact ⟨rfl, rfl, rfl⟩
    · obtain ⟨line, census, profile⟩ := judgeReading_frame _ (readingOf _ s.feeder.windowSum)
        { s with feeder := recordReading s.census.windowIndex (readingOf _ s.feeder.windowSum) s.feeder }
      exact ⟨line, census, profile⟩

/-- A full window end moves the window clock of the census alone, and the line only where a request is served (R63, R50). -/
theorem endFullWindow_frame (feederFirst : Bool) (s : State) :
    ∃ t : State, endFullWindow feederFirst s = serve t ∧ t.line = s.line ∧ t.host.profile = s.host.profile ∧
      t.census = { s.census with windowIndex := (s.census.windowIndex + 1) % 8, windowMs := 0 } := by
  refine ⟨_, rfl, ?_⟩
  cases feederFirst
  · obtain ⟨line, census, profile⟩ := feederFullWindow_frame (outletsFullWindow s)
    have frame := outletsFullWindow_frame s
    refine ⟨line.trans frame.line, profile.trans frame.profile, ?_⟩
    simp only [Bool.false_eq_true, ↓reduceIte, census, frame.census]
  · obtain ⟨line, census, profile⟩ := feederFullWindow_frame s
    have frame := outletsFullWindow_frame (feederFullWindow s)
    refine ⟨frame.line.trans line, frame.profile.trans profile, ?_⟩
    simp only [↓reduceIte, frame.census, census]

/-! O39: the laws of participation and of the line, taken together, as they both read the census in progress. -/

/-- The law of participation, read off the census and the profile. -/
def CensusLaw (e : CensusEngine) (profile : Option Profile) : Prop :=
  (e.participation = .offline ↔ profile = none) ∧
  (e.participation = .islanded ↔ e.missed = 3) ∧
  e.missed ≤ 3 ∧
  (e.participation = .offline → e.missed = 0) ∧
  (e.frame.isSome → e.participation ≠ .offline) ∧
  (e.frame.isSome ∨ e.participation = .joined → e.reachedFrameZero = true)

/-- The law of the line, read off the transceiver and the census in progress. -/
def TransceiverLaw (l : Transceiver) (frame : Option Frame) : Prop :=
  (l.state = .pulse → l.run ≠ none) ∧
  (l.state = .free → l.run = none) ∧
  (frame ≠ none → l.state = .frame) ∧
  (l.bitDrive = true → frame ≠ none) ∧
  (l.bitHeld = true → l.state = .frame)

/-- Both laws of a state. -/
def RhythmLaw (s : State) : Prop := CensusLaw s.census s.host.profile ∧ TransceiverLaw s.line s.census.frame

theorem rhythmLaw_iff (s : State) : RhythmLaw s ↔ ParticipationLaw s ∧ LineLaw s := Iff.rfl

section
variable {s t : State}

theorem RhythmLaw.of_same (law : RhythmLaw s) (line : t.line = s.line := by rfl) (census : t.census = s.census := by rfl)
    (profile : t.host.profile = s.host.profile := by rfl) : RhythmLaw t := by
  rwa [RhythmLaw, line, census, profile]

theorem RhythmLaw.of_outletFrame (law : RhythmLaw s) (frame : OutletFrame s t) : RhythmLaw t :=
  law.of_same frame.line frame.census frame.profile

/-- The law reads the line's state, its run and the drive of a frame bit, and nothing more. -/
theorem TransceiverLaw.of_same {l l' : Transceiver} {frame : Option Frame} (law : TransceiverLaw l frame) (state : l'.state = l.state)
    (run : l'.run = l.run) (bitDrive : l'.bitDrive = l.bitDrive) (bitHeld : l'.bitHeld = l.bitHeld) : TransceiverLaw l' frame := by
  rwa [TransceiverLaw, state, run, bitDrive, bitHeld]

theorem serve_keepsRhythm (law : RhythmLaw s) : RhythmLaw (serve s) := by
  rcases serve_cases s with h | ⟨-, -, -, -, h⟩ | ⟨-, -, -, h⟩ <;> rw [h]
  · exact law
  · exact ⟨law.1, law.2.of_same rfl rfl rfl rfl⟩
  · exact ⟨law.1, law.2.of_same rfl rfl rfl rfl⟩

/-- A missed period keeps the law of participation: the count reaches 3 just where the part goes ISLANDED (R69, R70). -/
theorem missedCensus_lawful {e : CensusEngine} {profile : Option Profile} (law : CensusLaw e profile) :
    CensusLaw (missedCensus e) profile := by
  obtain ⟨offline, islanded, le, zero, frame, reached⟩ := law
  unfold CensusLaw missedCensus
  dsimp only
  cases part : e.participation <;> simp_all <;> by_cases two : e.missed = 2 <;> simp_all <;> omega

theorem dropFrame_lawful {e : CensusEngine} {profile : Option Profile} (law : CensusLaw e profile) :
    CensusLaw { e with frame := none } profile := by
  obtain ⟨offline, islanded, le, zero, -, reached⟩ := law
  exact ⟨offline, islanded, le, zero, nofun, fun h => reached (.inr (h.resolve_left (by simp)))⟩

theorem abandonedCensus_lawful {e : CensusEngine} {profile : Option Profile} (law : CensusLaw e profile) :
    CensusLaw (abandonedCensus e) profile := by
  unfold abandonedCensus
  split
  · exact law
  · exact missedCensus_lawful (dropFrame_lawful law)

theorem missPeriod_keepsRhythm (law : RhythmLaw s) : RhythmLaw (missPeriod s) := by
  rw [RhythmLaw, missPeriod_census, missPeriod_profile, missPeriod_line, missedCensus_frame]
  exact ⟨missedCensus_lawful law.1, law.2⟩

/-- An abandonment leaves no census in progress and no bit driven, so the line needs no more than its run and state in order (R80). -/
theorem abandon_keepsRhythm (census : CensusLaw s.census s.host.profile) (pulse : s.line.state = .pulse → s.line.run ≠ none)
    (free : s.line.state = .free → s.line.run = none) (held : s.line.bitHeld = true → s.line.state = .frame) : RhythmLaw (abandon s) := by
  rw [RhythmLaw, abandon_census, abandon_profile, abandon_line, abandonedCensus_frame]
  exact ⟨abandonedCensus_lawful census, pulse, free, fun h => absurd rfl h, nofun, held⟩

theorem capture_keepsRhythm (kind : FaultKind) (outlet : Option Nat) (value : Nat) (law : RhythmLaw s) :
    RhythmLaw (capture kind outlet value s) :=
  law.of_outletFrame (capture_frame kind outlet value s)

theorem handHush_keepsRhythm (r : Run) (law : RhythmLaw s) : RhythmLaw (handHush r s) :=
  law.of_same (handHush_line r s) (handHush_census r s) (handHush_profile r s)

theorem reportAttempt_keepsRhythm (droveStart : Bool) (law : RhythmLaw s) : RhythmLaw (reportAttempt droveStart s) := by
  unfold reportAttempt
  split
  · exact missPeriod_keepsRhythm law
  · exact law

theorem goStuck_keepsRhythm (law : RhythmLaw s) : RhythmLaw (goStuck s) := by
  rcases goStuck_cases s with ⟨h, -⟩ | ⟨r, -, -, h⟩ <;> rw [h]
  · exact law
  · have abandoned : RhythmLaw (abandon { s with line := enterStuck s.line }) :=
      abandon_keepsRhythm law.1 (fun h => nomatch h) (fun h => nomatch h) (fun h => nomatch h)
    exact capture_keepsRhythm _ _ _ abandoned.of_same

/-- In STUCK and in FRAME a run ends without a change of line state. -/
theorem endRun_keepsRhythm (law : RhythmLaw s) (notPulse : s.line.state ≠ .pulse) : RhythmLaw { s with line := endRun s.line } := by
  obtain ⟨census, -, -, frame, drive, held⟩ := law
  exact ⟨census, fun h => absurd h notPulse, fun _ => rfl, frame, drive, held⟩

theorem goStuck_state {r : Run} (run : s.line.run = some r) : (goStuck s).line.state = .stuck := by
  rcases goStuck_cases s with ⟨h, none | stuck⟩ | ⟨r', -, -, h⟩
  · rw [run] at none; cases none
  · rw [h, stuck]
  · rw [h, capture_line, raise_line, abandon_line]; rfl

theorem endStuckRun_keepsRhythm {r : Run} (run : s.line.run = some r) (law : RhythmLaw s) : RhythmLaw (endStuckRun s) :=
  endRun_keepsRhythm (goStuck_keepsRhythm law) (by rw [goStuck_state run]; exact nofun)

theorem prepareFrame_census :
    (prepareFrame s).census = if s.census.participation = .offline then s.census
      else { s.census with frame := some (newFrame (snapshot s)), reachedFrameZero := true } := by
  unfold prepareFrame
  by_cases offline : s.census.participation = .offline
  · rw [if_neg (by rw [takesPart_iff]; exact not_not.mpr offline), if_pos offline]
  · rw [if_pos ((takesPart_iff s).mpr offline), if_neg offline]
    dsimp only
    split_ifs <;> simp

theorem prepareFrame_profile : (prepareFrame s).host.profile = s.host.profile := by
  unfold prepareFrame
  split
  · dsimp only; split_ifs <;> simp
  · rfl

theorem cutWindow_census : (cutWindow s).census = { s.census with windowIndex := 0, windowMs := 0 } := by
  show { (outletsCutWindow (feederCutWindow s)).census with windowIndex := 0, windowMs := 0 } = _
  rw [(outletsCutWindow_frame (feederCutWindow s)).census]; rfl

/-- The part is prepared for a census: outside OFFLINE a frame stands and frame zero is reached (R67, R72). -/
theorem prepareFrame_lawful (law : CensusLaw s.census s.host.profile) :
    CensusLaw (prepareFrame s).census (prepareFrame s).host.profile := by
  rw [prepareFrame_profile, prepareFrame_census]
  split <;> rename_i part
  · exact law
  · obtain ⟨offline, islanded, le, zero, -, -⟩ := law
    exact ⟨offline, islanded, le, zero, fun _ => part, fun _ => rfl⟩

theorem cutWindow_lawful (law : CensusLaw s.census s.host.profile) : CensusLaw (cutWindow s).census (cutWindow s).host.profile := by
  rw [cutWindow_census, cutWindow_profile]
  exact law

theorem frameZero_keepsRhythm (boundaryFirst : Bool) (law : RhythmLaw s) : RhythmLaw (frameZero boundaryFirst s) := by
  have begun : CensusLaw { s.census with timerMs := 2000, frame := none } s.host.profile := dropFrame_lawful law.1
  refine ⟨?_, ?_⟩
  · dsimp only [frameZero]
    split
    · exact prepareFrame_lawful (cutWindow_lawful begun)
    · exact cutWindow_lawful (prepareFrame_lawful begun)
  · rw [frameZero_line]
    exact ⟨nofun, nofun, fun _ => rfl, nofun, nofun⟩

theorem settled_keepsRhythm (law : RhythmLaw s) (notFrame : s.line.state ≠ .frame) : RhythmLaw { s with line := settleLine s.line } := by
  obtain ⟨census, -, -, frame, drive, held⟩ := law
  exact ⟨census, nofun, fun _ => rfl, fun h => absurd (frame h) notFrame, drive, fun h => absurd (held h) notFrame⟩

theorem endPulse_keepsRhythm {r : Run} (samples : Nat) (boundaryFirst : Bool) (run : s.line.run = some r) (notFrame : s.line.state ≠ .frame)
    (law : RhythmLaw s) : RhythmLaw (endPulse r samples boundaryFirst s) := by
  have settled := settled_keepsRhythm law notFrame
  unfold endPulse
  split
  · split
    · exact frameZero_keepsRhythm boundaryFirst law
    · exact reportAttempt_keepsRhythm _ (handHush_keepsRhythm r settled)
    · exact reportAttempt_keepsRhythm _ settled
    · exact reportAttempt_keepsRhythm _ settled
    · exact endStuckRun_keepsRhythm run law
  · split
    · exact endStuckRun_keepsRhythm run law
    all_goals exact settled

theorem trailEdge_keepsRhythm (samples : Nat) (boundaryFirst : Bool) (law : RhythmLaw s) : RhythmLaw (trailEdge samples boundaryFirst s) := by
  unfold trailEdge
  split
  · exact law
  · next r run =>
    split
    · next inFrame =>
      unfold endFrameRun
      split
      · exact endStuckRun_keepsRhythm run law
      · exact endRun_keepsRhythm law (by rw [inFrame]; exact nofun)
    · next stuck => exact endRun_keepsRhythm law (by rw [stuck]; exact nofun)
    · next settling => exact endPulse_keepsRhythm samples boundaryFirst run (by rw [settling]; exact nofun) law
    · next free => exact endPulse_keepsRhythm samples boundaryFirst run (by rw [free]; exact nofun) law
    · next pulse => exact endPulse_keepsRhythm samples boundaryFirst run (by rw [pulse]; exact nofun) law

theorem leadEdge_keepsRhythm (bit : Nat) (law : RhythmLaw s) : RhythmLaw { s with line := leadEdge bit s.line } := by
  obtain ⟨census, pulse, free, frame, drive, held⟩ := law
  refine ⟨census, ?_⟩
  dsimp only
  unfold leadEdge newRun
  split <;> split <;> rename_i run state <;> simp_all [TransceiverLaw]

theorem reachFree_keepsRhythm (law : RhythmLaw s) : RhythmLaw (reachFree s) := by
  have freed (run : s.line.run = none) (notFrame : s.line.state ≠ .frame) :
      RhythmLaw { s with line.state := .free, line.recessiveCount := 12 } := by
    obtain ⟨census, -, -, frame, drive, held⟩ := law
    exact ⟨census, nofun, fun _ => run, fun h => absurd (frame h) notFrame, drive, fun h => absurd (held h) notFrame⟩
  unfold reachFree
  split
  · exact law
  · next run =>
    split
    · next state => exact serve_keepsRhythm (freed run (by rw [state]; exact nofun))
    · next state => exact serve_keepsRhythm (freed run (by rw [state]; exact nofun))
    all_goals exact law

theorem endStartPulse_keepsRhythm (law : RhythmLaw s) : RhythmLaw (endStartPulse s) := by
  unfold endStartPulse
  split
  · exact serve_keepsRhythm ⟨law.1, law.2.of_same rfl rfl rfl rfl⟩
  · exact law

theorem endHush_keepsRhythm (law : RhythmLaw s) : RhythmLaw (endHush s) := by
  obtain ⟨census, pulse, free, frame, drive, held⟩ := id law
  unfold endHush
  split
  · exact serve_keepsRhythm ⟨census, fun h => by simpa using pulse h, fun h => by simpa using free h, frame, drive, held⟩
  · exact law

theorem expireHoldOff_keepsRhythm (law : RhythmLaw s) : RhythmLaw (expireHoldOff s) := by
  unfold expireHoldOff
  split
  · exact law
  · exact serve_keepsRhythm ⟨law.1, law.2.of_same rfl rfl rfl rfl⟩

theorem echoPulse_keepsRhythm (law : RhythmLaw s) : RhythmLaw (echoPulse s) := by
  have released : RhythmLaw { s with line.drive := .idle } := ⟨law.1, law.2.of_same rfl rfl rfl rfl⟩
  unfold echoPulse
  split
  · exact law
  · exact serve_keepsRhythm (reportAttempt_keepsRhythm _ (capture_keepsRhythm _ _ _ released))
  · exact serve_keepsRhythm (capture_keepsRhythm _ _ _ released)

/-- The drive decided for the next bit is that of a census in progress (R54). -/
theorem decideDrive_keepsRhythm (law : RhythmLaw s) : RhythmLaw (decideDrive s) := by
  obtain ⟨census, pulse, free, frame, -, held⟩ := law
  exact ⟨census, pulse, free, frame, decideDrive_frame, held⟩

theorem storedFrame_keepsRhythm {f : Frame} (found : s.census.frame = some f) (f' : Frame) (law : RhythmLaw s) :
    RhythmLaw { s with census.frame := some f' } := by
  obtain ⟨⟨offline, islanded, le, zero, frame, reached⟩, pulse, free, inFrame, drive, held⟩ := law
  rw [found] at frame reached inFrame
  exact ⟨⟨offline, islanded, le, zero, fun _ => frame rfl, fun _ => reached (.inl rfl)⟩, pulse, free, fun _ => inFrame nofun,
    fun _ => nofun, held⟩

theorem handBit_keepsRhythm (k : Nat) (v drove : Bool) (law : RhythmLaw s) : RhythmLaw (handBit k v drove s) := by
  unfold handBit
  split
  · exact decideDrive_keepsRhythm law
  · next f found =>
    have stored := storedFrame_keepsRhythm found (storeBit k v drove f) law
    split_ifs
    · exact abandon_keepsRhythm stored.1 stored.2.1 stored.2.2.1 stored.2.2.2.2.2
    · exact decideDrive_keepsRhythm stored

/-- A bit is read in FRAME, where its drive is held to its end (R54, R55). -/
theorem readBit_keepsRhythm (a b c : Bool) (law : RhythmLaw s) : RhythmLaw (readBit a b c s) := by
  unfold readBit
  split
  case isFalse => exact law
  case isTrue due =>
    have inFrame : s.line.state = .frame := by
      simp only [bitDue, Bool.and_eq_true, beq_iff_eq] at due
      exact due.1
    obtain ⟨census, pulse, free, frame, drive, held⟩ := law
    have sampled : RhythmLaw { s with line := sampleBit a b c s.line } := ⟨census, pulse, free, frame, drive, fun _ => inFrame⟩
    split
    · exact capture_keepsRhythm _ _ _ (abandon_keepsRhythm census pulse free (fun _ => inFrame))
    · exact handBit_keepsRhythm _ _ _ sampled

/-! The end of a frame. -/

theorem examineClashes_frame (f : Frame) (s : State) : OutletFrame s (examineClashes f s) := by
  have counted : OutletFrame s (countClashes f (raiseIf (anyClash f s) .clash s)) := by
    unfold raiseIf; split <;> rfl
  refine forOutlets_keeps (OutletFrame s) _ (fun n t frame => frame.trans ?_) _ _ counted
  unfold faultClash
  split
  · exact .refl t
  · split
    · split
      · exact .refl t
      · exact .refl t
      all_goals exact (enterFaulted_frame _ _ _).trans (capture_frame _ _ _ _)
    · exact .refl t

theorem shareCompletion_frame (s : State) :
    (shareCompletion s).line = s.line ∧ (shareCompletion s).census = s.census ∧ (shareCompletion s).host = s.host ∧
      (shareCompletion s).feeder = s.feeder ∧ (shareCompletion s).shares.pool = s.shares.pool ∧
      (shareCompletion s).shares.curtail ≤ s.shares.curtail := by
  unfold shareCompletion
  split
  · exact ⟨rfl, rfl, rfl, rfl, rfl, le_rfl⟩
  · simp [updateBorrows, writeShares]

/-- A completion leaves the line and makes the part JOINED with a count of 0 and no census in progress (R82). -/
theorem complete_census (f : Frame) (s : State) :
    ∃ summary, (complete f s).census = { s.census with
      missed := 0, number := f.number, frame := none, participation := .joined, summary := summary, ageMs := some 2000 } := by
  have clashes := examineClashes_frame f { s with census.missed := 0, census.number := f.number, census.frame := none }
  refine ⟨(complete f s).census.summary, ?_⟩
  have written : (complete f s).census =
      { (completeShares f (completeCensus f s)).census with summary := (complete f s).census.summary, ageMs := some 2000 } := rfl
  have shares : (completeShares f (completeCensus f s)).census = (completeCensus f s).census := by
    show (shareCompletion _).census = _
    rw [shareCompletion_census]
  have joined : (completeCensus f s).census =
      { s.census with missed := 0, number := f.number, frame := none, participation := .joined } := by
    rw [completeCensus, join, raiseIf_census, clashes.census]
  rw [written, shares, joined]

theorem complete_line (f : Frame) (s : State) : (complete f s).line = s.line := by
  have clashes := examineClashes_frame f { s with census.missed := 0, census.number := f.number, census.frame := none }
  show (shareCompletion _).line = _
  rw [(shareCompletion_frame _).1]
  show (join _).line = _
  rw [join, raiseIf_line, clashes.line]

theorem complete_profile (f : Frame) (s : State) : (complete f s).host.profile = s.host.profile := by
  have clashes := examineClashes_frame f { s with census.missed := 0, census.number := f.number, census.frame := none }
  show (shareCompletion _).host.profile = _
  rw [(shareCompletion_frame _).2.2.1]
  show (join _).host.profile = _
  rw [join, raiseIf_profile, clashes.profile]

theorem endFrame_keepsRhythm (law : RhythmLaw s) : RhythmLaw (endFrame s) := by
  obtain ⟨census, -, -, -, -, -⟩ := id law
  obtain ⟨offline, islanded, le, zero, frame, reached⟩ := census
  unfold endFrame
  split
  · split
    · next f found =>
      obtain ⟨summary, completed⟩ := complete_census f { s with line := settleAfterFrame s.line }
      rw [RhythmLaw, completed, complete_line, complete_profile]
      have taken : s.census.participation ≠ .offline := frame (by rw [found]; rfl)
      refine ⟨⟨⟨nofun, fun none => absurd (offline.mpr none) taken⟩, ⟨nofun, nofun⟩, Nat.zero_le _, fun _ => rfl, nofun,
        fun _ => reached (.inl (by rw [found]; rfl))⟩, nofun, nofun, nofun, nofun, nofun⟩
    · next found =>
      exact ⟨⟨offline, islanded, le, zero, frame, reached⟩, nofun, nofun, fun some => absurd found some, nofun, nofun⟩
  · exact law

/-! The census timer, the windows and the requests. -/

theorem refreshFallback_keepsRhythm (law : RhythmLaw s) : RhythmLaw (refreshFallback s) := by
  unfold refreshFallback
  split
  · exact law.of_same (by simp) (by simp) (by simp)
  · exact law

theorem countMissed_keepsRhythm (law : RhythmLaw s) (noEntry : s.census.missed ≠ 2 ∨ s.census.participation = .islanded) :
    RhythmLaw (countMissed s) := by
  have stays : (missedCensus s.census) = (countMissed s).census := by
    rw [countMissed_eq, missedCensus, if_neg]
    rintro ⟨two, part⟩
    rcases noEntry with h | h
    · exact h two
    · rw [h] at part; rcases part with part | part <;> cases part
  rw [RhythmLaw, ← stays, countMissed_host, countMissed_line, missedCensus_frame]
  exact ⟨missedCensus_lawful law.1, law.2⟩

theorem missPeriodAtExpiry_keepsRhythm (law : RhythmLaw s) : RhythmLaw (missPeriodAtExpiry s) := by
  have census : (missPeriodAtExpiry s).census = (missPeriod s).census := by
    unfold missPeriodAtExpiry missPeriod
    split
    · rw [(enterIslanded_frame _).census, (enterIslanded_frame _).census]; simp
    · rfl
  have profile : (missPeriodAtExpiry s).host.profile = s.host.profile := by
    unfold missPeriodAtExpiry
    split
    · rw [(enterIslanded_frame _).profile]; simp
    · simp
  have line : (missPeriodAtExpiry s).line = s.line := by
    unfold missPeriodAtExpiry
    split
    · rw [(enterIslanded_frame _).line]; simp
    · simp
  exact (missPeriod_keepsRhythm law).of_same (line.trans (missPeriod_line s).symm) census (profile.trans (missPeriod_profile s).symm)

theorem expireTimer_keepsRhythm (law : RhythmLaw s) : RhythmLaw (expireTimer s) := by
  have placed : RhythmLaw (placeStartRequest { s with census.timerMs := 2000 }) := ⟨law.1, law.2.of_same rfl rfl rfl rfl⟩
  unfold expireTimer
  dsimp only
  split
  · split
    · exact refreshFallback_keepsRhythm (serve_keepsRhythm placed)
    · split
      · next islanded => exact refreshFallback_keepsRhythm (countMissed_keepsRhythm placed (.inr islanded))
      · exact missPeriodAtExpiry_keepsRhythm placed
  · exact ⟨law.1, law.2⟩

theorem endFullWindow_keepsRhythm (feederFirst : Bool) (law : RhythmLaw s) : RhythmLaw (endFullWindow feederFirst s) := by
  obtain ⟨t, h, line, profile, census⟩ := endFullWindow_frame feederFirst s
  rw [h]
  refine serve_keepsRhythm ?_
  rw [RhythmLaw, line, profile, census]
  exact law

theorem afterReset_rhythmLaw (straps : Straps) (held : List ResetCause) (ignore : Bool) (pending : List Instr) :
    RhythmLaw (.afterReset straps held ignore pending) :=
  ⟨⟨⟨fun _ => rfl, fun _ => rfl⟩, ⟨nofun, nofun⟩, Nat.zero_le _, fun _ => rfl, nofun, by rintro (h | h) <;> cases h⟩,
    nofun, nofun, fun h => absurd rfl h, nofun, nofun⟩

/-- LOAD PROFILE takes an OFFLINE part, whose count is 0, to LISTENING (R66). -/
theorem loadProfileRequest_keepsRhythm (body : List Byte) (law : RhythmLaw s) : RhythmLaw (loadProfileRequest body s) := by
  unfold loadProfileRequest
  split_ifs with _ loaded
  · exact law
  · exact law
  · exact law
  · obtain ⟨⟨offline, -, -, zero, frame, -⟩, line⟩ := law
    have none : s.host.profile = none := by simpa using loaded
    have noFrame : s.census.frame = .none := by
      by_contra some
      exact frame (Option.ne_none_iff_isSome.mp some) (offline.mpr none)
    have none_missed := zero (offline.mpr none)
    unfold storeProfile
    refine ⟨?_, ?_⟩
    · simp only [respond_census, respond_profile, recompute_census, recompute_host]
      exact ⟨⟨nofun, nofun⟩, ⟨nofun, fun h => by simp [none_missed] at h⟩, by simp [none_missed], nofun, fun _ => nofun,
        fun h => by simp [noFrame] at h⟩
    · simpa using line

theorem openRequest_frame (body : List Byte) (s : State) :
    (openRequest body s).line = s.line ∧ (openRequest body s).census = s.census ∧
      (openRequest body s).host.profile = s.host.profile ∧ (openRequest body s).feeder = s.feeder ∧ (openRequest body s).shares = s.shares := by
  unfold openRequest answerState openSessionOn
  split
  · exact ⟨rfl, rfl, rfl, rfl, rfl⟩
  · split
    · exact ⟨rfl, rfl, rfl, rfl, rfl⟩
    · split_ifs <;> simp

theorem amendRequest_frame (body : List Byte) (s : State) :
    (amendRequest body s).line = s.line ∧ (amendRequest body s).census = s.census ∧
      (amendRequest body s).host.profile = s.host.profile ∧ (amendRequest body s).feeder = s.feeder ∧
      (amendRequest body s).shares = s.shares := by
  unfold amendRequest answerState amendSessionOn
  split
  · exact ⟨rfl, rfl, rfl, rfl, rfl⟩
  · split_ifs
    · exact ⟨rfl, rfl, rfl, rfl, rfl⟩
    · exact ⟨rfl, rfl, rfl, rfl, rfl⟩
    · split
      · exact ⟨rfl, rfl, rfl, rfl, rfl⟩
      · simp

theorem closeRequest_frame (body : List Byte) (s : State) :
    (closeRequest body s).line = s.line ∧ (closeRequest body s).census = s.census ∧
      (closeRequest body s).host.profile = s.host.profile ∧ (closeRequest body s).feeder = s.feeder ∧
      (closeRequest body s).shares = s.shares := by
  unfold closeRequest answerState closeSessionOn
  split
  · exact ⟨rfl, rfl, rfl, rfl, rfl⟩
  · simp

theorem readOutletRequest_frame (body : List Byte) (s : State) :
    (readOutletRequest body s).line = s.line ∧ (readOutletRequest body s).census = s.census ∧
      (readOutletRequest body s).host.profile = s.host.profile ∧ (readOutletRequest body s).feeder = s.feeder ∧
      (readOutletRequest body s).shares = s.shares := by
  unfold readOutletRequest
  split <;> exact ⟨rfl, rfl, rfl, rfl, rfl⟩

theorem ageSummary_keepsRhythm (law : RhythmLaw s) : RhythmLaw (ageSummary s) := by
  unfold ageSummary
  split
  · exact law
  · exact ⟨law.1, law.2⟩

/-- Each event keeps both laws. -/
theorem CommandEffect.keepsRhythm (effect : CommandEffect s t) (law : RhythmLaw s) : RhythmLaw t := by
  cases effect with
  | profileLoaded body => exact loadProfileRequest_keepsRhythm body law
  | opened body =>
    obtain ⟨line, census, profile, -⟩ := openRequest_frame body s
    exact law.of_same line census profile
  | amended body =>
    obtain ⟨line, census, profile, -⟩ := amendRequest_frame body s
    exact law.of_same line census profile
  | closed body =>
    obtain ⟨line, census, profile, -⟩ := closeRequest_frame body s
    exact law.of_same line census profile
  | outletRead body =>
    obtain ⟨line, census, profile, -⟩ := readOutletRequest_frame body s
    exact law.of_same line census profile
  | reset straps held ignore => exact afterReset_rhythmLaw straps held ignore _
  | leadingEdge bit => exact leadEdge_keepsRhythm bit law
  | trailingEdge samples boundaryFirst => exact trailEdge_keepsRhythm samples boundaryFirst law
  | lineFree => exact reachFree_keepsRhythm law
  | startPulseEnd => exact endStartPulse_keepsRhythm law
  | hushDriveEnd => exact endHush_keepsRhythm law
  | holdOffExpiry => exact expireHoldOff_keepsRhythm law
  | lineStuck => exact goStuck_keepsRhythm law
  | pulseEcho => exact echoPulse_keepsRhythm law
  | bitRead a b c => exact readBit_keepsRhythm a b c law
  | frameEnd => exact endFrame_keepsRhythm law
  | timerExpiry => exact expireTimer_keepsRhythm law
  | fullWindow feederFirst => exact endFullWindow_keepsRhythm feederFirst law
  | minuteTick =>
    rw [minuteTick_frame]
    exact law
  | charge n c => exact law.of_outletFrame (takeCharge_frame n c s)
  | summaryAged => exact ageSummary_keepsRhythm law
  | stood | transactionOver | answered | eventsRead | faultCleared | maskSet | pwmPeriod | feederSample => exact law

end

/-- Settles O39: each event that a command can be keeps both laws. -/
theorem participationAndLineLawsAreKept : Obligations.ParticipationAndLineLawsAreKept := by
  unfold Obligations.ParticipationAndLineLawsAreKept
  intro c s t participation line step
  obtain ⟨t', answer, effect⟩ := exec_effect c s
  obtain rfl := Host.Outcome.next.inj (answer.symm.trans step)
  exact effect.keepsRhythm ⟨participation, line⟩

end Sys2Proof.Machine
end

section
/-! PROOFS. The law of the Feeder Watch and the range of the curtail count (obligation O41). -/

set_option Elab.async false

namespace Sys2Proof.Machine

/-- The law of the Feeder Watch read off its record (R112, R117, R119, R121 to R123). -/
structure WatchLaw (w : FeederWatch) : Prop where
  ring : w.ring.length ≤ 8
  overs : w.overCount ≤ 2
  trip : w.tripCount ≤ 2
  outOfBand : w.outOfBandCount ≤ 1
  inBand : w.inBandCount ≤ 7
  lost : w.sense = .lost → w.overCount = 0 ∧ w.tripCount = 0 ∧ w.outOfBandCount = 0
  samples : w.samples ≤ 40
  sum : w.windowSum ≤ 1023 * w.samples

theorem feederLaw_iff (s : State) : FeederLaw s ↔ WatchLaw s.feeder := by
  constructor
  · rintro ⟨ring, overs, trip, outOfBand, inBand, lost, samples, sum⟩
    exact ⟨ring, overs, trip, outOfBand, inBand, lost, samples, sum⟩
  · rintro ⟨ring, overs, trip, outOfBand, inBand, lost, samples, sum⟩
    exact ⟨ring, overs, trip, outOfBand, inBand, lost, samples, sum⟩

/-- The law of the Feeder Watch with the range of the curtail count. -/
def FeederCurtailLaw (s : State) : Prop := WatchLaw s.feeder ∧ s.shares.curtail ≤ 3

/-- A window begins (R112). -/
theorem WatchLaw.startWindow {w : FeederWatch} (law : WatchLaw w) : WatchLaw (startWindow w) :=
  { law with samples := Nat.zero_le _, sum := Nat.zero_le _ }

theorem WatchLaw.recordReading {w : FeederWatch} (law : WatchLaw w) (window : Nat) (r : Reading) : WatchLaw (recordReading window r w) :=
  { law with
    ring := by
      have := law.ring
      show (enterRing _ w.ring).length ≤ 8
      unfold enterRing
      split <;> simp <;> omega }

theorem WatchLaw.takeSample {w : FeederWatch} (law : WatchLaw w) (code : BitVec 10) : WatchLaw (takeSample code.toNat w) := by
  unfold Machine.takeSample
  split
  · next room =>
    have sum := law.sum
    have code_lt := code.isLt
    exact { law with samples := room, sum := by show w.windowSum + code.toNat ≤ 1023 * (w.samples + 1); omega }
  · exact law

theorem nextOver_le (p : Profile) (f overs : Nat) : nextOver p f overs ≤ 2 := by unfold nextOver; split <;> omega
theorem nextTrip_le (p : Profile) (f trip : Nat) : nextTrip p f trip ≤ 2 := by unfold nextTrip; split <;> omega

section
variable {s t : State}

theorem FeederCurtailLaw.of_same (law : FeederCurtailLaw s) (feeder : t.feeder = s.feeder) (shares : t.shares = s.shares) :
    FeederCurtailLaw t := by rwa [FeederCurtailLaw, feeder, shares]

theorem FeederCurtailLaw.of_outletFrame (law : FeederCurtailLaw s) (frame : OutletFrame s t) : FeederCurtailLaw t :=
  law.of_same frame.feeder frame.shares

theorem takeOrder_keepsFeeder (order : BorrowOrder) (law : FeederCurtailLaw s) : FeederCurtailLaw (takeOrder order s) := by
  rw [takeOrder_eq]
  refine ⟨law.1, ?_⟩
  show (if order = .zeroAndCurtail then 3 else s.shares.curtail) ≤ 3
  have := law.2
  split <;> omega

theorem capture_keepsFeeder (kind : FaultKind) (outlet : Option Nat) (value : Nat) (law : FeederCurtailLaw s) :
    FeederCurtailLaw (capture kind outlet value s) :=
  law.of_outletFrame (capture_frame kind outlet value s)

theorem raise_keepsFeeder (e : Event) (law : FeederCurtailLaw s) : FeederCurtailLaw (raise e s) := law

theorem noteOverload_keepsFeeder (p : Profile) (f overs : Nat) (law : FeederCurtailLaw s) : FeederCurtailLaw (noteOverload p f overs s) :=
  law.of_same (raiseIf_feeder _ _ s) (raiseIf_shares _ _ s)

theorem noteTrip_keepsFeeder (f trip : Nat) (law : FeederCurtailLaw s) : FeederCurtailLaw (noteTrip f trip s) := by
  have pending : FeederCurtailLaw { s with feeder.hushPending := true } := ⟨{ law.1 with }, law.2⟩
  unfold noteTrip
  split
  · exact pending
  · exact capture_keepsFeeder _ _ _ pending

/-- A judged window of VALID sense: the counts of overload and trip stop at 2 (R122, R123). -/
theorem judgeLimits_keepsFeeder (p : Profile) (f : Nat) (law : FeederCurtailLaw s) (valid : s.feeder.sense = .valid) :
    FeederCurtailLaw (judgeLimits p f s) := by
  have counted : FeederCurtailLaw { s with
      feeder.overCount := nextOver p f s.feeder.overCount, feeder.tripCount := nextTrip p f s.feeder.tripCount } :=
    ⟨{ law.1 with overs := nextOver_le _ _ _, trip := nextTrip_le _ _ _, lost := fun h => absurd (valid.symm.trans h) nofun }, law.2⟩
  unfold judgeLimits
  dsimp only
  split_ifs
  · exact takeOrder_keepsFeeder _ (noteTrip_keepsFeeder _ _ (noteOverload_keepsFeeder _ _ _ counted))
  · exact takeOrder_keepsFeeder _ (noteOverload_keepsFeeder _ _ _ counted)
  · exact noteOverload_keepsFeeder _ _ _ counted

theorem loseSense_keepsFeeder (sum : Nat) (law : FeederCurtailLaw s) : FeederCurtailLaw (loseSense sum s) := by
  refine capture_keepsFeeder _ _ _ (raise_keepsFeeder _ (takeOrder_keepsFeeder _ ⟨?_, law.2⟩))
  exact
    { law.1 with
      overs := Nat.zero_le _, trip := Nat.zero_le _, outOfBand := Nat.zero_le _, inBand := Nat.zero_le _
      lost := fun _ => ⟨rfl, rfl, rfl⟩ }

theorem judgeReading_keepsFeeder (p : Profile) (r : Reading) (law : FeederCurtailLaw s) : FeederCurtailLaw (judgeReading p r s) := by
  unfold judgeReading
  split
  · next valid =>
    have inBand : FeederCurtailLaw { s with feeder.outOfBandCount := 0 } :=
      ⟨{ law.1 with outOfBand := Nat.zero_le _, lost := fun h => absurd (valid.symm.trans h) nofun }, law.2⟩
    exact judgeLimits_keepsFeeder p _ inBand valid
  · next valid =>
    split_ifs with second
    · exact loseSense_keepsFeeder _ law
    · have first : s.feeder.outOfBandCount + 1 ≤ 1 := by omega
      exact ⟨{ law.1 with outOfBand := first, lost := fun h => absurd (valid.symm.trans h) nofun }, law.2⟩
  · split_ifs with eighth
    · exact ⟨{ law.1 with outOfBand := Nat.zero_le _, inBand := Nat.zero_le _, lost := nofun }, law.2⟩
    · have short : s.feeder.inBandCount + 1 ≤ 7 := by omega
      exact ⟨{ law.1 with inBand := short }, law.2⟩
  · exact ⟨{ law.1 with inBand := Nat.zero_le _ }, law.2⟩

theorem feederFullWindow_keepsFeeder (law : FeederCurtailLaw s) : FeederCurtailLaw (feederFullWindow s) := by
  unfold feederFullWindow
  split
  · exact ⟨law.1.startWindow, law.2⟩
  · next p _ =>
    split
    · exact ⟨law.1.startWindow, law.2⟩
    · have recorded : FeederCurtailLaw { s with
          feeder := recordReading s.census.windowIndex (readingOf p.fullScale s.feeder.windowSum) s.feeder } :=
        ⟨law.1.recordReading _ _, law.2⟩
      have judged := judgeReading_keepsFeeder p (readingOf p.fullScale s.feeder.windowSum) recorded
      exact ⟨judged.1.startWindow, judged.2⟩

theorem serve_keepsFeeder (law : FeederCurtailLaw s) : FeederCurtailLaw (serve s) := law.of_same (serve_feeder s) (serve_shares s)

theorem endFullWindow_keepsFeeder (feederFirst : Bool) (law : FeederCurtailLaw s) : FeederCurtailLaw (endFullWindow feederFirst s) := by
  have outlets {u : State} (law : FeederCurtailLaw u) : FeederCurtailLaw (outletsFullWindow u) :=
    law.of_outletFrame (outletsFullWindow_frame u)
  cases feederFirst
  · exact serve_keepsFeeder (feederFullWindow_keepsFeeder (outlets law))
  · exact serve_keepsFeeder (outlets (feederFullWindow_keepsFeeder law))

theorem handHush_keepsFeeder (r : Run) (law : FeederCurtailLaw s) : FeederCurtailLaw (handHush r s) := by
  have dropped : FeederCurtailLaw { s with feeder.hushPending := false } := ⟨{ law.1 with }, law.2⟩
  unfold handHush hearHush
  split_ifs
  · exact dropped
  · exact raise_keepsFeeder _ (takeOrder_keepsFeeder _ dropped)
  · exact law

/-! The census's events leave the Feeder Watch, but for the window that a frame zero cuts and the marks of a completion. -/

theorem missPeriod_keepsFeeder (law : FeederCurtailLaw s) : FeederCurtailLaw (missPeriod s) :=
  law.of_same (missPeriod_feeder s) (missPeriod_shares s)

theorem abandon_keepsFeeder (law : FeederCurtailLaw s) : FeederCurtailLaw (abandon s) := law.of_same (abandon_feeder s) (abandon_shares s)

theorem goStuck_keepsFeeder (law : FeederCurtailLaw s) : FeederCurtailLaw (goStuck s) := by
  rcases goStuck_cases s with ⟨h, -⟩ | ⟨r, -, -, h⟩ <;> rw [h]
  · exact law
  · exact capture_keepsFeeder _ _ _ (raise_keepsFeeder _ (abandon_keepsFeeder law))

theorem reportAttempt_keepsFeeder (droveStart : Bool) (law : FeederCurtailLaw s) : FeederCurtailLaw (reportAttempt droveStart s) := by
  unfold reportAttempt
  split
  · exact missPeriod_keepsFeeder law
  · exact law

theorem prepareFrame_keepsFeeder (law : FeederCurtailLaw s) : FeederCurtailLaw (prepareFrame s) := by
  have snapped : FeederCurtailLaw (snapshot s) := law.of_same (snapshot_feeder s) (snapshot_shares s)
  unfold prepareFrame
  split
  · dsimp only
    split
    · exact snapped.of_same (by simp) (by simp)
    · exact snapped
  · exact law

theorem cutWindow_keepsFeeder (law : FeederCurtailLaw s) : FeederCurtailLaw (cutWindow s) := by
  have cut : FeederCurtailLaw (feederCutWindow s) := ⟨law.1.startWindow, law.2⟩
  have ramped : FeederCurtailLaw (outletsCutWindow (feederCutWindow s)) := cut.of_outletFrame (outletsCutWindow_frame (feederCutWindow s))
  exact ramped

theorem frameZero_keepsFeeder (boundaryFirst : Bool) (law : FeederCurtailLaw s) : FeederCurtailLaw (frameZero boundaryFirst s) := by
  dsimp only [frameZero]
  split
  · exact prepareFrame_keepsFeeder (cutWindow_keepsFeeder law)
  · exact cutWindow_keepsFeeder (prepareFrame_keepsFeeder law)

theorem endStuckRun_keepsFeeder (law : FeederCurtailLaw s) : FeederCurtailLaw (endStuckRun s) := goStuck_keepsFeeder law

theorem endPulse_keepsFeeder (r : Run) (samples : Nat) (boundaryFirst : Bool) (law : FeederCurtailLaw s) :
    FeederCurtailLaw (endPulse r samples boundaryFirst s) := by
  unfold endPulse
  split
  · split
    · exact frameZero_keepsFeeder boundaryFirst law
    · exact reportAttempt_keepsFeeder _ (handHush_keepsFeeder r law)
    · exact reportAttempt_keepsFeeder _ law
    · exact reportAttempt_keepsFeeder _ law
    · exact endStuckRun_keepsFeeder law
  · split
    · exact endStuckRun_keepsFeeder law
    all_goals exact law

theorem trailEdge_keepsFeeder (samples : Nat) (boundaryFirst : Bool) (law : FeederCurtailLaw s) :
    FeederCurtailLaw (trailEdge samples boundaryFirst s) := by
  unfold trailEdge
  split
  · exact law
  · split
    · unfold endFrameRun
      split
      · exact endStuckRun_keepsFeeder law
      · exact law
    · exact law
    all_goals exact endPulse_keepsFeeder _ samples boundaryFirst law

theorem handBit_keepsFeeder (k : Nat) (v drove : Bool) (law : FeederCurtailLaw s) : FeederCurtailLaw (handBit k v drove s) := by
  unfold handBit
  split
  · exact law
  · split
    · exact abandon_keepsFeeder law
    · exact law

theorem readBit_keepsFeeder (a b c : Bool) (law : FeederCurtailLaw s) : FeederCurtailLaw (readBit a b c s) := by
  unfold readBit
  split_ifs
  · exact capture_keepsFeeder _ _ _ (abandon_keepsFeeder law)
  · exact handBit_keepsFeeder _ _ _ law
  · exact law

theorem complete_keepsFeeder (f : Frame) (law : FeederCurtailLaw s) : FeederCurtailLaw (complete f s) := by
  have clashes : FeederCurtailLaw (examineClashes f { s with census.missed := 0, census.number := f.number, census.frame := none }) :=
    FeederCurtailLaw.of_outletFrame (s := { s with census.missed := 0, census.number := f.number, census.frame := none }) law
      (examineClashes_frame f _)
  have joined : FeederCurtailLaw (completeCensus f s) := clashes.of_same (raiseIf_feeder _ _ _) (raiseIf_shares _ _ _)
  obtain ⟨-, -, -, feeder, -, curtail⟩ := shareCompletion_frame
    { completeCensus f s with roster := updateRoster f.read (completeCensus f s).census.number (completeCensus f s).roster }
  have ring := joined.1.ring
  refine ⟨?_, curtail.trans joined.2⟩
  show WatchLaw { (shareCompletion _).feeder with peak := none, ring := _ }
  rw [feeder]
  exact { joined.1 with ring := by simpa using ring }

theorem endFrame_keepsFeeder (law : FeederCurtailLaw s) : FeederCurtailLaw (endFrame s) := by
  unfold endFrame
  split
  · split
    · exact complete_keepsFeeder _ law
    · exact law
  · exact law

theorem refreshFallback_keepsFeeder (law : FeederCurtailLaw s) : FeederCurtailLaw (refreshFallback s) := by
  unfold refreshFallback
  split
  · exact law.of_same (by simp) (by simp)
  · exact law

theorem expireTimer_keepsFeeder (law : FeederCurtailLaw s) : FeederCurtailLaw (expireTimer s) := by
  unfold expireTimer missPeriodAtExpiry
  dsimp only
  split_ifs
  · exact refreshFallback_keepsFeeder (serve_keepsFeeder law)
  · exact refreshFallback_keepsFeeder (law.of_same (by simp) (by simp))
  · refine FeederCurtailLaw.of_outletFrame (s := { snapshotAtExpiry _ with census.participation := .islanded }) ?_ (enterIslanded_frame _)
    exact law.of_same (by simp) (by simp)
  · exact law.of_same (by simp) (by simp)
  · exact law

theorem reachFree_keepsFeeder (law : FeederCurtailLaw s) : FeederCurtailLaw (reachFree s) := by
  unfold reachFree
  split
  · exact law
  · split
    · exact serve_keepsFeeder law
    · exact serve_keepsFeeder law
    all_goals exact law

theorem echoPulse_keepsFeeder (law : FeederCurtailLaw s) : FeederCurtailLaw (echoPulse s) := by
  unfold echoPulse
  split
  · exact law
  · exact serve_keepsFeeder (reportAttempt_keepsFeeder _ (capture_keepsFeeder _ _ _ law))
  · exact serve_keepsFeeder (capture_keepsFeeder _ _ _ law)

theorem loadProfileRequest_keepsFeeder (body : List Byte) (law : FeederCurtailLaw s) : FeederCurtailLaw (loadProfileRequest body s) := by
  unfold loadProfileRequest storeProfile
  split_ifs
  · exact law
  · exact law
  · exact law
  · refine ⟨?_, ?_⟩
    · simp only [respond_feeder, recompute_feeder]
      exact { law.1 with }
    · simpa using law.2

/-! A law that an event keeps is kept where the event is taken under a condition. -/

theorem onLine_keepsFeeder {event : State → State} (keeps : FeederCurtailLaw (event s)) (law : FeederCurtailLaw s) :
    FeederCurtailLaw (onLine event s) := by
  rcases onLine_cases event s with ⟨-, h⟩ | ⟨-, h⟩ <;> rw [h] <;> assumption

theorem whenRunning_keepsFeeder {event : State → State} (keeps : FeederCurtailLaw (event s)) (law : FeederCurtailLaw s) :
    FeederCurtailLaw (whenRunning event s) := by
  rcases whenRunning_cases event s with ⟨-, h⟩ | ⟨-, h⟩ <;> rw [h] <;> assumption

theorem onlyWhere_keepsFeeder {outcome : State → State → Bool} {event : State → State} (keeps : FeederCurtailLaw (event s))
    (law : FeederCurtailLaw s) : FeederCurtailLaw (onlyWhere outcome event s) := by
  rcases onlyWhere_cases outcome event s with ⟨-, h⟩ | ⟨-, h⟩ <;> rw [h] <;> assumption

theorem ite_keepsFeeder (taken : Bool) (keeps : FeederCurtailLaw t) (law : FeederCurtailLaw s) :
    FeederCurtailLaw (if taken then t else s) := by cases taken <;> assumption

theorem takeRequest_keepsFeeder (code : Byte) {lengthOk : Nat → Bool} {act : List Byte → State → State} (shifted : List Byte)
    (keeps : ∀ body, FeederCurtailLaw (act body s)) (law : FeederCurtailLaw s) :
    FeederCurtailLaw (takeRequest code lengthOk act shifted s) := by
  rcases takeRequest_cases code lengthOk act shifted s with ⟨-, h⟩ | ⟨-, -, h⟩ | ⟨-, -, h⟩ | ⟨-, body, -, -, h⟩ <;> rw [h]
  · exact law
  · exact law
  · exact law
  · exact keeps body

theorem openRequest_keepsFeeder (body : List Byte) (law : FeederCurtailLaw s) : FeederCurtailLaw (openRequest body s) := by
  obtain ⟨-, -, -, feeder, shares⟩ := openRequest_frame body s
  exact law.of_same feeder shares

theorem amendRequest_keepsFeeder (body : List Byte) (law : FeederCurtailLaw s) : FeederCurtailLaw (amendRequest body s) := by
  obtain ⟨-, -, -, feeder, shares⟩ := amendRequest_frame body s
  exact law.of_same feeder shares

theorem closeRequest_keepsFeeder (body : List Byte) (law : FeederCurtailLaw s) : FeederCurtailLaw (closeRequest body s) := by
  obtain ⟨-, -, -, feeder, shares⟩ := closeRequest_frame body s
  exact law.of_same feeder shares

theorem readOutletRequest_keepsFeeder (body : List Byte) (law : FeederCurtailLaw s) : FeederCurtailLaw (readOutletRequest body s) := by
  obtain ⟨-, -, -, feeder, shares⟩ := readOutletRequest_frame body s
  exact law.of_same feeder shares

theorem minuteTick_keepsFeeder (law : FeederCurtailLaw s) : FeederCurtailLaw (minuteTick s) := by
  rw [minuteTick_frame]
  exact law

theorem takeCharge_keepsFeeder (n charge : Nat) (law : FeederCurtailLaw s) : FeederCurtailLaw (takeCharge n charge s) :=
  law.of_outletFrame (takeCharge_frame n charge s)

theorem endStartPulse_keepsFeeder (law : FeederCurtailLaw s) : FeederCurtailLaw (endStartPulse s) := by
  unfold endStartPulse
  split
  · exact serve_keepsFeeder law
  · exact law

theorem endHush_keepsFeeder (law : FeederCurtailLaw s) : FeederCurtailLaw (endHush s) := by
  unfold endHush
  split
  · exact serve_keepsFeeder law
  · exact law

theorem expireHoldOff_keepsFeeder (law : FeederCurtailLaw s) : FeederCurtailLaw (expireHoldOff s) := by
  unfold expireHoldOff
  split
  · exact law
  · exact serve_keepsFeeder law

theorem ageSummary_keepsFeeder (law : FeederCurtailLaw s) : FeederCurtailLaw (ageSummary s) := by
  unfold ageSummary
  split <;> exact law

theorem missedEvent_keepsFeeder (cause : MissedBy) (law : FeederCurtailLaw s) : FeederCurtailLaw (missedEvent cause s) := by
  cases cause with
  | timerExpiry => exact whenRunning_keepsFeeder (expireTimer_keepsFeeder law) law
  | runEnd samples boundaryFirst => exact onLine_keepsFeeder (trailEdge_keepsFeeder samples boundaryFirst law) law
  | pulseEcho => exact onLine_keepsFeeder (echoPulse_keepsFeeder law) law
  | bitRead a b c => exact onLine_keepsFeeder (readBit_keepsFeeder a b c law) law
  | lineStuck => exact onLine_keepsFeeder (goStuck_keepsFeeder law) law

theorem overdueEvent_keepsFeeder (cause : OverdueBy) (law : FeederCurtailLaw s) : FeederCurtailLaw (overdueEvent cause s) := by
  cases cause with
  | minuteTick => exact whenRunning_keepsFeeder (minuteTick_keepsFeeder law) law
  | opening shifted => exact takeRequest_keepsFeeder _ shifted (fun body => openRequest_keepsFeeder body law) law
  | amending shifted => exact takeRequest_keepsFeeder _ shifted (fun body => amendRequest_keepsFeeder body law) law

/-- Every command answers with a next state that keeps the law; reset clears the Feeder Watch, and a sample adds its ten bits. -/
theorem exec_keepsFeeder (c : Instr) (law : FeederCurtailLaw s) : ∃ t, exec c s = .next t ∧ FeederCurtailLaw t := by
  have reset (straps : Straps) (held : List ResetCause) (ignore : Bool) : FeederCurtailLaw (.afterReset straps held ignore s.pending) :=
    ⟨⟨Nat.zero_le _, Nat.zero_le _, Nat.zero_le _, Nat.zero_le _, Nat.zero_le _, nofun, Nat.zero_le _, Nat.zero_le _⟩, Nat.zero_le _⟩
  cases c with
  | loadProfile shifted => exact ⟨_, rfl, takeRequest_keepsFeeder _ shifted (fun body => loadProfileRequest_keepsFeeder body law) law⟩
  | openSession shifted => exact ⟨_, rfl, takeRequest_keepsFeeder _ shifted (fun body => openRequest_keepsFeeder body law) law⟩
  | amendSession shifted => exact ⟨_, rfl, takeRequest_keepsFeeder _ shifted (fun body => amendRequest_keepsFeeder body law) law⟩
  | closeSession shifted => exact ⟨_, rfl, takeRequest_keepsFeeder _ shifted (fun body => closeRequest_keepsFeeder body law) law⟩
  | readOutlet shifted => exact ⟨_, rfl, takeRequest_keepsFeeder _ shifted (fun body => readOutletRequest_keepsFeeder body law) law⟩
  | readCensus shifted | readRoster shifted | readStatus shifted | readFault shifted | readEvents shifted | clearFault shifted
  | setMask shifted =>
    exact ⟨_, rfl, takeRequest_keepsFeeder _ shifted (fun _ => law) law⟩
  | restart shifted => exact ⟨_, rfl, takeRequest_keepsFeeder _ shifted (fun _ => reset _ _ _) law⟩
  | unknownRequest code shifted => exact ⟨_, rfl, by split_ifs <;> exact law⟩
  | nullTransaction bytes =>
    refine ⟨_, rfl, ?_⟩
    have nothing : FeederCurtailLaw (takeNothing s) := whenRunning_keepsFeeder law law
    cases bytes with
    | nil => exact nothing
    | cons code rest => dsimp only; split_ifs <;> assumption
  | powerOnReset | resetNLow | supplyLowReset => exact ⟨_, rfl, reset _ _ _⟩
  | resetRelease cause seat out rate csLow =>
    refine ⟨_, rfl, ?_⟩
    rcases releaseReset_cases cause (.sampled seat out rate) csLow s with ⟨-, h⟩ | ⟨-, -, h⟩ | ⟨-, held, -, -, h⟩ <;> rw [h]
    · exact law
    · exact reset _ _ _
    · exact reset _ _ _
  | leadingEdge bit => exact ⟨_, rfl, onLine_keepsFeeder law law⟩
  | trailingEdge samples boundaryFirst => exact ⟨_, rfl, onLine_keepsFeeder (trailEdge_keepsFeeder samples boundaryFirst law) law⟩
  | lineFree => exact ⟨_, rfl, onLine_keepsFeeder (reachFree_keepsFeeder law) law⟩
  | startPulseEnd => exact ⟨_, rfl, onLine_keepsFeeder (endStartPulse_keepsFeeder law) law⟩
  | hushDriveEnd => exact ⟨_, rfl, onLine_keepsFeeder (endHush_keepsFeeder law) law⟩
  | hushHoldOffExpiry => exact ⟨_, rfl, onLine_keepsFeeder (expireHoldOff_keepsFeeder law) law⟩
  | lineStuck => exact ⟨_, rfl, onLine_keepsFeeder (goStuck_keepsFeeder law) law⟩
  | echoFaultPulse => exact ⟨_, rfl, onLine_keepsFeeder (echoPulse_keepsFeeder law) law⟩
  | frameBitRead a b c => exact ⟨_, rfl, onLine_keepsFeeder (readBit_keepsFeeder a b c law) law⟩
  | echoFault a b c | settleFault a b c =>
    exact ⟨_, rfl, onLine_keepsFeeder (ite_keepsFeeder _ (readBit_keepsFeeder a b c law) law) law⟩
  | frameEnd => exact ⟨_, rfl, onLine_keepsFeeder (endFrame_keepsFeeder law) law⟩
  | seatClashFault n => exact ⟨_, rfl, onLine_keepsFeeder (onlyWhere_keepsFeeder (endFrame_keepsFeeder law) law) law⟩
  | censusTimerExpiry => exact ⟨_, rfl, whenRunning_keepsFeeder (expireTimer_keepsFeeder law) law⟩
  | islanded cause => exact ⟨_, rfl, onlyWhere_keepsFeeder (missedEvent_keepsFeeder cause law) law⟩
  | fullWindowEnd feederFirst => exact ⟨_, rfl, whenRunning_keepsFeeder (endFullWindow_keepsFeeder feederFirst law) law⟩
  | overload feederFirst | trip feederFirst =>
    exact ⟨_, rfl, whenRunning_keepsFeeder (ite_keepsFeeder _ (endFullWindow_keepsFeeder feederFirst law) law) law⟩
  | senseLost feederFirst | senseBack feederFirst | overdraw _ feederFirst | stall _ feederFirst | unstall _ feederFirst
  | release _ feederFirst =>
    exact ⟨_, rfl, whenRunning_keepsFeeder (onlyWhere_keepsFeeder (endFullWindow_keepsFeeder feederFirst law) law) law⟩
  | minuteTick => exact ⟨_, rfl, whenRunning_keepsFeeder (minuteTick_keepsFeeder law) law⟩
  | overdue n cause => exact ⟨_, rfl, onlyWhere_keepsFeeder (overdueEvent_keepsFeeder cause law) law⟩
  | drawQuantum n charge => exact ⟨_, rfl, whenRunning_keepsFeeder (takeCharge_keepsFeeder n charge law) law⟩
  | ampMinuteCompletion n charge =>
    exact ⟨_, rfl, whenRunning_keepsFeeder (ite_keepsFeeder _ (takeCharge_keepsFeeder n charge law) law) law⟩
  | summaryAgeTick => exact ⟨_, rfl, whenRunning_keepsFeeder (ageSummary_keepsFeeder law) law⟩
  | pwmPeriodStart => exact ⟨_, rfl, whenRunning_keepsFeeder law law⟩
  | feederSample code =>
    have sampled : FeederCurtailLaw { s with feeder := takeSample code.toNat s.feeder } := ⟨law.1.takeSample code, law.2⟩
    exact ⟨_, rfl, whenRunning_keepsFeeder (ite_keepsFeeder _ sampled law) law⟩

end

/-- Settles O41: each event keeps the law; a sample adds at most 1023, the largest code of ten bits. -/
theorem feederLawIsKept : Obligations.FeederLawIsKept := by
  unfold Obligations.FeederLawIsKept
  intro c s t feeder curtail step
  obtain ⟨t', answer, law⟩ := exec_keepsFeeder c ⟨(feederLaw_iff s).mp feeder, curtail⟩
  obtain rfl := Host.Outcome.next.inj (answer.symm.trans step)
  exact ⟨(feederLaw_iff _).mpr law.1, law.2⟩

end Sys2Proof.Machine
end

section
/-! PROOFS. The host link: reset, the requests' checks and the reads (obligations of Chapter 10, and what stands until reset). -/

set_option Elab.async false

namespace Sys2Proof.Machine

/-! An event at a part that takes it, and at one held in reset. -/

theorem onLine_of_sampled {s : State} (sampled : LineSampled s) (event : State → State) : onLine event s = event s := by
  rcases onLine_cases event s with ⟨dead, -⟩ | ⟨-, h⟩
  · rw [(lineAlive_iff s).mpr sampled] at dead; cases dead
  · exact h

theorem whenRunning_of_outOfReset {s : State} (out : s.host.resetHeld = []) (event : State → State) : whenRunning event s = event s := by
  rcases whenRunning_cases event s with ⟨held, -⟩ | ⟨-, h⟩
  · rw [(running_iff s).mpr out] at held; cases held
  · exact h

theorem running_of_held {s : State} (held : s.host.resetHeld ≠ []) : running s = false := by
  rw [Bool.eq_false_iff, ne_eq, running_iff]; exact held

theorem onLine_of_held {s : State} (held : s.host.resetHeld ≠ []) (event : State → State) : onLine event s = s := by
  rcases onLine_cases event s with ⟨-, h⟩ | ⟨alive, -⟩
  · exact h
  · exact absurd ((lineAlive_iff s).mp alive).1 held

theorem whenRunning_of_held {s : State} (held : s.host.resetHeld ≠ []) (event : State → State) : whenRunning event s = s := by
  rcases whenRunning_cases event s with ⟨-, h⟩ | ⟨runs, -⟩
  · exact h
  · exact absurd ((running_iff s).mp runs) held

theorem takeRequest_of_held {s : State} (held : s.host.resetHeld ≠ []) (code : Byte) (lengthOk : Nat → Bool)
    (act : List Byte → State → State) (shifted : List Byte) : takeRequest code lengthOk act shifted s = s := by
  rw [takeRequest, running_of_held held]; rfl

/-- An event taken only where it has an outcome does nothing where it leaves the state. -/
theorem onlyWhere_of_stood {outcome : State → State → Bool} {event : State → State} {s : State} (stood : event s = s) :
    onlyWhere outcome event s = s := by
  unfold onlyWhere; rw [stood]; split <;> rfl

/-- Settles O1. -/
theorem stepTakesFrontCommand : Obligations.StepTakesFrontCommand := by
  unfold Obligations.StepTakesFrontCommand
  refine ⟨fun c rest s front => ?_, fun s empty => ?_⟩
  · simp only [step, front]
  · simp only [step, empty]

/-! Reset. -/

/-- The state of reset meets each law, whatever the straps say of 1 to 4 outlets. -/
theorem afterReset_postLaw (straps : Straps) (held : List ResetCause) (ignore : Bool) (pending : List Instr) :
    PostLaw (.afterReset straps held ignore pending) := by
  intro o mem
  rw [afterReset_cleared mem]
  exact ⟨rfl, rfl, rfl⟩

theorem afterReset_rosterLaw (straps : Straps) (held : List ResetCause) (ignore : Bool) (pending : List Instr) :
    RosterLaw (.afterReset straps held ignore pending) := by
  refine ⟨List.length_replicate, fun e mem => ?_⟩
  rw [List.eq_of_mem_replicate mem]
  exact ⟨rfl, rfl, rfl⟩

theorem afterReset_feederLaw (straps : Straps) (held : List ResetCause) (ignore : Bool) (pending : List Instr) :
    FeederLaw (.afterReset straps held ignore pending) :=
  ⟨Nat.zero_le _, Nat.zero_le _, Nat.zero_le _, Nat.zero_le _, Nat.zero_le _, nofun, Nat.zero_le _, Nat.zero_le _⟩

theorem afterReset_recordLaws {straps : Straps} {held : List ResetCause} {ignore : Bool} {pending : List Instr} {o : Outlet}
    (mem : o ∈ (State.afterReset straps held ignore pending).outlets) : SupervisionLaw o ∧ SessionLaw o ∧ MeterLaw o := by
  rw [afterReset_cleared mem]
  exact ⟨.of_deasserted rfl rfl (Nat.zero_le _) (Nat.zero_le _) (Nat.zero_le _) (Nat.zero_le _), .of_cleared rfl rfl,
    by decide, by decide, by decide⟩

theorem sampled_strapLaw (seat : BitVec 5) (out rate : BitVec 2) (held : List ResetCause) (ignore : Bool) (pending : List Instr) :
    StrapLaw (.afterReset (.sampled seat out rate) held ignore pending) := by
  have := seat.isLt; have := out.isLt; have := rate.isLt
  refine ⟨List.length_replicate, ?_, ?_, ?_, ?_, ?_⟩ <;> simp only [State.afterReset, HostLink.afterReset, Straps.sampled] <;> omega

/-- Settles O2. -/
theorem resetMeetsEveryLaw : Obligations.ResetMeetsEveryLaw := by
  unfold Obligations.ResetMeetsEveryLaw
  obtain ⟨participation, line⟩ := (rhythmLaw_iff State.reset).mp (afterReset_rhythmLaw _ _ _ _)
  exact ⟨sampled_strapLaw _ _ _ _ _ _, afterReset_rosterLaw _ _ _ _, participation, afterReset_postLaw _ _ _ _,
    afterReset_borrowLaw _ _ _ _, line, afterReset_feederLaw _ _ _ _, fun _ mem => afterReset_recordLaws mem⟩

/-- Settles O3. -/
theorem resetReleaseStartsEveryBlock : Obligations.ResetReleaseStartsEveryBlock := by
  unfold Obligations.ResetReleaseStartsEveryBlock
  intro cause seat out rate csLow s
  refine ⟨fun last => ⟨.afterReset (.sampled seat out rate) [] csLow s.pending, ?_, ?_⟩, fun other held different => ?_⟩
  · show Host.Outcome.next (releaseReset cause (.sampled seat out rate) csLow s) = _
    simp [releaseReset, last]
  · exact ⟨rfl, rfl, rfl, rfl, rfl, rfl, rfl, rfl, rfl⟩
  · refine ⟨_, rfl, ?_⟩
    rcases releaseReset_cases cause (.sampled seat out rate) csLow s with ⟨-, h⟩ | ⟨-, none, h⟩ | ⟨-, rest, -, keeps, h⟩ <;> rw [h]
    · exact held
    · exact absurd (none other held) different
    · rw [show (State.afterReset s.host.straps rest false s.pending).host.resetHeld = rest from rfl, keeps]
      exact List.mem_filter.mpr ⟨held, by simpa using different⟩

theorem cleared_readings (straps : Straps) (held : List ResetCause) (ignore : Bool) (pending : List Instr) (n : Nat) :
    setpointDuty (.afterReset straps held ignore pending) n = 0 ∧ releaseDriven (.afterReset straps held ignore pending) n = false := by
  unfold setpointDuty releaseDriven
  cases found : (State.afterReset straps held ignore pending).outlets[n]? with
  | none => exact ⟨rfl, rfl⟩
  | some o =>
    rw [afterReset_cleared (List.mem_of_getElem? found)]
    exact ⟨rfl, rfl⟩

/-- A part held in reset releases its lines (R173). -/
theorem afterReset_linesReleased {straps : Straps} {held : List ResetCause} (isHeld : held ≠ []) (ignore : Bool) (pending : List Instr) :
    LinesReleased (.afterReset straps held ignore pending) := by
  refine ⟨fun bitOver => by cases bitOver <;> rfl, ?_, fun csLow => ?_, cleared_readings straps held ignore pending⟩
  · show (held.isEmpty && _) = false
    simp [isHeld]
  · rw [misoDriven, running_of_held isHeld]; rfl

theorem takeReset_resetTaken (cause : ResetCause) (s : State) : ResetTaken cause s (takeReset cause s) := by
  obtain ⟨held, isHeld, keeps, h⟩ := takeReset_eq cause s
  rw [h]
  refine ⟨isHeld, keeps, afterReset_linesReleased (List.ne_nil_of_mem isHeld) _ _, rfl, fun o mem => ?_, rfl, rfl, rfl⟩
  rw [afterReset_cleared mem]; rfl

/-- Settles O4. -/
theorem resetIsTakenWhole : Obligations.ResetIsTakenWhole := by
  unfold Obligations.ResetIsTakenWhole
  refine fun s => ⟨⟨_, rfl, takeReset_resetTaken _ s⟩, ⟨_, rfl, takeReset_resetTaken _ s⟩, ⟨_, rfl, takeReset_resetTaken _ s⟩,
    fun shifted accepting body => ⟨takeReset .restart s, ?_, takeReset_resetTaken _ s⟩⟩
  exact congrArg Host.Outcome.next (takeRequest_of_accepting accepting body rfl)

theorem missedEvent_of_held {s : State} (held : s.host.resetHeld ≠ []) (cause : MissedBy) : missedEvent cause s = s := by
  cases cause with
  | timerExpiry => exact whenRunning_of_held held _
  | _ => exact onLine_of_held held _

theorem overdueEvent_of_held {s : State} (held : s.host.resetHeld ≠ []) (cause : OverdueBy) : overdueEvent cause s = s := by
  cases cause with
  | minuteTick => exact whenRunning_of_held held _
  | opening shifted => dsimp only [overdueEvent]; exact takeRequest_of_held held _ _ _ _
  | amending shifted => dsimp only [overdueEvent]; exact takeRequest_of_held held _ _ _ _

/-- Settles O5: each command is a request, a line event or an event of a running part, and none of them is one in reset. -/
theorem heldResetTakesNoCommand : Obligations.HeldResetTakesNoCommand := by
  unfold Obligations.HeldResetTakesNoCommand
  intro c s held other
  have request := takeRequest_of_held held
  have line := onLine_of_held held
  have runs := whenRunning_of_held held
  cases c with
  | loadProfile | openSession | amendSession | closeSession | readOutlet | readCensus | readRoster | readStatus | readFault | readEvents
  | clearFault | setMask | restart => exact congrArg Host.Outcome.next (request _ _ _ _)
  | leadingEdge | trailingEdge | lineFree | startPulseEnd | hushDriveEnd | hushHoldOffExpiry | lineStuck | echoFault | echoFaultPulse
  | settleFault | frameBitRead | frameEnd | seatClashFault => exact congrArg Host.Outcome.next (line _)
  | censusTimerExpiry | fullWindowEnd | overload | trip | senseLost | senseBack | overdraw | stall | unstall | release | minuteTick
  | drawQuantum | ampMinuteCompletion | summaryAgeTick | pwmPeriodStart | feederSample => exact congrArg Host.Outcome.next (runs _)
  | islanded cause => exact congrArg Host.Outcome.next (onlyWhere_of_stood (missedEvent_of_held held cause))
  | overdue n cause => exact congrArg Host.Outcome.next (onlyWhere_of_stood (overdueEvent_of_held held cause))
  | unknownRequest code shifted =>
    show Host.Outcome.next (if !running s then s else _) = _
    rw [running_of_held held]; rfl
  | nullTransaction bytes =>
    have nothing : takeNothing s = s := runs _
    refine congrArg Host.Outcome.next ?_
    cases bytes with
    | nil => exact nothing
    | cons code rest => dsimp only; rw [nothing]; split <;> rfl
  | powerOnReset | resetNLow | supplyLowReset | resetRelease => rcases other with h | ⟨_, h⟩ <;> cases h

/-- Settles O6. -/
theorem strapFaultStopsTheLine : Obligations.StrapFaultStopsTheLine := by
  unfold Obligations.StrapFaultStopsTheLine
  refine ⟨fun s => ?_, fun c s fault isLine => ?_⟩
  · unfold bitTimeMicros
    refine ⟨?_, ?_, ?_, ?_⟩ <;> intro rate <;> simp only [rate]
  · have line (event : State → State) : onLine event s = s := by
      rcases onLine_cases event s with ⟨-, h⟩ | ⟨alive, -⟩
      · exact h
      · exact absurd fault ((lineAlive_iff s).mp alive).2
    cases c with
    | leadingEdge | trailingEdge | lineFree | startPulseEnd | hushDriveEnd | hushHoldOffExpiry | lineStuck | echoFault | echoFaultPulse
    | settleFault | frameBitRead | frameEnd | seatClashFault => exact congrArg Host.Outcome.next (line _)
    | _ => cases isLine

/-! Requests. -/

/-- A request in a transaction that was in progress at reset release only ends it (R173). -/
theorem takeRequest_of_ignored {s : State} (out : s.host.resetHeld = []) (ignored : s.host.ignoreTransaction = true) (code : Byte)
    (lengthOk : Nat → Bool) (act : List Byte → State → State) (shifted : List Byte) :
    takeRequest code lengthOk act shifted s = { s with host.ignoreTransaction := false } := by
  rw [takeRequest, (running_iff s).mpr out, ignored]; rfl

/-- Settles O7. -/
theorem unknownCodeAndNullTransaction : Obligations.UnknownCodeAndNullTransaction := by
  unfold Obligations.UnknownCodeAndNullTransaction
  intro s out
  have nothing : takeNothing s = { s with host.ignoreTransaction := false } := whenRunning_of_outOfReset out _
  refine ⟨fun code shifted notNull notKnown => ?_, fun bytes null => ?_, fun shifted ignored c mem => ?_⟩
  · have other : (requestCodes.contains code || code == 0x00#8) = false := by simp [notNull, notKnown]
    show Host.Outcome.next (if !running s then s else if requestCodes.contains code || code == 0x00#8 then s else _) = _
    rw [(running_iff s).mpr out, other]; rfl
  · refine congrArg Host.Outcome.next ?_
    cases bytes with
    | nil => exact nothing
    | cons code rest =>
      have isNull : code = 0x00#8 := by simpa using null
      dsimp only
      rw [if_pos isNull, nothing]
  · simp only [List.mem_cons, List.not_mem_nil, or_false] at mem
    rcases mem with rfl | rfl | rfl | rfl | rfl | rfl | rfl | rfl | rfl | rfl | rfl | rfl | rfl <;>
      exact congrArg Host.Outcome.next (takeRequest_of_ignored out ignored _ _ _ _)

/-- A request whose body is incomplete or of a length it does not allow (R164). -/
theorem takeRequest_badLength {s : State} (accepting : Accepting s) {code : Byte} {lengthOk : Nat → Bool} {act : List Byte → State → State}
    {shifted : List Byte} {allowed : Nat → Prop} (allows : ∀ n, lengthOk n = true → allowed n)
    (bad : ∀ body, requestBody shifted = some body → ¬ allowed body.length) :
    takeRequest code lengthOk act shifted s = { s with host.response := ⟨code, .badLength, []⟩ } := by
  obtain ⟨out, current⟩ := accepting
  rcases takeRequest_cases code lengthOk act shifted s with ⟨held, -⟩ | ⟨-, ignored, -⟩ | ⟨-, -, h⟩ | ⟨-, body, found, ok, -⟩
  · rw [(running_iff s).mpr out] at held; cases held
  · rw [current] at ignored; cases ignored
  · exact h
  · exact absurd (allows _ ok) (bad body found)

/-- Settles O8. -/
theorem badLengthIsRefused : Obligations.BadLengthIsRefused := by
  unfold Obligations.BadLengthIsRefused
  intro s shifted accepting
  have exactly (k : Nat) : ∀ n, (n == k) = true → n = k := fun n h => by simpa using h
  have between : ∀ n : Nat, (decide (7 ≤ n) && decide (n ≤ 23)) = true → 7 ≤ n ∧ n ≤ 23 := fun n h => by simpa using h
  refine ⟨?_, ?_, ?_, ?_, ?_, ?_, ?_, ?_, ?_, ?_, ?_, ?_, ?_⟩ <;> intro bad
  case refine_2 => exact congrArg Host.Outcome.next (takeRequest_badLength accepting between bad)
  all_goals exact congrArg Host.Outcome.next (takeRequest_badLength accepting (exactly _) bad)

theorem profileInRange_iff (p : Profile) :
    profileInRange p = true ↔
      100 ≤ p.importLimit ∧ p.importLimit ≤ 40000 ∧ p.reserve ≤ p.importLimit ∧ 60 ≤ p.seatCeiling ∧ p.seatCeiling ≤ 800 ∧
        p.minCurrent ≤ p.seatCeiling ∧ 10 ≤ p.minCurrent ∧ p.minCurrent ≤ 160 ∧ p.minCurrent ≤ p.postLimit ∧ p.postLimit ≤ 3200 ∧
        p.tightThreshold ≤ 1023 ∧ p.growthMargin ≤ 1000 ∧ p.tripMargin ≤ 4000 ∧
        (p.fallback = 0 ∨ p.minCurrent ≤ p.fallback ∧ p.fallback ≤ p.seatCeiling) ∧
        1000 ≤ p.fullScale ∧ p.fullScale ≤ 65000 ∧ 5 ≤ p.ramp ∧ p.ramp ≤ 100 := by
  simp only [profileInRange, Bool.and_eq_true, Bool.or_eq_true, decide_eq_true_eq, and_assoc]

theorem strapFault_iff (s : State) : strapFault s = true ↔ s.host.straps.rate = 3 := by simp [strapFault]

/-- A part without a profile has no session, and a recomputation in LISTENING gives each outlet the target 0 that it has (R141). -/
theorem recompute_stands {s : State} (idle : ∀ o ∈ s.outlets, o.session.state = .vacant ∧ o.share.target = 0 ∧ o.session.offer = 0) :
    recompute false s = s := by
  cases loaded : s.host.profile with
  | none => exact recompute_of_none false loaded
  | some p =>
    rw [recompute_of_profile false loaded]
    have same : retarget p s.census.participation s.shares.curtail false s.outlets = s.outlets := by
      refine List.ext_getElem? fun n => ?_
      rw [retarget_getElem?]
      cases found : s.outlets[n]? with
      | none => rfl
      | some o =>
        obtain ⟨vacant, target, offer⟩ := idle o (List.mem_of_getElem? found)
        rw [Option.map_some, giveTarget_of_le (by rw [vacant]; exact nofun) (by rw [offer]; exact Nat.zero_le _)]
        have zero : (if false = true then (cappedTargets p s.census.participation s.shares.curtail s.outlets).getD n 0
            else min ((cappedTargets p s.census.participation s.shares.curtail s.outlets).getD n 0) o.share.target) = o.share.target := by
          rw [target, if_neg Bool.false_ne_true, Nat.min_zero]
        rw [zero]
    rw [same]

/-- Settles O10. -/
theorem loadProfileIsChecked : Obligations.LoadProfileIsChecked := by
  unfold Obligations.LoadProfileIsChecked
  intro s shifted body accepting found length
  have taken : exec (.loadProfile shifted) s = .next (loadProfileRequest body s) :=
    congrArg Host.Outcome.next (takeRequest_of_accepting accepting found (by simp [length]))
  have noFault (rate : s.host.straps.rate ≠ 3) : ¬ strapFault s = true := by rwa [strapFault_iff]
  rw [taken]
  unfold loadProfileRequest
  refine ⟨fun fault => ?_, fun rate loaded => ?_, ?_, ?_⟩
  · rw [if_pos ((strapFault_iff s).mpr fault)]; rfl
  · rw [if_neg (noFault rate), if_pos (Option.isSome_iff_ne_none.mpr loaded)]; rfl
  · rintro p rfl rate none outside
    have outside : (!profileInRange (profileOf body)) = true := by
      rw [Bool.not_eq_true', Bool.eq_false_iff, ne_eq, profileInRange_iff]; exact outside
    rw [if_neg (noFault rate), if_neg (by simp [none]), if_pos outside]; rfl
  · rintro p rfl rate none law inside
    have inside : ¬ (!profileInRange (profileOf body)) = true := by
      rw [(profileInRange_iff _).mpr inside]; exact nofun
    rw [if_neg (noFault rate), if_neg (by simp [none]), if_neg inside]
    simp only [PostLaw, none] at law
    unfold storeProfile
    rw [recompute_stands]
    · rfl
    · exact law

/-- Settles O15. -/
theorem readRequestsOnlyAnswer : Obligations.ReadRequestsOnlyAnswer := by
  unfold Obligations.ReadRequestsOnlyAnswer
  intro s shifted accepting
  refine ⟨fun empty => ?_, fun n one => ?_⟩
  · have taken (code : Byte) (act : List Byte → State → State) : takeRequest code (fun n => n == 0) act shifted s = act [] s :=
      takeRequest_of_accepting accepting empty rfl
    refine ⟨congrArg Host.Outcome.next (taken _ _), congrArg Host.Outcome.next (taken _ _), congrArg Host.Outcome.next (taken _ _),
      congrArg Host.Outcome.next (taken _ _), fun none => ?_⟩
    simp only [censusReport, none]
  · have taken : exec (.readOutlet shifted) s = .next (readOutletRequest [n] s) :=
      congrArg Host.Outcome.next (takeRequest_of_accepting accepting one rfl)
    have outlet : byteAt [n] 0 = n.toNat := rfl
    rw [taken, readOutletRequest, outlet]
    refine ⟨fun none => ?_, fun o found => ?_⟩
    · rw [none]; rfl
    · rw [found]; rfl

end Sys2Proof.Machine
end

section
/-! PROOFS. What stands until reset; and the small events: leading edges, the drives' ends, the summary's age, duty and samples. -/

set_option Elab.async false

namespace Sys2Proof.Machine

theorem recompute_standing (mayRaise : Bool) (s : State) : standing (recompute mayRaise s) = standing s := by simp [standing]

/-- The straps stand over the steps of an event. -/
theorem OutletSteps.straps {allowed : Nat → RecordKind → Prop} {s t : State} (steps : OutletSteps allowed s t) :
    t.host.straps = s.host.straps := by
  have of_standing {u v : State} (h : standing v = standing u) : v.host.straps = u.host.straps := congrArg (fun x => x.2.2) h
  induction steps with
  | refl => rfl
  | tail _ step ih =>
    cases step with
    | aside _ stands => exact (of_standing stands).trans ih
    | loaded _ _ _ _ _ straps => exact straps.trans ih
    | changed stands => exact (of_standing stands).trans ih
    | recomputed mayRaise => exact (of_standing (recompute_standing mayRaise _)).trans ih

/-- With a profile loaded, none is loaded anew: profile, pool and straps stand. -/
theorem OutletSteps.standing_of_loaded {allowed : Nat → RecordKind → Prop} {s t : State} {p : Profile} (steps : OutletSteps allowed s t)
    (loaded : s.host.profile = some p) : standing t = standing s := by
  induction steps with
  | refl => rfl
  | tail _ step ih =>
    cases step with
    | aside _ stands => exact stands.trans ih
    | loaded _ none =>
      have stays := congrArg Prod.fst ih
      simp only [standing, none, loaded] at stays
      cases stays
    | changed stands => exact stands.trans ih
    | recomputed mayRaise => exact (recompute_standing mayRaise _).trans ih

/-- Settles O11: no step of an event but LOAD PROFILE without a profile touches them, and reset samples straps that are lawful. -/
theorem profileStandsUntilReset : Obligations.ProfileStandsUntilReset := by
  unfold Obligations.ProfileStandsUntilReset
  refine ⟨fun c s t p loaded noReset step => ?_, fun c s t law step => ?_⟩
  · have stands := OutletSteps.standing_of_loaded (commandSteps_of_exec noReset step) loaded
    simp only [standing, loaded, Prod.mk.injEq] at stands
    exact stands
  · obtain ⟨length, ranges⟩ := id law
    cases reset : isReset c with
    | false =>
      have steps := commandSteps_of_exec reset step
      have straps : t.host.straps = s.host.straps := OutletSteps.straps steps
      have same : t.outlets.length = s.outlets.length := OutletSteps.length steps
      rw [StrapLaw, same, straps]
      exact law
    | true =>
      rcases exec_reset_cases reset step with ⟨outlets, -, -, -, -, -, straps⟩ | ⟨straps, held, ignore, rfl, rfl | ⟨seat, out, rate, rfl⟩⟩
      · rwa [StrapLaw, outlets, straps]
      · exact ⟨List.length_replicate, ranges⟩
      · exact sampled_strapLaw _ _ _ _ _ _

/-! The line's small events. -/

/-- Settles O49. -/
theorem leadingEdgeBeginsARun : Obligations.LeadingEdgeBeginsARun := by
  unfold Obligations.LeadingEdgeBeginsARun
  have edge {s : State} (bit : Nat) (sampled : LineSampled s) : exec (.leadingEdge bit) s = .next { s with line := leadEdge bit s.line } :=
    congrArg Host.Outcome.next (onLine_of_sampled sampled _)
  refine ⟨fun s bit r sampled run => ?_, fun s bit drove drive sampled run drove_eq drive_eq => ?_⟩
  · rw [edge bit sampled]
    refine ⟨fun state => ?_, fun state => ?_⟩
    · simp only [leadEdge, run, state]
    · have stood : leadEdge bit s.line = s.line := by
        simp only [leadEdge, run]
        split
        case h_1 settling => exact absurd settling state
        all_goals rfl
      rw [stood]
  · rw [edge bit sampled]
    have drove_eq : drivingStart s.line.drive = drove := by rw [drove_eq]; unfold drivingStart; split <;> simp_all
    have drive_eq : sawDominant s.line.drive = drive := by rw [drive_eq]; unfold sawDominant; split <;> simp_all
    refine ⟨fun state => ?_, fun state => ?_, fun state => ?_, fun state => ?_⟩ <;>
      simp only [leadEdge, run, state, newRun, drove_eq, drive_eq]

/-- A request served on a FREE line with nothing driven: the transceiver that the three cases of R50 and R51 leave. -/
theorem serve_line {s : State} (sampled : LineSampled s) (free : s.line.state = .free) (idle : s.line.drive = .idle) :
    (s.feeder.hushPending = true → s.line.holdOffMs = 0 → serve s = { s with line.drive := .hush, line.holdOffMs := 2000 }) ∧
    (s.feeder.hushPending = false ∨ s.line.holdOffMs ≠ 0 → s.line.startRequest = true →
      serve s = { s with line.drive := .startPulse false, line.startRequest := false }) ∧
    (s.feeder.hushPending = false ∨ s.line.holdOffMs ≠ 0 → s.line.startRequest = false → serve s = s) := by
  rw [serve_of_free ((lineAlive_iff s).mpr sampled) free idle]
  have noHush (blocked : s.feeder.hushPending = false ∨ s.line.holdOffMs ≠ 0) :
      ¬ (s.feeder.hushPending = true ∧ s.line.holdOffMs = 0) := by
    rintro ⟨pending, expired⟩
    rcases blocked with h | h
    · rw [h] at pending; cases pending
    · exact h expired
  refine ⟨fun pending expired => if_pos ⟨pending, expired⟩, fun blocked start => ?_, fun blocked start => ?_⟩
  · rw [if_neg (noHush blocked), if_pos start]
  · rw [if_neg (noHush blocked), if_neg (by rw [start]; exact nofun)]

/-- Nothing is served while a pulse is driven (R51). -/
theorem serve_of_driven {s : State} (driven : s.line.drive ≠ .idle) : serve s = s := by
  unfold serve; rw [if_neg]; exact fun h => driven h.2.2

theorem reachFree_of_settled {s : State} (run : s.line.run = none) (state : s.line.state = .settling ∨ s.line.state = .stuck) :
    reachFree s = serve { s with line.state := .free, line.recessiveCount := 12 } := by
  unfold reachFree
  rcases state with state | state <;> simp only [run, state]

theorem endStartPulse_of_driving {s : State} {sawRun : Bool} (drive : s.line.drive = .startPulse sawRun) :
    endStartPulse s = serve { s with line.drive := .idle } := by
  have driving : drivingStart s.line.drive = true := by rw [drive]; rfl
  rw [endStartPulse, if_pos driving]

/-- The end of a drive on a FREE line without a run: what a standing request then makes of the line (log entry 9). -/
theorem serve_ends {s : State} (sampled : LineSampled s) (free : s.line.state = .free) {l : Transceiver}
    (hush : s.feeder.hushPending = true → s.line.holdOffMs = 0 → l = { s.line with drive := .hush, holdOffMs := 2000 })
    (start : s.feeder.hushPending = false ∨ s.line.holdOffMs ≠ 0 → s.line.startRequest = true →
      l = { s.line with drive := .startPulse false, startRequest := false })
    (none : s.feeder.hushPending = false ∨ s.line.holdOffMs ≠ 0 → s.line.startRequest = false → l = { s.line with drive := .idle }) :
    serve { s with line.drive := .idle } = { s with line := l } := by
  obtain ⟨serveHush, serveStart, serveNone⟩ := serve_line (s := { s with line.drive := .idle }) sampled free rfl
  by_cases pending : s.feeder.hushPending = true ∧ s.line.holdOffMs = 0
  · rw [serveHush pending.1 pending.2, hush pending.1 pending.2]
  · have blocked : s.feeder.hushPending = false ∨ s.line.holdOffMs ≠ 0 := by
      cases h : s.feeder.hushPending
      · exact .inl rfl
      · exact .inr fun expired => pending ⟨h, expired⟩
    cases request : s.line.startRequest with
    | true => rw [serveStart blocked request, start blocked request]
    | false => rw [serveNone blocked request, none blocked request]

/-- Settles O53. -/
theorem freeLineServesTheDriver : Obligations.FreeLineServesTheDriver := by
  unfold Obligations.FreeLineServesTheDriver
  intro s sampled
  have event (f : State → State) : Host.Outcome.next (onLine f s) = (Host.Outcome.next (f s) : Result) :=
    congrArg Host.Outcome.next (onLine_of_sampled sampled f)
  refine ⟨fun run idle state => ?_, fun run driven state => ?_, fun bitOver driven => ?_, fun bitOver idle bit held => ?_,
    fun sawRun drive notFree => ?_, fun r drive notFree run => ?_, fun l free run hush start none => ⟨fun sawRun drive => ?_, fun drive => ?_⟩,
    fun running idle => ?_, fun running free idle pending => ?_⟩
  · obtain ⟨hush, start, none⟩ := serve_line (s := { s with line.state := .free, line.recessiveCount := 12 }) sampled rfl idle
    have reached : exec .lineFree s = .next (serve { s with line.state := .free, line.recessiveCount := 12 }) :=
      (event reachFree).trans (by rw [reachFree_of_settled run state])
    rw [reached]
    exact ⟨fun pending expired => by rw [hush pending expired], fun blocked request => by rw [start blocked request],
      fun blocked request => by rw [none blocked request]⟩
  · exact (event reachFree).trans (by
      rw [reachFree_of_settled run state]
      exact congrArg Host.Outcome.next (serve_of_driven (s := { s with line.state := .free, line.recessiveCount := 12 }) driven))
  · rcases driven with h | h | h <;> simp [shareDriven, h]
  · cases bitOver <;> simp [shareDriven, idle, bit, held]
  · refine (event endStartPulse).trans ?_
    rw [endStartPulse_of_driving drive]
    exact congrArg Host.Outcome.next (serve_of_not_free (s := { s with line.drive := .idle }) notFree)
  · refine (event endHush).trans ?_
    rw [endHush, if_pos drive, run]
    exact congrArg Host.Outcome.next
      (serve_of_not_free (s := { s with line.drive := .idle, line.run := some { r with hushComplete := true } }) notFree)
  · refine (event endStartPulse).trans ?_
    rw [endStartPulse_of_driving drive, serve_ends sampled free hush start none]
  · have noRun : s.line.run.map (fun r => { r with hushComplete := true }) = s.line.run := by rw [run]; rfl
    refine (event endHush).trans ?_
    rw [endHush, if_pos drive, noRun, serve_ends sampled free hush start none]
  · have stays : serve { s with line.holdOffMs := 0 } = { s with line.holdOffMs := 0 } := by
      rcases idle with h | h
      · exact serve_of_not_free (s := { s with line.holdOffMs := 0 }) h
      · exact serve_of_driven (s := { s with line.holdOffMs := 0 }) h
    refine (event expireHoldOff).trans ?_
    rw [expireHoldOff, if_neg running, stays]
  · obtain ⟨hush, -, -⟩ := serve_line (s := { s with line.holdOffMs := 0 }) sampled free idle
    refine (event expireHoldOff).trans ?_
    rw [expireHoldOff, if_neg running, hush pending rfl]

/-! The summary's age, the setpoints' duty and the feeder's samples. -/

/-- Settles O60. -/
theorem ageDutyAndSample : Obligations.AgeDutyAndSample := by
  unfold Obligations.AgeDutyAndSample
  intro s out
  have event (f : State → State) : Host.Outcome.next (whenRunning f s) = (Host.Outcome.next (f s) : Result) :=
    congrArg Host.Outcome.next (whenRunning_of_outOfReset out f)
  refine ⟨fun m summary => (event ageSummary).trans ?_, fun none => (event ageSummary).trans ?_, ⟨_, event startPwmPeriod, rfl, ?_, ?_, ?_⟩,
    fun code loaded room => (event _).trans ?_, fun code none => (event _).trans ?_⟩
  · simp only [ageSummary, summary]
  · simp only [ageSummary, none]
  · exact mapOutlets_length _ s
  · intro n o found
    have given : (startPwmPeriod s).outlets[n]? = some { o with setpointDuty := o.session.offer * 1000 / 800 } := by
      rw [startPwmPeriod, mapOutlets_getElem?, found]; rfl
    exact ⟨given, by rw [setpointDuty, given]⟩
  · intro n beyond
    have none : (startPwmPeriod s).outlets[n]? = none := by
      rw [List.getElem?_eq_none_iff]; exact (mapOutlets_length _ s).le.trans beyond
    rw [setpointDuty, none]
  · have isLoaded : s.host.profile.isSome = true := Option.isSome_iff_ne_none.mpr loaded
    rw [isLoaded, if_pos rfl, takeSample, if_pos room]
  · rw [none]; rfl

end Sys2Proof.Machine
end

section
/-! PROOFS. The post cap (R140, obligation O42). Its two passes take the outlets in one order: the first reduces toward I_min while there is
excess, the second sets to 0 while there is excess. Each is described by what it leaves of a target and of the sum, and what a cut of one
outlet says of the outlets before it. -/

set_option Elab.async false

namespace Sys2Proof.Machine

/-- A smaller value put in the place of a target; a place beyond the list reads 0 before and after. -/
theorem getD_set_of_le {ts : List Nat} {i v : Nat} (le : v ≤ ts.getD i 0) (j : Nat) :
    (ts.set i v).getD j 0 = if i = j then v else ts.getD j 0 := by
  rw [getD_set]
  by_cases same : i = j
  · subst same
    by_cases within : i < ts.length
    · simp [within]
    · have zero : ts.getD i 0 = 0 := by simp [List.getD_eq_getElem?_getD, List.getElem?_eq_none_iff.mpr (not_lt.mp within)]
      simp only [within, and_false, ↓reduceIte]
      omega
  · simp [same]

theorem sum_set_of_le {ts : List Nat} {i v : Nat} (le : v ≤ ts.getD i 0) : (ts.set i v).sum + ts.getD i 0 = ts.sum + v := by
  induction ts generalizing i with
  | nil =>
    have zero : v = 0 := by simpa using le
    simp [zero]
  | cons t ts ih =>
    cases i with
    | zero => simp only [List.set_cons_zero, List.sum_cons, List.getD_cons_zero]; omega
    | succ i =>
      have := ih (i := i) (by simpa using le)
      simp only [List.set_cons_succ, List.sum_cons, List.getD_cons_succ]; omega

/-- What the first pass leaves: no target below I_min is touched, and with the sum the excess goes down. -/
theorem trimPass_bounds (m : Nat) (order : List Nat) (e : Nat) (ts : List Nat) :
    (∀ j, min (ts.getD j 0) m ≤ (trimPass m order e ts).2.getD j 0) ∧
    (trimPass m order e ts).1 ≤ e ∧ (trimPass m order e ts).2.sum + e = ts.sum + (trimPass m order e ts).1 := by
  induction order generalizing e ts with
  | nil => exact ⟨fun j => Nat.min_le_left _ _, le_rfl, by simp [trimPass]⟩
  | cons i rest ih =>
    have le : ts.getD i 0 - min e (ts.getD i 0 - m) ≤ ts.getD i 0 := Nat.sub_le _ _
    obtain ⟨bound, excess, sum⟩ := ih (e - min e (ts.getD i 0 - m)) (ts.set i (ts.getD i 0 - min e (ts.getD i 0 - m)))
    have total := sum_set_of_le le
    simp only [trimPass]
    refine ⟨fun j => le_trans ?_ (bound j), by omega, by omega⟩
    rw [getD_set_of_le le]
    split
    · next same => subst same; omega
    · exact le_rfl

/-- Without excess the first pass leaves the targets. -/
theorem trimPass_zero (m : Nat) (order ts : List Nat) : trimPass m order 0 ts = (0, ts) := by
  induction order with
  | nil => rfl
  | cons i rest ih =>
    have same : ts.set i (ts.getD i 0) = ts := by
      refine List.ext_getElem? fun j => ?_
      rw [List.getElem?_set]
      split
      · next h =>
        subst h
        split
        · next within => simp [List.getD_eq_getElem?_getD, List.getElem?_eq_getElem within]
        · next beyond => rw [List.getElem?_eq_none_iff.mpr (not_lt.mp beyond)]
      · rfl
    simp only [trimPass, Nat.zero_min, Nat.sub_zero, same, ih]

theorem trimPass_of_notMem {m : Nat} {order : List Nat} {j : Nat} (notMem : j ∉ order) (e : Nat) (ts : List Nat) :
    (trimPass m order e ts).2.getD j 0 = ts.getD j 0 := by
  induction order generalizing e ts with
  | nil => rfl
  | cons i rest ih =>
    rw [List.mem_cons, not_or] at notMem
    simp only [trimPass]
    rw [ih notMem.2, getD_set_of_le (Nat.sub_le _ _), if_neg (Ne.symm notMem.1)]

/-- Where excess is left after the first pass, every outlet of the order stands at I_min or below. -/
theorem trimPass_le_of_excess {m : Nat} {order : List Nat} {e : Nat} {ts : List Nat} {j : Nat} (mem : j ∈ order)
    (excess : 0 < (trimPass m order e ts).1) : (trimPass m order e ts).2.getD j 0 ≤ m := by
  induction order generalizing e ts with
  | nil => cases mem
  | cons i rest ih =>
    simp only [trimPass] at excess ⊢
    by_cases inRest : j ∈ rest
    · exact ih inRest excess
    · obtain rfl := (List.mem_cons.mp mem).resolve_right inRest
      have le := (trimPass_bounds m rest (e - min e (ts.getD j 0 - m)) (ts.set j (ts.getD j 0 - min e (ts.getD j 0 - m)))).2.1
      rw [trimPass_of_notMem inRest, getD_set_of_le (Nat.sub_le _ _), if_pos rfl]
      omega

/-- An outlet that the first pass reduces comes after outlets that it has brought to I_min. -/
theorem trimPass_before {m : Nat} {order : List Nat} {e : Nat} {ts : List Nat} {i j : Nat} (distinct : order.Nodup)
    (before : [i, j].Sublist order) (cut : (trimPass m order e ts).2.getD j 0 < ts.getD j 0) :
    (trimPass m order e ts).2.getD i 0 ≤ m := by
  induction order generalizing e ts with
  | nil => cases before
  | cons k rest ih =>
    obtain ⟨fresh, distinct⟩ := List.nodup_cons.mp distinct
    simp only [trimPass] at cut ⊢
    cases before with
    | cons _ before =>
      have mem : j ∈ rest := before.subset (by simp)
      refine ih distinct before (lt_of_lt_of_eq cut ?_)
      rw [getD_set_of_le (Nat.sub_le _ _), if_neg (ne_of_mem_of_not_mem mem fresh).symm]
    | cons_cons _ after =>
      have mem : j ∈ rest := List.singleton_sublist.mp after
      rw [trimPass_of_notMem fresh, getD_set_of_le (Nat.sub_le _ _), if_pos rfl]
      by_contra above
      have spent : e - min e (ts.getD i 0 - m) = 0 := by omega
      rw [spent, trimPass_zero, getD_set_of_le (Nat.sub_le _ _), if_neg (ne_of_mem_of_not_mem mem fresh).symm] at cut
      exact lt_irrefl _ cut

theorem dropPass_of_notMem {order : List Nat} {j : Nat} (notMem : j ∉ order) (e : Nat) (ts : List Nat) :
    (dropPass order e ts).getD j 0 = ts.getD j 0 := by
  induction order generalizing e ts with
  | nil => rfl
  | cons i rest ih =>
    rw [List.mem_cons, not_or] at notMem
    unfold dropPass
    split
    · rfl
    · rw [ih notMem.2, getD_set_of_le (Nat.zero_le _), if_neg (Ne.symm notMem.1)]

/-- The second pass takes the excess off the sum, or every outlet of the order down to 0. -/
theorem dropPass_sum (order : List Nat) (e : Nat) (ts : List Nat) :
    (dropPass order e ts).sum + e ≤ ts.sum ∨ ∀ j ∈ order, (dropPass order e ts).getD j 0 = 0 := by
  induction order generalizing e ts with
  | nil => exact .inr fun j mem => nomatch mem
  | cons i rest ih =>
    unfold dropPass
    split
    · next zero => exact .inl (by omega)
    · have total := sum_set_of_le (ts := ts) (i := i) (Nat.zero_le _)
      rcases ih (e - ts.getD i 0) (ts.set i 0) with sum | zeros
      · exact .inl (by omega)
      · refine .inr fun j mem => ?_
        by_cases inRest : j ∈ rest
        · exact zeros j inRest
        · obtain rfl := (List.mem_cons.mp mem).resolve_right inRest
          rw [dropPass_of_notMem inRest, getD_set_of_le (Nat.zero_le _), if_pos rfl]

/-- An outlet that the second pass sets to 0 comes after outlets that it has set to 0. -/
theorem dropPass_before {order : List Nat} {e : Nat} {ts : List Nat} {i j : Nat} (distinct : order.Nodup)
    (before : [i, j].Sublist order) (some : 0 < ts.getD j 0) (dropped : (dropPass order e ts).getD j 0 = 0) :
    (dropPass order e ts).getD i 0 = 0 := by
  induction order generalizing e ts with
  | nil => cases before
  | cons k rest ih =>
    obtain ⟨fresh, distinct⟩ := List.nodup_cons.mp distinct
    unfold dropPass at dropped ⊢
    split at dropped
    · omega
    · next excess =>
      rw [if_neg excess]
      cases before with
      | cons _ before =>
        have mem : j ∈ rest := before.subset (by simp)
        refine ih distinct before ?_ dropped
        rwa [getD_set_of_le (Nat.zero_le _), if_neg (ne_of_mem_of_not_mem mem fresh).symm]
      | cons_cons _ after => rw [dropPass_of_notMem fresh, getD_set_of_le (Nat.zero_le _), if_pos rfl]

theorem dropPass_zero (order ts : List Nat) : dropPass order 0 ts = ts := by cases order <;> simp [dropPass]

/-- A list of zeros sums to 0. -/
theorem sum_of_zeros {ts : List Nat} (zeros : ∀ j, ts.getD j 0 = 0) : ts.sum = 0 := by
  rw [List.sum_eq_zero_iff]
  intro t mem
  obtain ⟨j, found⟩ := List.mem_iff_getElem?.mp mem
  simpa [List.getD_eq_getElem?_getD, found] using zeros j

section
variable {m limit : Nat} {order ts : List Nat}

/-- The post cap keeps within the limit, where every outlet with a target is in the order. -/
theorem postCap_sum_le (covers : ∀ j, 0 < ts.getD j 0 → j ∈ order) : (postCap m limit order ts).sum ≤ limit := by
  obtain ⟨-, excess, sum⟩ := trimPass_bounds m order (ts.sum - limit) ts
  unfold postCap
  rcases dropPass_sum order (trimPass m order (ts.sum - limit) ts).1 (trimPass m order (ts.sum - limit) ts).2 with within | zeros
  · omega
  · refine le_of_eq_of_le (sum_of_zeros fun j => ?_) (Nat.zero_le _)
    by_cases mem : j ∈ order
    · exact zeros j mem
    · have none : ¬ 0 < ts.getD j 0 := fun h => mem (covers j h)
      rw [dropPass_of_notMem mem, trimPass_of_notMem mem]
      omega

theorem postCap_of_within (within : ts.sum ≤ limit) : postCap m limit order ts = ts := by
  rw [postCap, Nat.sub_eq_zero_of_le within, trimPass_zero, dropPass_zero]

theorem postCap_cases (j : Nat) :
    (postCap m limit order ts).getD j 0 = 0 ∨ min (ts.getD j 0) m ≤ (postCap m limit order ts).getD j 0 := by
  unfold postCap
  rcases dropPass_cases order (trimPass m order (ts.sum - limit) ts).1 (trimPass m order (ts.sum - limit) ts).2 j with h | h
  · exact .inr (h ▸ (trimPass_bounds m order (ts.sum - limit) ts).1 j)
  · exact .inl h

/-- A target set to 0 shows that excess was left when every outlet stood at I_min. -/
theorem excess_of_dropped (positive : 0 < m) {i : Nat} (some : 0 < ts.getD i 0) (dropped : (postCap m limit order ts).getD i 0 = 0) :
    0 < (trimPass m order (ts.sum - limit) ts).1 := by
  by_contra none
  have zero : (trimPass m order (ts.sum - limit) ts).1 = 0 := by omega
  have bound := (trimPass_bounds m order (ts.sum - limit) ts).1 i
  rw [postCap, zero, dropPass_zero] at dropped
  omega

theorem postCap_le_trim (j : Nat) : (postCap m limit order ts).getD j 0 ≤ (trimPass m order (ts.sum - limit) ts).2.getD j 0 := by
  unfold postCap
  rcases dropPass_cases order (trimPass m order (ts.sum - limit) ts).1 (trimPass m order (ts.sum - limit) ts).2 j with h | h
  · exact h.le
  · rw [h]; exact Nat.zero_le _

/-- No target goes to 0 before every other has gone to I_min. -/
theorem postCap_le_of_dropped (positive : 0 < m) (covers : ∀ j, 0 < ts.getD j 0 → j ∈ order) {i : Nat} (some : 0 < ts.getD i 0)
    (dropped : (postCap m limit order ts).getD i 0 = 0) (j : Nat) : (postCap m limit order ts).getD j 0 ≤ m := by
  by_cases mem : j ∈ order
  · exact (postCap_le_trim j).trans (trimPass_le_of_excess mem (excess_of_dropped positive some dropped))
  · have none : ¬ 0 < ts.getD j 0 := fun h => mem (covers j h)
    have := postCap_le m limit order ts j
    omega

theorem postCap_dropped_before (positive : 0 < m) (distinct : order.Nodup) {i j : Nat} (before : [i, j].Sublist order)
    (some : 0 < ts.getD j 0) (dropped : (postCap m limit order ts).getD j 0 = 0) : (postCap m limit order ts).getD i 0 = 0 := by
  have bound := (trimPass_bounds m order (ts.sum - limit) ts).1 j
  exact dropPass_before distinct before (by omega) dropped

theorem postCap_cut_before (positive : 0 < m) (distinct : order.Nodup) {i j : Nat} (before : [i, j].Sublist order)
    (cut : (postCap m limit order ts).getD j 0 < ts.getD j 0) : (postCap m limit order ts).getD i 0 ≤ m := by
  have mem : i ∈ order := before.subset (by simp)
  by_cases trimmed : (trimPass m order (ts.sum - limit) ts).2.getD j 0 < ts.getD j 0
  · exact (postCap_le_trim i).trans (trimPass_before distinct before trimmed)
  · have dropped : (postCap m limit order ts).getD j 0 = 0 := by
      rcases dropPass_cases order (trimPass m order (ts.sum - limit) ts).1 (trimPass m order (ts.sum - limit) ts).2 j with h | h
      · unfold postCap at cut; omega
      · exact h
    exact (postCap_le_trim i).trans (trimPass_le_of_excess mem (excess_of_dropped positive (by omega) dropped))

end

/-! The cut order. -/

/-- The place in the cut order of the outlet with a number; 0 for one that the part does not have (R140). -/
def cutClassAt (os : List Outlet) (i : Nat) : Nat :=
  match os[i]? with
  | some o => cutClass o.session
  | none => 0

/-- An outlet is cut before another: its class comes first, or in one class its index is higher. -/
def CutBefore (os : List Outlet) (i j : Nat) : Prop :=
  cutClassAt os i < cutClassAt os j ∨ (cutClassAt os i = cutClassAt os j ∧ j < i)

theorem mem_cutOrderOf {os : List Outlet} {c i : Nat} (positive : 0 < c) : i ∈ cutOrderOf os c ↔ cutClassAt os i = c := by
  unfold cutOrderOf cutClassAt
  simp only [List.mem_filter, List.mem_reverse, List.mem_range]
  cases found : os[i]? with
  | none => simp; omega
  | some o => simp [(List.getElem?_eq_some_iff.mp found).1]

theorem cutClass_le (r : Session) : cutClass r ≤ 5 := by unfold cutClass; split_ifs <;> (try split) <;> omega

theorem cutClassAt_le (os : List Outlet) (i : Nat) : cutClassAt os i ≤ 5 := by
  unfold cutClassAt
  split
  · exact cutClass_le _
  · omega

theorem mem_cutOrder {os : List Outlet} {i : Nat} : i ∈ cutOrder os ↔ 0 < cutClassAt os i := by
  have le := cutClassAt_le os i
  simp only [cutOrder, List.mem_append, mem_cutOrderOf (Nat.succ_pos _)]
  omega

theorem cutOrderOf_pairwise (os : List Outlet) {c : Nat} (positive : 0 < c) : (cutOrderOf os c).Pairwise (CutBefore os) := by
  have falling : (cutOrderOf os c).Pairwise (fun i j => j < i) :=
    (List.pairwise_reverse.mpr List.pairwise_lt_range).filter _
  refine falling.imp_of_mem fun hi hj lt => .inr ⟨?_, lt⟩
  rw [(mem_cutOrderOf positive).mp hi, (mem_cutOrderOf positive).mp hj]

/-- The cut order is in order. -/
theorem cutOrder_pairwise (os : List Outlet) : (cutOrder os).Pairwise (CutBefore os) := by
  have across {a b i j : Nat} (lt : a < b) (hi : cutClassAt os i = a) (hj : cutClassAt os j = b) : CutBefore os i j := .inl (by omega)
  simp only [cutOrder, List.pairwise_append, List.mem_append, mem_cutOrderOf (Nat.succ_pos _)]
  refine ⟨⟨⟨⟨cutOrderOf_pairwise os (by decide), cutOrderOf_pairwise os (by decide), ?_⟩, cutOrderOf_pairwise os (by decide), ?_⟩,
    cutOrderOf_pairwise os (by decide), ?_⟩, cutOrderOf_pairwise os (by decide), ?_⟩ <;> intro i hi j hj <;> exact .inl (by omega)

theorem CutBefore.irrefl (os : List Outlet) (i : Nat) : ¬ CutBefore os i i := by unfold CutBefore; omega

theorem CutBefore.asymm {os : List Outlet} {i j : Nat} (h : CutBefore os i j) : ¬ CutBefore os j i := by
  unfold CutBefore at *; omega

theorem cutOrder_nodup (os : List Outlet) : (cutOrder os).Nodup :=
  List.Pairwise.imp (fun {i j} (h : CutBefore os i j) (same : i = j) => CutBefore.irrefl os j (same ▸ h)) (cutOrder_pairwise os)

/-- Two members of an ordered list stand in it in their order. -/
theorem pair_sublist {R : Nat → Nat → Prop} {l : List Nat} {i j : Nat} (ordered : l.Pairwise R) (asymm : R i j → ¬ R j i) (hi : i ∈ l)
    (hj : j ∈ l) (irrefl : ¬ R i i) (before : R i j) : [i, j].Sublist l := by
  induction l with
  | nil => cases hi
  | cons k rest ih =>
    obtain ⟨first, ordered⟩ := List.pairwise_cons.mp ordered
    rcases List.mem_cons.mp hi with here | inRest
    · subst here
      rcases List.mem_cons.mp hj with same | inRest
      · exact absurd (same ▸ before) irrefl
      · exact (List.singleton_sublist.mpr inRest).cons_cons _
    · rcases List.mem_cons.mp hj with here | alsoInRest
      · subst here
        exact absurd (first i inRest) (asymm before)
      · exact (ih ordered inRest alsoInRest).cons _

theorem cutOrder_sublist {os : List Outlet} {i j : Nat} (hi : 0 < cutClassAt os i) (hj : 0 < cutClassAt os j) (before : CutBefore os i j) :
    [i, j].Sublist (cutOrder os) :=
  pair_sublist (cutOrder_pairwise os) CutBefore.asymm (mem_cutOrder.mpr hi) (mem_cutOrder.mpr hj) (CutBefore.irrefl os i) before

/-- A session with a raw target is PAUSED, CHARGING or STALLED, and so has a place in the cut order (R137 to R140). -/
theorem cutClass_pos_of_rawTarget {p : Profile} {part : Participation} {curtail : Nat} {o : Outlet}
    (some : 0 < rawTarget p part curtail o) : (o.session.state = .stalled ∨ inPair o.session.state = true) ∧ 0 < cutClass o.session := by
  have active : o.session.state = .stalled ∨ inPair o.session.state = true := by
    by_contra idle
    have none : o.session.state = .vacant ∨ o.session.state = .topped ∨ o.session.state = .faulted := by
      cases state : o.session.state <;> simp_all [inPair]
    rw [rawTarget_of_noTarget p part curtail none] at some
    exact lt_irrefl _ some
  refine ⟨active, ?_⟩
  rw [cutClass_eq _ active]
  split <;> omega

theorem getD_rawTargets (p : Profile) (part : Participation) (curtail : Nat) (os : List Outlet) (i : Nat) :
    (os.map (rawTarget p part curtail)).getD i 0 = (os[i]?.map (rawTarget p part curtail)).getD 0 := by
  simp [List.getD_eq_getElem?_getD]

/-- Every outlet with a raw target is in the cut order. -/
theorem rawTargets_covered (p : Profile) (part : Participation) (curtail : Nat) (os : List Outlet) (j : Nat)
    (some : 0 < (os.map (rawTarget p part curtail)).getD j 0) : j ∈ cutOrder os := by
  rw [getD_rawTargets] at some
  rw [mem_cutOrder, cutClassAt]
  cases found : os[j]? with
  | none => rw [found] at some; exact absurd some (lt_irrefl 0)
  | some o => rw [found] at some; exact (cutClass_pos_of_rawTarget some).2

/-- Settles O42: the two passes over the cut order. -/
theorem postCapCutsInOrder : Obligations.PostCapCutsInOrder := by
  unfold Obligations.PostCapCutsInOrder
  rintro p part curtail os raw ts place before positive rfl rfl ranges place_eq before_iff
  have covers := rawTargets_covered p part curtail os
  have ordered {i j : Nat} (h : before i j) (hi : 0 < (os.map (rawTarget p part curtail)).getD i 0)
      (hj : 0 < (os.map (rawTarget p part curtail)).getD j 0) : [i, j].Sublist (cutOrder os) := by
    obtain ⟨u, v, foundI, foundJ, first⟩ := (before_iff i j).mp h
    rw [getD_rawTargets, foundI] at hi
    rw [getD_rawTargets, foundJ] at hj
    obtain ⟨activeI, posI⟩ := cutClass_pos_of_rawTarget hi
    obtain ⟨activeJ, posJ⟩ := cutClass_pos_of_rawTarget hj
    rw [place_eq, place_eq, ← cutClass_eq _ activeI, ← cutClass_eq _ activeJ] at first
    have classI : cutClassAt os i = cutClass u.session := by rw [cutClassAt, foundI]
    have classJ : cutClassAt os j = cutClass v.session := by rw [cutClassAt, foundJ]
    refine cutOrder_sublist (classI ▸ posI) (classJ ▸ posJ) ?_
    rwa [CutBefore, classI, classJ]
  refine ⟨cappedTargets_length p part curtail os, postCap_sum_le covers, postCap_of_within, fun i within => ?_, ?_, ?_, ?_⟩
  · rcases postCap_cases (m := p.minCurrent) (limit := p.postLimit) (order := cutOrder os)
      (ts := os.map (rawTarget p part curtail)) i with zero | bound
    · exact .inl zero
    · have mem : (os.map (rawTarget p part curtail)).getD i 0 ∈ os.map (rawTarget p part curtail) := by
        rw [List.getD_eq_getElem?_getD, List.getElem?_eq_getElem (by simpa using within)]
        exact List.getElem_mem _
      have upper := postCap_le p.minCurrent p.postLimit (cutOrder os) (os.map (rawTarget p part curtail)) i
      rcases ranges _ mem with none | some
      · rw [none] at upper
        exact .inl (Nat.le_zero.mp upper)
      · rw [Nat.min_eq_right some] at bound
        exact .inr ⟨bound, upper⟩
  · exact fun i j _ _ some dropped => postCap_le_of_dropped positive covers some dropped j
  · exact fun i j h hi hj dropped => postCap_dropped_before positive (cutOrder_nodup os) (ordered h hi hj) hj dropped
  · intro i j h cut
    by_cases some : 0 < (os.map (rawTarget p part curtail)).getD i 0
    · exact postCap_cut_before positive (cutOrder_nodup os) (ordered h some (Nat.zero_lt_of_lt cut)) cut
    · have upper := postCap_le p.minCurrent p.postLimit (cutOrder os) (os.map (rawTarget p part curtail)) i
      unfold cappedTargets
      omega

end Sys2Proof.Machine
end

section
/-! PROOFS. The targets of a recomputation follow the tables (R137 to R141), and the census timer's expiry, which makes them in ISLANDED. -/

set_option Elab.async false

namespace Sys2Proof.Machine

/-- The second pass goes no further below the excess than the last target it sets to 0. -/
theorem dropPass_overshoot {m : Nat} {order : List Nat} {ts : List Nat} (e : Nat) (small : ∀ j ∈ order, ts.getD j 0 ≤ m) :
    ts.sum ≤ (dropPass order e ts).sum + e + m := by
  induction order generalizing e ts with
  | nil => simp only [dropPass]; omega
  | cons i rest ih =>
    have total := sum_set_of_le (ts := ts) (i := i) (Nat.zero_le _)
    have first := small i List.mem_cons_self
    unfold dropPass
    split
    · omega
    · by_cases enough : ts.getD i 0 ≤ e
      · have stillSmall (j : Nat) (mem : j ∈ rest) : (ts.set i 0).getD j 0 ≤ m := by
          rw [getD_set_of_le (Nat.zero_le _)]
          split
          · exact Nat.zero_le _
          · exact small j (List.mem_cons_of_mem _ mem)
        have := ih (e - ts.getD i 0) stillSmall
        omega
      · rw [Nat.sub_eq_zero_of_le (by omega), dropPass_zero]
        omega

/-- The post cap cuts no further than by I_min below the limit. -/
theorem postCap_sum_ge {m limit : Nat} {order ts : List Nat} (exceeds : limit < ts.sum) :
    limit ≤ (postCap m limit order ts).sum + m := by
  obtain ⟨-, excess, sum⟩ := trimPass_bounds m order (ts.sum - limit) ts
  unfold postCap
  by_cases left : 0 < (trimPass m order (ts.sum - limit) ts).1
  · have := dropPass_overshoot (trimPass m order (ts.sum - limit) ts).1
      (fun j mem => trimPass_le_of_excess (m := m) mem left)
    omega
  · have zero : (trimPass m order (ts.sum - limit) ts).1 = 0 := by omega
    rw [zero, dropPass_zero]
    omega

/-- What the tables read of a record: its state with PAUSED and CHARGING as one, its van max, its band, G and B (R137 to R140). -/
structure CapView where
  state : SessionState
  vanMax : Nat
  band : Band
  g : Nat
  b : Nat

def capView (o : Outlet) : CapView where
  state := if inPair o.session.state then .paused else o.session.state
  vanMax := o.session.vanMax
  band := o.session.band
  g := o.share.g
  b := o.share.b

theorem tableTarget_of_view {p : Profile} {part : Participation} {curtail : Nat} {o o' : Outlet} (view : capView o' = capView o) :
    tableTarget p part curtail o' = tableTarget p part curtail o := by
  simp only [capView, CapView.mk.injEq] at view
  obtain ⟨state, vanMax, band, g, b⟩ := view
  unfold tableTarget
  rw [vanMax, band, g, b]
  cases stateO : o.session.state <;> cases stateO' : o'.session.state <;> simp_all [inPair]

theorem rawTarget_of_view {p : Profile} {part : Participation} {curtail : Nat} {o o' : Outlet} (view : capView o' = capView o) :
    rawTarget p part curtail o' = rawTarget p part curtail o := by
  rw [rawTarget_eq_tableTarget, rawTarget_eq_tableTarget, tableTarget_of_view view]

theorem cutClass_of_view {o o' : Outlet} (view : capView o' = capView o) : cutClass o'.session = cutClass o.session := by
  simp only [capView, CapView.mk.injEq] at view
  obtain ⟨state, -, band, -, -⟩ := view
  unfold cutClass
  rw [band]
  cases stateO : o.session.state <;> cases stateO' : o'.session.state <;> simp_all [inPair]

/-- The targets of a recomputation depend on what the tables read of the records, and on nothing else. -/
theorem cappedTargets_of_views {os os' : List Outlet} (length : os'.length = os.length)
    (views : ∀ (n : Nat) (o o' : Outlet), os[n]? = some o → os'[n]? = some o' → capView o' = capView o) (p : Profile) (part : Participation)
    (curtail : Nat) : cappedTargets p part curtail os' = cappedTargets p part curtail os := by
  have each (n : Nat) (within : n < os.length) : capView os'[n] = capView os[n] :=
    views n _ _ (List.getElem?_eq_getElem within) (List.getElem?_eq_getElem (length ▸ within))
  have raws : os'.map (rawTarget p part curtail) = os.map (rawTarget p part curtail) := by
    refine List.ext_getElem (by simp [length]) fun n _ within => ?_
    rw [List.getElem_map, List.getElem_map]
    exact rawTarget_of_view (each n (by simpa using within))
  have order : cutOrder os' = cutOrder os := by
    have ofClass (c : Nat) : cutOrderOf os' c = cutOrderOf os c := by
      unfold cutOrderOf
      rw [length]
      refine List.filter_congr fun i mem => ?_
      have within : i < os.length := by simpa using mem
      rw [List.getElem?_eq_getElem within, List.getElem?_eq_getElem (length ▸ within)]
      dsimp only
      rw [cutClass_of_view (each i within)]
    simp only [cutOrder, ofClass]
  unfold cappedTargets
  rw [raws, order]

theorem giveTarget_capView (mayRaise : Bool) (o : Outlet) (t : Nat) : capView (giveTarget mayRaise o t) = capView o := by
  have session := giveTarget_session o mayRaise t
  have vanMax : (giveTarget mayRaise o t).session.vanMax = o.session.vanMax := by rw [session]
  have band : (giveTarget mayRaise o t).session.band = o.session.band := by rw [session]
  simp only [capView, vanMax, band, giveTarget_inPair, giveTarget_share, CapView.mk.injEq, and_true]
  rcases giveTarget_state o mayRaise t with h | ⟨charging, -⟩
  · rw [h]
  · simp [charging, inPair]

/-- Records whose targets are those of the cap follow the tables. -/
theorem targetsFollowTable_of_capped {p : Profile} {part : Participation} {curtail : Nat} {os : List Outlet} (positive : 0 < p.minCurrent)
    (targets : os.map (fun o => o.share.target) = cappedTargets p part curtail os) : TargetsFollowTable p part curtail os := by
  have raw_eq : os.map (tableTarget p part curtail) = os.map (rawTarget p part curtail) :=
    List.map_congr_left fun o _ => (rawTarget_eq_tableTarget p part curtail o).symm
  have covers := rawTargets_covered p part curtail os
  have at_ {n : Nat} {o : Outlet} (found : os[n]? = some o) : o.share.target = (cappedTargets p part curtail os).getD n 0 ∧
      tableTarget p part curtail o = (os.map (rawTarget p part curtail)).getD n 0 := by
    rw [← targets, ← raw_eq]
    simp [List.getD_eq_getElem?_getD, found]
  have find {o : Outlet} (mem : o ∈ os) : ∃ n, os[n]? = some o := List.mem_iff_getElem?.mp mem
  refine ⟨fun within o mem => ?_, fun o mem => ?_, fun o mem => ?_, fun o mem u memU some dropped => ?_, ?_, fun exceeds => ?_⟩
  · obtain ⟨n, found⟩ := find mem
    rw [(at_ found).1, (at_ found).2, cappedTargets, postCap_of_within (raw_eq ▸ within)]
  · obtain ⟨n, found⟩ := find mem
    rw [(at_ found).1, (at_ found).2]
    exact postCap_le _ _ _ _ _
  · obtain ⟨n, found⟩ := find mem
    rw [(at_ found).1, (at_ found).2, Nat.min_comm]
    exact postCap_cases n
  · obtain ⟨n, found⟩ := find mem
    obtain ⟨k, foundU⟩ := find memU
    rw [(at_ found).2] at some
    rw [(at_ found).1] at dropped
    rw [(at_ foundU).1]
    exact postCap_le_of_dropped positive covers some dropped k
  · rw [targets]
    exact postCap_sum_le covers
  · rw [targets]
    exact postCap_sum_ge (raw_eq ▸ exceeds)

/-- A recomputation that may raise gives each outlet the target of the cap. -/
theorem retarget_targets (p : Profile) (part : Participation) (curtail : Nat) (os : List Outlet) :
    (retarget p part curtail true os).map (fun o => o.share.target) = cappedTargets p part curtail os := by
  refine List.ext_getElem (by simp [retarget_length, cappedTargets_length]) fun n _ within => ?_
  have inside : n < os.length := by rwa [cappedTargets_length] at within
  have found := retarget_getElem? p part curtail true os n
  rw [List.getElem?_eq_getElem inside, Option.map_some,
    List.getElem?_eq_getElem (by rw [retarget_length]; exact inside)] at found
  rw [List.getElem_map, Option.some.inj found, giveTarget_share]
  simp [List.getD_eq_getElem?_getD, List.getElem?_eq_getElem within]

theorem retarget_capped (p : Profile) (part : Participation) (curtail : Nat) (mayRaise : Bool) (os : List Outlet) (p' : Profile)
    (part' : Participation) (curtail' : Nat) :
    cappedTargets p' part' curtail' (retarget p part curtail mayRaise os) = cappedTargets p' part' curtail' os := by
  refine cappedTargets_of_views (retarget_length _ _ _ _ _) (fun n o o' found found' => ?_) p' part' curtail'
  rw [retarget_getElem?, found] at found'
  obtain rfl := Option.some.inj found'
  exact giveTarget_capView _ _ _

theorem retarget_followsTable {p : Profile} (positive : 0 < p.minCurrent) (part : Participation) (curtail : Nat) (os : List Outlet) :
    TargetsFollowTable p part curtail (retarget p part curtail true os) :=
  targetsFollowTable_of_capped positive (by rw [retarget_targets, retarget_capped])

theorem PostLaw.positive {s : State} {p : Profile} (law : PostLaw s) (loaded : s.host.profile = some p) : 0 < p.minCurrent := by
  simp only [PostLaw, loaded] at law
  obtain ⟨-, -, -, -, -, -, atLeast, -⟩ := (profileInRange_iff p).mp law.1
  omega

/-! O58: the census timer's expiry. -/

section
variable {s : State}

theorem refreshFallback_of_islanded {p : Profile} (islanded : s.census.participation = .islanded) (loaded : s.host.profile = some p) :
    refreshFallback s = { s with
      outlets := retarget p .islanded s.shares.curtail true
        (s.outlets.map fun o => { o with session := sessionAtExpiry p s o.session }) } := by
  rw [refreshFallback, if_pos islanded, snapshotAtExpiry_of_profile loaded,
    recompute_of_profile (s := { s with outlets := s.outlets.map fun o => { o with session := sessionAtExpiry p s o.session } }) true loaded]
  dsimp only
  rw [islanded]

theorem refreshFallback_of_not (other : s.census.participation ≠ .islanded) : refreshFallback s = s := by
  rw [refreshFallback, if_neg other]

theorem takesPart_of_timerLoaded (part : s.census.participation ≠ .offline) : takesPart { s with census.timerMs := 2000 } = true :=
  (takesPart_iff _).mpr part

/-- An expiry outside OFFLINE on a FREE line: the start request stands, and is served where it can be (R61). -/
theorem expireTimer_of_free (part : s.census.participation ≠ .offline) (free : s.line.state = .free) :
    expireTimer s = refreshFallback (serve { s with census.timerMs := 2000, line.startRequest := true }) := by
  unfold expireTimer
  dsimp only
  rw [if_pos (takesPart_of_timerLoaded part), if_pos free]
  rfl

theorem expireTimer_of_islanded (part : s.census.participation = .islanded) (notFree : s.line.state ≠ .free) :
    expireTimer s = refreshFallback (countMissed { s with census.timerMs := 2000, line.startRequest := true }) := by
  unfold expireTimer
  dsimp only
  rw [if_pos (takesPart_of_timerLoaded (by rw [part]; exact nofun)), if_neg notFree, if_pos part]
  rfl

theorem expireTimer_of_busy (part : s.census.participation ≠ .offline) (other : s.census.participation ≠ .islanded)
    (notFree : s.line.state ≠ .free) :
    expireTimer s = missPeriodAtExpiry { s with census.timerMs := 2000, line.startRequest := true } := by
  unfold expireTimer
  dsimp only
  rw [if_pos (takesPart_of_timerLoaded part), if_neg notFree, if_neg other]
  rfl

/-- The start request served at an expiry on a FREE line without a hush to send (R50, R61). -/
theorem serve_startRequest (sampled : LineSampled s) (free : s.line.state = .free) (idle : s.line.drive = .idle)
    (noHush : s.feeder.hushPending = false ∨ s.line.holdOffMs ≠ 0) :
    serve { s with census.timerMs := 2000, line.startRequest := true } =
      { s with census.timerMs := 2000, line.drive := .startPulse false, line.startRequest := false } := by
  obtain ⟨-, start, -⟩ := serve_line (s := { s with census.timerMs := 2000, line.startRequest := true }) sampled free idle
  rw [start noHush rfl]

/-- Settles O58: the outcomes of the expiry, one for each kind of participation and line. -/
theorem censusTimerExpiryActsByState : Obligations.CensusTimerExpiryActsByState := by
  unfold Obligations.CensusTimerExpiryActsByState
  intro s out
  have expired : exec .censusTimerExpiry s = .next (expireTimer s) :=
    congrArg Host.Outcome.next (whenRunning_of_outOfReset out expireTimer)
  have outside {part : Participation} (h : part = .listening ∨ part = .joined) : part ≠ .offline ∧ part ≠ .islanded := by
    rcases h with h | h <;> rw [h] <;> exact ⟨nofun, nofun⟩
  rw [expired]
  refine ⟨fun offline => ?_, fun part free idle noHush rate => ?_, fun part free driven => ?_, fun part busy few => ?_,
    fun p islanded busy loaded => ⟨_, rfl, ?_⟩, fun p islanded free idle noHush rate loaded => ⟨_, rfl, ?_⟩⟩
  · have takesNone : ¬ takesPart { s with census.timerMs := 2000 } = true := by rw [takesPart_iff]; exact not_not.mpr offline
    unfold expireTimer
    dsimp only
    rw [if_neg takesNone]
  · rw [expireTimer_of_free (outside part).1 free, serve_startRequest ⟨out, rate⟩ free idle noHush]
    exact congrArg Host.Outcome.next (refreshFallback_of_not (outside part).2)
  · rw [expireTimer_of_free (outside part).1 free,
      serve_of_driven (s := { s with census.timerMs := 2000, line.startRequest := true }) driven]
    exact congrArg Host.Outcome.next (refreshFallback_of_not (outside part).2)
  · have noEntry : ¬ reachesThree { s with census.timerMs := 2000, line.startRequest := true } = true := by
      rw [reachesThree_iff]
      exact fun h => absurd h.1 (by show s.census.missed ≠ 2; omega)
    rw [expireTimer_of_busy (outside part).1 (outside part).2 busy, missPeriodAtExpiry, if_neg noEntry, countMissed_eq]
    dsimp only
    rw [if_neg (outside part).1, Nat.min_eq_right (by omega)]
  · have refreshed : expireTimer s = { s with
        census := { s.census with timerMs := 2000, missed := min 3 (s.census.missed + 1) }
        line := { s.line with startRequest := true }
        outlets := retarget p .islanded s.shares.curtail true
          (s.outlets.map fun o => { o with session := sessionAtExpiry p s o.session }) } := by
      rw [expireTimer_of_islanded islanded busy, countMissed_eq]
      dsimp only
      rw [if_neg (by rw [islanded]; exact nofun)]
      exact refreshFallback_of_islanded (s := { s with
        census := { s.census with timerMs := 2000, missed := min 3 (s.census.missed + 1) }, line.startRequest := true }) islanded loaded
    refine ⟨refreshed, fun law => ?_⟩
    rw [refreshed]
    exact retarget_followsTable (law.positive loaded) _ _ _
  · have refreshed : expireTimer s = { s with
        census := { s.census with timerMs := 2000 }
        line := { s.line with drive := .startPulse false, startRequest := false }
        outlets := retarget p .islanded s.shares.curtail true
          (s.outlets.map fun o => { o with session := sessionAtExpiry p s o.session }) } := by
      rw [expireTimer_of_free (by rw [islanded]; exact nofun) free, serve_startRequest ⟨out, rate⟩ free idle noHush]
      exact refreshFallback_of_islanded (s := { s with
        census.timerMs := 2000, line.drive := .startPulse false, line.startRequest := false }) islanded loaded
    refine ⟨refreshed, fun law => ?_⟩
    rw [refreshed]
    exact retarget_followsTable (law.positive loaded) _ _ _

end

end Sys2Proof.Machine
end

section
/-! PROOFS. The three session requests: the order of their refusals, and what OPEN, AMEND and CLOSE make of the outlet's record. -/

set_option Elab.async false

namespace Sys2Proof.Machine

section
variable {s : State} {n : Nat} {o : Outlet}

theorem modify_of_found {os : List Outlet} (f : Outlet → Outlet) (found : os[n]? = some o) : os.modify n f = os.set n (f o) := by
  refine List.ext_getElem? fun m => ?_
  rw [List.getElem?_modify, List.getElem?_set]
  obtain ⟨within, rfl⟩ := List.getElem?_eq_some_iff.mp found
  by_cases same : n = m
  · subst same
    simp [within]
  · simp [same]

theorem modifyOutlet_of_found (f : Outlet → Outlet) (found : s.outlets[n]? = some o) :
    modifyOutlet n f s = { s with outlets := s.outlets.set n (f o) } :=
  congrArg (fun os => { s with outlets := os }) (modify_of_found f found)

theorem raiseIf_eq (cond : Bool) (e : Event) (s : State) :
    raiseIf cond e s = { s with host.events := if cond then s.host.events ||| eventFlag e else s.host.events } := by
  cases cond <;> rfl

theorem set_getElem?_of_found {os : List Outlet} (found : os[n]? = some o) (o' : Outlet) : (os.set n o')[n]? = some o' :=
  List.getElem?_set_self (List.getElem?_eq_some_iff.mp found).1

/-- A record without an offer that is not CHARGING, put among the outlets, keeps all but its target at the recomputation that follows. -/
theorem retarget_set_resting {os : List Outlet} {o' : Outlet} (found : os[n]? = some o) (resting : o'.session.state ≠ .charging)
    (noOffer : o'.session.offer = 0) (p : Profile) (part : Participation) (curtail : Nat) :
    ∃ t ≤ o'.share.target, (retarget p part curtail false (os.set n o'))[n]? = some { o' with share.target := t } := by
  rw [retarget_getElem?, set_getElem?_of_found found]
  refine ⟨_, Nat.min_le_right ((cappedTargets p part curtail (os.set n o')).getD n 0) _, ?_⟩
  rw [Option.map_some, giveTarget_of_le resting (by rw [noOffer]; exact Nat.zero_le _)]
  rfl

theorem answerState_eq (code : Byte) (n : Nat) (s : State) :
    answerState code n s = { s with host.response := ⟨code, .done, [byteOf (sessionStateCode (sessionState s n))]⟩ } := rfl

theorem sessionState_of_found (found : s.outlets[n]? = some o) : sessionState s n = o.session.state := by
  rw [sessionState, found]

/-- OPEN taken on an outlet under a profile (R10, R19). -/
theorem openSessionOn_eq {p : Profile} (r : Session) (loaded : s.host.profile = some p) (found : s.outlets[n]? = some o) :
    openSessionOn n r s = { s with
      outlets := retarget p s.census.participation s.shares.curtail false
        (s.outlets.set n { o with session := r, supervision.releaseCount := 0 })
      host.events := if r.overdue then s.host.events ||| eventFlag (.overdue n) else s.host.events } := by
  rw [openSessionOn, modifyOutlet_of_found _ found, raiseIf_eq]
  exact recompute_of_profile (s := { s with
    outlets := s.outlets.set n { o with session := r, supervision.releaseCount := 0 }
    host.events := if r.overdue then s.host.events ||| eventFlag (.overdue n) else s.host.events }) false loaded

/-- The record that OPEN creates, with its fields written out. -/
theorem openedSession_eq (p : Profile) (number : CensusNumber) (need departure vanMax : Nat) (tag : List Byte) :
    openedSession p number need departure vanMax tag =
      ⟨if need = 0 then .topped else .paused, tag, need, need, min departure 2047, max p.minCurrent (min vanMax p.seatCeiling), 0,
        decide (departure = 0 ∧ 0 < need), none, .absent, some number, 0, none⟩ := by
  have zero : min departure 2047 = 0 ↔ departure = 0 := by omega
  simp only [openedSession, clampDeparture, clampVanMax, zero, Bool.decide_and]

end

section
variable {s : State} {body : List Byte}

theorem openRequest_of_missing {p : Profile} (loaded : s.host.profile = some p) (missing : s.outlets[byteAt body 0]? = none) :
    openRequest body s = respond 0x20#8 .noSuchOutlet [] s := by
  simp only [openRequest, loaded, missing]

theorem openRequest_of_busy {p : Profile} {o : Outlet} (loaded : s.host.profile = some p) (found : s.outlets[byteAt body 0]? = some o)
    (busy : outletIsFree o = false) : openRequest body s = respond 0x20#8 .outletInUse [] s := by
  simp only [openRequest, loaded, found, busy, Bool.not_false, if_true]

theorem openRequest_of_free {p : Profile} {o : Outlet} (loaded : s.host.profile = some p) (found : s.outlets[byteAt body 0]? = some o)
    (free : outletIsFree o = true) :
    openRequest body s = answerState 0x20#8 (byteAt body 0)
      (openSessionOn (byteAt body 0)
        (openedSession p s.census.number (wordAt body 1) (wordAt body 3) (wordAt body 5) (tagOf body)) s) := by
  simp only [openRequest, loaded, found, free, Bool.not_true, Bool.false_eq_true, if_false]

end

/-- Settles O12: OPEN's checks in their order, and the record it creates. -/
theorem openIsTakenOrRefused : Obligations.OpenIsTakenOrRefused := by
  unfold Obligations.OpenIsTakenOrRefused
  intro s shifted body accepting shape atLeast atMost
  have act : exec (.openSession shifted) s = .next (openRequest body s) :=
    congrArg Host.Outcome.next (takeRequest_of_accepting accepting shape (by simp [atLeast, atMost]))
  rw [act]
  refine ⟨fun unloaded => ?_, fun p loaded missing => ?_, fun p o loaded found busy => ?_,
    fun p o r loaded found vacant undriven record => ⟨_, rfl, ?_⟩⟩
  · rw [openRequest, unloaded]; rfl
  · rw [openRequest_of_missing loaded missing]; rfl
  · have taken : outletIsFree o = false := by
      rw [Bool.eq_false_iff, ne_eq, outletIsFree_iff]
      rintro ⟨vacant, undriven⟩
      rcases busy with occupied | driven
      · exact occupied vacant
      · rw [undriven] at driven; cases driven
    rw [openRequest_of_busy loaded found taken]; rfl
  · have free : outletIsFree o = true := (outletIsFree_iff o).mpr ⟨vacant, undriven⟩
    have opened : openRequest body s = answerState 0x20#8 (byteAt body 0) (openSessionOn (byteAt body 0) r s) := by
      rw [openRequest_of_free loaded found free, openedSession_eq, record]; rfl
    have resting : r.state ≠ .charging := by rw [record]; dsimp only; split <;> exact nofun
    have noOffer : r.offer = 0 := by rw [record]
    obtain ⟨target, lower, kept⟩ := retarget_set_resting (o' := { o with session := r, supervision.releaseCount := 0 }) found resting
      noOffer p s.census.participation s.shares.curtail
    have state : sessionState (openSessionOn (byteAt body 0) r s) (byteAt body 0) = r.state := by
      rw [openSessionOn_eq r loaded found]
      simp only [sessionState, kept]
    rw [opened, answerState_eq, state, openSessionOn_eq r loaded found]
    exact ⟨rfl, _, kept, rfl, rfl, rfl, lower, rfl⟩

/-- The record that AMEND leaves, with its fields written out (R12, R13). -/
theorem amendOutlet_eq {p : Profile} {o : Outlet} {need departure vanMax : Nat} {state : SessionState} {need' departure' vanMax' b : Nat}
    {overdue : Bool} (occupied : o.session.state ≠ .vacant) (sound : o.session.state ≠ .faulted)
    (hneed : need' = if need = 65535 then o.session.need else need)
    (hdeparture : departure' = if departure = 65535 then o.session.departure else min departure 2047)
    (hvanMax : vanMax' = if vanMax = 65535 then o.session.vanMax else max p.minCurrent (min vanMax p.seatCeiling))
    (hoverdue : overdue = (decide (departure' = 0) && (o.session.overdue || decide (0 < need'))))
    (hstate : state = if need' = 0 then .topped else if o.session.state = .topped ∨ o.session.state = .stalled then .paused
      else o.session.state)
    (hb : b = min o.share.b (vanMax' - o.share.g)) :
    amendOutlet p need departure vanMax o = { o with
      session := ⟨state, o.session.tag, need', need', departure', vanMax', o.session.delivered, overdue, o.session.laxity,
        o.session.band, o.session.openedIn, if state = o.session.state then o.session.offer else 0, o.session.faultKind⟩
      share := ⟨if inPair o.session.state = true ∧ state = .topped then 0 else o.share.g, o.share.bandUsed, o.share.rank,
        if inPair o.session.state = true ∧ state = .topped then 0 else b,
        if o.session.state ≠ .topped ∧ state = .topped then 0 else o.share.target⟩
      supervision := ⟨o.supervision.history, o.supervision.windowMax, o.supervision.overdrawCount,
        if state = o.session.state then o.supervision.stallCount else 0,
        if state = o.session.state then o.supervision.unstallCount else 0,
        o.supervision.releaseCount, o.supervision.releaseDriven⟩ } := by
  have fields : amendedRecord p need departure vanMax o = { o with
      session := { o.session with
        need := need', needSet := need', departure := departure', vanMax := vanMax', overdue := overdue }
      share.b := b } := by
    have flag : (if departure' = 0 then o.session.overdue || decide (0 < need') else false) = overdue := by
      rw [hoverdue]; by_cases h : departure' = 0 <;> simp [h]
    have need'_eq : amendedField o.session.need need = need' := hneed.symm
    have departure'_eq : (if departure = keepCode then o.session.departure else clampDeparture departure) = departure' :=
      hdeparture.symm
    have vanMax'_eq : (if vanMax = keepCode then o.session.vanMax else clampVanMax p vanMax) = vanMax' := hvanMax.symm
    simp only [amendedRecord, reclampBorrow, clampBorrow, amendedSession, need'_eq, departure'_eq, vanMax'_eq, flag, ← hb]
  have settledNeed : (amendedRecord p need departure vanMax o).session.need = need' := by rw [fields]
  rcases amendOutlet_cases p need departure vanMax occupied sound with
    ⟨zero, notTopped, h⟩ | ⟨zero, topped, h⟩ | ⟨some, pair, h⟩ | ⟨some, left, h⟩ <;> rw [h, fields] <;> rw [settledNeed] at *
  · have topping : state = .topped := by rw [hstate, if_pos zero]
    have changed : ¬ SessionState.topped = o.session.state := fun same => notTopped same.symm
    rw [topping]
    simp only [topOutlet, dropShares]
    by_cases pair : inPair o.session.state = true <;> simp [pair, changed, notTopped]
  · have stood : state = o.session.state := by rw [hstate, if_pos zero, topped]
    simp [stood, topped, inPair]
  · obtain ⟨notTopped, notStalled⟩ : o.session.state ≠ .topped ∧ o.session.state ≠ .stalled := by
      constructor <;> intro same <;> rw [same] at pair <;> cases pair
    have stood : state = o.session.state := by rw [hstate, if_neg some, if_neg (not_or.mpr ⟨notTopped, notStalled⟩)]
    simp [stood, notTopped]
  · have paused : state = .paused := by rw [hstate, if_neg some, if_pos left]
    have changed : ¬ SessionState.paused = o.session.state := by rcases left with same | same <;> rw [same] <;> exact nofun
    simp [repauseOutlet, paused, changed]

/-- The events of AMEND (R7, R19): TOPPED where the session goes TOPPED, beside OVERDUE where the flag is set. -/
theorem amendEvents_eq (events overdueFlag toppedFlag : EventSet) (overdue before : Bool) (state found : SessionState) :
    (if (state == .topped && !(found == .topped)) = true then
        (if (overdue && !before) = true then events ||| overdueFlag else events) ||| toppedFlag
      else if (overdue && !before) = true then events ||| overdueFlag else events) =
      (if overdue = true ∧ before = false then events ||| overdueFlag else events) |||
        (if found ≠ .topped ∧ state = .topped then toppedFlag else 0#32) := by
  have set_iff : (overdue && !before) = true ↔ overdue = true ∧ before = false := by simp
  have tops_iff : (state == .topped && !(found == .topped)) = true ↔ found ≠ .topped ∧ state = .topped := by simp [and_comm]
  simp only [set_iff, tops_iff]
  split_ifs <;> simp

/-- Settles O13: AMEND's checks in their order, and the record it leaves. -/
theorem amendIsTakenOrRefused : Obligations.AmendIsTakenOrRefused := by
  unfold Obligations.AmendIsTakenOrRefused
  intro s shifted body accepting shape length
  have act : exec (.amendSession shifted) s = .next (amendRequest body s) :=
    congrArg Host.Outcome.next (takeRequest_of_accepting accepting shape (by simp [length]))
  rw [act]
  refine ⟨fun missing => ?_, fun o found vacant => ?_, fun o found faulted => ?_,
    fun p o need departure vanMax overdue state b loaded found occupied sound hneed hdeparture hvanMax hoverdue hstate hb => ⟨_, rfl, ?_⟩⟩
  · rw [amendRequest, missing]; rfl
  · simp only [amendRequest, found, vacant]; rfl
  · simp only [amendRequest, found, faulted]; rfl
  · have record := amendOutlet_eq occupied sound hneed hdeparture hvanMax hoverdue hstate hb
    have amended : amendRequest body s = answerState 0x21#8 (byteAt body 0)
        (amendSessionOn p (byteAt body 0) (wordAt body 1) (wordAt body 3) (wordAt body 5) o s) := by
      simp only [amendRequest, loaded, found, if_neg occupied, if_neg sound]
    rw [amended, answerState_eq]
    rw [amendSessionOn]
    dsimp only
    rw [modifyOutlet_of_found _ found, raiseIf_eq, raiseIf_eq, recompute_of_profile (p := p) false (by exact loaded), record]
    dsimp only
    rw [amendEvents_eq]
    rfl

/-- The three records that CLOSE clears. -/
theorem closedOutlet_eq (o : Outlet) :
    closedOutlet o = { o with
      session := ⟨.vacant, [], 0, 0, 0, 0, 0, false, none, .absent, none, 0, none⟩
      share := ⟨0, .absent, none, 0, 0⟩
      supervision := ⟨[0, 0, 0, 0, 0, 0, 0, 0], 0, 0, 0, 0, 0, false⟩ } := rfl

/-- Settles O14: CLOSE's one check, and the records it clears. -/
theorem closeIsTakenOrRefused : Obligations.CloseIsTakenOrRefused := by
  unfold Obligations.CloseIsTakenOrRefused
  intro s shifted body accepting shape length
  have act : exec (.closeSession shifted) s = .next (closeRequest body s) :=
    congrArg Host.Outcome.next (takeRequest_of_accepting accepting shape (by simp [length]))
  rw [act]
  have closed {o : Outlet} (found : s.outlets[byteAt body 0]? = some o) :
      closeRequest body s = answerState 0x22#8 (byteAt body 0)
        (recompute false { s with outlets := s.outlets.set (byteAt body 0) (closedOutlet o) }) := by
    simp only [closeRequest, found, closeSessionOn, modifyOutlet_of_found _ found]
  refine ⟨fun missing => ?_, fun p o o' loaded found record => ⟨_, rfl, ?_⟩, fun o unloaded found => ?_⟩
  · rw [closeRequest, missing]; rfl
  · have cleared : closedOutlet o = o' := by rw [closedOutlet_eq, record]
    obtain ⟨target, lower, kept⟩ := retarget_set_resting (o' := o') found (by rw [record]; exact nofun) (by rw [record]) p
      s.census.participation s.shares.curtail
    have zero : target = o'.share.target := by
      have none : o'.share.target = 0 := by rw [record]
      omega
    rw [zero] at kept
    have state : sessionState { s with
        outlets := retarget p s.census.participation s.shares.curtail false (s.outlets.set (byteAt body 0) o') } (byteAt body 0)
        = .vacant := by
      rw [sessionState_of_found kept, record]
    rw [closed found, cleared, recompute_of_profile (s := { s with outlets := s.outlets.set (byteAt body 0) o' }) false loaded,
      answerState_eq, state]
    exact ⟨rfl, kept⟩
  · rw [closed found, recompute_of_none (s := { s with outlets := s.outlets.set (byteAt body 0) (closedOutlet o) }) false unloaded,
      answerState_eq, sessionState_of_found (set_getElem?_of_found found _), closedOutlet_eq]
    rfl

end Sys2Proof.Machine
end

section
/-! PROOFS. The Draw Meter: what a charge does, in its three cases, and the completion of an ampere-minute by the state it finds. -/

set_option Elab.async false

namespace Sys2Proof.Machine

section
variable {s : State} {n charge : Nat} {o : Outlet}

theorem reachesQuantum_integrate_iff (charge : Nat) (m : Meter) :
    reachesQuantum (integrate charge m) = true ↔ 25000 ≤ m.charge + charge := decide_eq_true_iff

theorem completes_iff (m : Meter) : completes m = true ↔ 2400 ≤ m.remainder + 1 := decide_eq_true_iff

/-- The outlet's meter after a charge that is short of a quantum (R147). -/
theorem takeCharge_of_short (found : s.outlets[n]? = some o) (short : o.meter.charge + charge < 25000) :
    takeCharge n charge s = { s with outlets := s.outlets.set n { o with meter.charge := o.meter.charge + charge } } := by
  have notReached : ¬ reachesQuantum (integrate charge o.meter) = true := by rw [reachesQuantum_integrate_iff]; omega
  simp only [takeCharge, found, notReached]
  exact modifyOutlet_of_found _ found

/-- The outlet's meter after a charge that reaches a quantum short of an ampere-minute (R147, R149). -/
theorem takeCharge_of_counted (found : s.outlets[n]? = some o) (reached : 25000 ≤ o.meter.charge + charge)
    (below : o.meter.remainder + 1 < 2400) :
    takeCharge n charge s = { s with outlets := (s.outlets.set n
      { o with meter := ⟨o.meter.charge + charge - 25000, min (o.meter.windowCount + 1) 65535, o.meter.remainder + 1,
        o.meter.lastAverage⟩ }) } := by
  have reaches : reachesQuantum (integrate charge o.meter) = true := (reachesQuantum_integrate_iff _ _).mpr reached
  have short : ¬ completes o.meter = true := by rw [completes_iff]; omega
  simp only [takeCharge, found, reaches, short]
  rw [modifyOutlet_of_found _ found]
  simp [countQuantum, integrate, quantumCharge, remainderWrap, below]

/-- A charge that reaches the quantum of a completion: the meter wraps, and the completion is handed over (R149). -/
theorem takeCharge_of_completing (found : s.outlets[n]? = some o) (reached : 25000 ≤ o.meter.charge + charge)
    (last : 2399 ≤ o.meter.remainder) :
    takeCharge n charge s = takeCompletion n { s with outlets := (s.outlets.set n
      { o with meter := ⟨o.meter.charge + charge - 25000, min (o.meter.windowCount + 1) 65535, 0, o.meter.lastAverage⟩ }) } := by
  have reaches : reachesQuantum (integrate charge o.meter) = true := (reachesQuantum_integrate_iff _ _).mpr reached
  have wraps : completes o.meter = true := (completes_iff _).mpr (by omega)
  have over2400 : ¬ o.meter.remainder + 1 < 2400 := by omega
  simp only [takeCharge, found, reaches, wraps, if_true]
  rw [modifyOutlet_of_found _ found]
  simp [countQuantum, integrate, quantumCharge, remainderWrap, over2400]

/-- A completion that does not take the last of the need (R21). -/
theorem takeCompletion_of_more (found : s.outlets[n]? = some o) (more : topsAfter o.session = false) :
    takeCompletion n s = { s with outlets := s.outlets.set n { o with session := completeSession o.session } } := by
  simp only [takeCompletion, found, more]
  exact modifyOutlet_of_found _ found

/-- A completion that takes the last of the need tops the session in the same event (R7, R21). -/
theorem takeCompletion_of_last (found : s.outlets[n]? = some o) (last : topsAfter o.session = true) :
    takeCompletion n s = recompute false { s with
      outlets := s.outlets.set n (topOutlet { o with session := completeSession o.session })
      host.events := s.host.events ||| eventFlag (.topped n) } := by
  simp only [takeCompletion, found, last, if_true, enterTopped, modifyOutlet, List.modify_modify_eq]
  rw [modify_of_found _ found]
  rfl

theorem modifyOutlet_meters {f : Outlet → Outlet} (same : ∀ o, (f o).meter = o.meter) (n : Nat) (s : State) :
    (modifyOutlet n f s).outlets.map Outlet.meter = s.outlets.map Outlet.meter := by
  refine List.ext_getElem? fun m => ?_
  rw [List.getElem?_map, List.getElem?_map, modifyOutlet_getElem?]
  cases s.outlets[m]? with
  | none => simp
  | some o => by_cases h : n = m <;> simp [h, same]

theorem recompute_meters (mayRaise : Bool) (s : State) : (recompute mayRaise s).outlets.map Outlet.meter = s.outlets.map Outlet.meter := by
  cases loaded : s.host.profile with
  | none => rw [recompute_of_none mayRaise loaded]
  | some p =>
    rw [recompute_of_profile mayRaise loaded]
    refine List.ext_getElem? fun m => ?_
    rw [List.getElem?_map, List.getElem?_map, retarget_getElem?]
    cases s.outlets[m]? with
    | none => rfl
    | some o => simp

theorem topOutlet_meter (o : Outlet) : (topOutlet o).meter = o.meter := dropShares_meter o

/-- A completion leaves every meter as the quantum left it. -/
theorem takeCompletion_meters (n : Nat) (s : State) : (takeCompletion n s).outlets.map Outlet.meter = s.outlets.map Outlet.meter := by
  have completed := modifyOutlet_meters (f := fun o => { o with session := completeSession o.session }) (fun _ => rfl) n s
  unfold takeCompletion
  split
  · rfl
  · split
    · rw [enterTopped, recompute_meters]
      exact (modifyOutlet_meters topOutlet_meter n _).trans completed
    · exact completed

theorem completesMinute_iff (found : s.outlets[n]? = some o) :
    completesMinute n charge s = true ↔ 25000 ≤ o.meter.charge + charge ∧ 2399 ≤ o.meter.remainder := by
  rw [completesMinute, found]
  dsimp only
  rw [Bool.and_eq_true, reachesQuantum_integrate_iff, completes_iff]
  omega

end

/-- Settles O22: by the three cases of a charge. -/
theorem drawQuantumConservesCharge : Obligations.DrawQuantumConservesCharge := by
  unfold Obligations.DrawQuantumConservesCharge
  intro s n charge quanta o out found law atMost hquanta
  obtain ⟨chargeBound, countBound, remainderBound⟩ := law
  obtain ⟨within, -⟩ := List.getElem?_eq_some_iff.mp found
  refine ⟨takeCharge n charge s, congrArg Host.Outcome.next (whenRunning_of_outOfReset out _), ?_⟩
  -- The outlets' meters after the charge: outlet n's as given, the others' as they were.
  have meters (m : Meter) (written : (takeCharge n charge s).outlets.map Outlet.meter = (s.outlets.map Outlet.meter).set n m)
      (value : m = ⟨(o.meter.charge + charge) % 25000, min (o.meter.windowCount + quanta) 65535, (o.meter.remainder + quanta) % 2400,
        o.meter.lastAverage⟩) :
      (∀ o', (takeCharge n charge s).outlets[n]? = some o' →
        o'.meter = ⟨(o.meter.charge + charge) % 25000, min (o.meter.windowCount + quanta) 65535, (o.meter.remainder + quanta) % 2400,
          o.meter.lastAverage⟩) ∧
      (takeCharge n charge s).outlets.length = s.outlets.length ∧
      (∀ (k : Nat) (u u' : Outlet), k ≠ n → s.outlets[k]? = some u → (takeCharge n charge s).outlets[k]? = some u' →
        u'.meter = u.meter) := by
    have at_ (k : Nat) : (takeCharge n charge s).outlets[k]?.map Outlet.meter = ((s.outlets.map Outlet.meter).set n m)[k]? := by
      rw [← List.getElem?_map, written]
    refine ⟨fun o' found' => ?_, ?_, fun k u u' other foundU foundU' => ?_⟩
    · have own := at_ n
      rw [found', List.getElem?_set_self (by rw [List.length_map]; exact within)] at own
      exact (Option.some.inj own).trans value
    · simpa using congrArg List.length written
    · have kept := at_ k
      rw [foundU', List.getElem?_set_ne other.symm, List.getElem?_map, foundU] at kept
      exact Option.some.inj kept
  by_cases reached : 25000 ≤ o.meter.charge + charge
  · have one : quanta = 1 := by omega
    have left : (o.meter.charge + charge) % 25000 = o.meter.charge + charge - 25000 := by omega
    by_cases last : 2399 ≤ o.meter.remainder
    · have wraps : (o.meter.remainder + quanta) % 2400 = 0 := by omega
      obtain ⟨own, length, others⟩ := meters
        ⟨o.meter.charge + charge - 25000, min (o.meter.windowCount + 1) 65535, 0, o.meter.lastAverage⟩
        (by rw [takeCharge_of_completing found reached last, takeCompletion_meters, List.map_set]) (by rw [wraps, left, one])
      exact ⟨own, length, others, fun short => absurd short (by omega)⟩
    · have counts : (o.meter.remainder + quanta) % 2400 = o.meter.remainder + 1 := by omega
      have counted := takeCharge_of_counted found reached (by omega)
      obtain ⟨own, length, others⟩ := meters
        ⟨o.meter.charge + charge - 25000, min (o.meter.windowCount + 1) 65535, o.meter.remainder + 1, o.meter.lastAverage⟩
        (by rw [counted, List.map_set]) (by rw [counts, left, one])
      exact ⟨own, length, others, fun _ => by rw [counted, left, one]⟩
  · have none : quanta = 0 := by omega
    have left : (o.meter.charge + charge) % 25000 = o.meter.charge + charge := by omega
    have stays : (o.meter.remainder + quanta) % 2400 = o.meter.remainder := by omega
    have count : min (o.meter.windowCount + quanta) 65535 = o.meter.windowCount := by omega
    have short := takeCharge_of_short (charge := charge) found (by omega)
    obtain ⟨own, length, others⟩ := meters
      ⟨o.meter.charge + charge, o.meter.windowCount, o.meter.remainder, o.meter.lastAverage⟩
      (by rw [short, List.map_set]) (by rw [stays, left, count])
    exact ⟨own, length, others, fun _ => by rw [short, left, count, none]; rfl⟩

section
variable {o : Outlet}

/-- The record of a session topped by its last ampere-minute, with its fields written out (R5, R7, R107). -/
theorem topOutlet_completed (occupied : o.session.state = .paused ∨ o.session.state = .charging ∨ o.session.state = .stalled)
    (last : o.session.need = 1) :
    topOutlet { o with session := completeSession o.session } = { o with
      session.need := 0
      session.delivered := min (o.session.delivered + 1) 65535
      session.state := .topped
      session.offer := 0
      share := ⟨if o.session.state = .stalled then o.share.g else 0, o.share.bandUsed, o.share.rank,
        if o.session.state = .stalled then o.share.b else 0, 0⟩
      supervision.stallCount := 0
      supervision.unstallCount := 0 } := by
  have notVacant : o.session.state ≠ .vacant := by rcases occupied with h | h | h <;> rw [h] <;> exact nofun
  have notTopped : o.session.state ≠ .topped := by rcases occupied with h | h | h <;> rw [h] <;> exact nofun
  rw [completeSession_eq notVacant, if_neg notTopped, last]
  rcases occupied with h | h | h <;> simp [topOutlet, dropShares, inPair, h]

end

/-- Settles O23: the completion by the state it finds. -/
theorem ampMinuteCompletionByState : Obligations.AmpMinuteCompletionByState := by
  unfold Obligations.AmpMinuteCompletionByState
  intro s n charge o m one out found hm
  have act : exec (.ampMinuteCompletion n charge) s = .next (if completesMinute n charge s then takeCharge n charge s else s) :=
    congrArg Host.Outcome.next (whenRunning_of_outOfReset out _)
  refine ⟨fun reached last => ?_, fun short => ?_⟩
  · have due : completesMinute n charge s = true := (completesMinute_iff found).mpr ⟨reached, last⟩
    have counted : (s.outlets.set n { o with meter := m })[n]? = some { o with meter := m } := set_getElem?_of_found found _
    have charged : takeCharge n charge s = takeCompletion n { s with outlets := s.outlets.set n { o with meter := m } } := by
      rw [takeCharge_of_completing found reached last, hm]
    have goesOn (more : topsAfter o.session = false) : takeCharge n charge s =
        { s with outlets := s.outlets.set n { o with meter := m, session := completeSession o.session } } := by
      rw [charged, takeCompletion_of_more (s := { s with outlets := s.outlets.set n { o with meter := m } }) counted more]
      exact congrArg (fun os => { s with outlets := os }) (List.set_set _)
    rw [act, if_pos due]
    refine ⟨(congrArg Host.Outcome.next (whenRunning_of_outOfReset out (takeCharge n charge))).symm, fun vacant => ?_, fun topped => ?_,
      fun hone more => ?_, fun p loaded occupied last hone => ?_⟩
    · rw [goesOn (by simp [topsAfter, vacant]), completeSession_of_vacant vacant]
    · rw [goesOn (by simp [topsAfter, topped]), completeSession_eq (by rw [topped]; exact nofun), if_pos topped]
    · have notVacant : o.session.state ≠ .vacant := by
        rcases more with h | ⟨h, -⟩
        · rw [h]; exact nofun
        · exact h
      have notTopped : o.session.state ≠ .topped := by
        rcases more with h | ⟨-, h, -⟩
        · rw [h]; exact nofun
        · exact h
      have notLast : topsAfter o.session = false := by
        rw [Bool.eq_false_iff, ne_eq, topsAfter_iff]
        rintro ⟨pair, atMost⟩
        rcases more with h | ⟨-, -, h⟩
        · rw [h] at pair; simp at pair
        · omega
      rw [goesOn notLast, completeSession_eq notVacant, if_neg notTopped, hone]
    · have tops : topsAfter o.session = true := (topsAfter_iff _).mpr ⟨occupied, last.le⟩
      have record := topOutlet_completed (o := { o with meter := m }) occupied last
      rw [charged, takeCompletion_of_last (s := { s with outlets := s.outlets.set n { o with meter := m } }) counted tops, record,
        recompute_of_profile (p := p) false (by exact loaded), hone]
      dsimp only
      rw [List.set_set]
  · have notDue : ¬ completesMinute n charge s = true := by rw [completesMinute_iff found]; omega
    rw [act, if_neg notDue]

end Sys2Proof.Machine
end

section
/-! PROOFS. The bytes of the SPI link: one reading rule for each form of field, and with them the transactions, the bodies and the reports
(R163, R164, R175, 10.8). -/

set_option Elab.async false

namespace Sys2Proof.Machine

section
variable (b : Byte) (rest : List Byte) (n i : Nat)

/-! The reading rules: a field is read at the head of the bytes, and further bytes at the head are passed over. -/

theorem byteAt_cons_zero : byteAt (b :: rest) 0 = b.toNat := rfl
theorem byteAt_cons_succ : byteAt (b :: rest) (i + 1) = byteAt rest i := rfl
theorem wordAt_cons_succ : wordAt (b :: rest) (i + 1) = wordAt rest i := rfl

theorem byteOf_toNat : (byteOf n).toNat = n % 256 := BitVec.toNat_ofNat n 8

theorem wordAt_twoBytes : wordAt (byteOf (n / 256) :: byteOf n :: rest) 0 = n % 65536 := by
  simp only [wordAt, byteAt, List.getD_cons_zero, List.getD_cons_succ, byteOf_toNat]
  omega

end

/-! O9: transactions. -/

theorem decode_unknown {code : Byte} (shifted : List Byte) (notNull : code ≠ 0x00#8) (unknown : code ∉ requestCodes) :
    decodeTransaction (code :: shifted) = .unknownRequest code shifted := by
  simp only [requestCodes, List.mem_cons, List.not_mem_nil, or_false, not_or] at unknown
  obtain ⟨c1, c2, c3, c4, c5, c6, c7, c8, c9, c10, c11, c12, c13⟩ := unknown
  rw [decodeTransaction, if_neg notNull, if_neg c1, if_neg c2, if_neg c3, if_neg c4, if_neg c5, if_neg c6, if_neg c7, if_neg c8,
    if_neg c9, if_neg c10, if_neg c11, if_neg c12, if_neg c13]

/-- A code is the null code, one of the thirteen of 10.8, or unknown: to show something of every transaction, show it of these. -/
theorem transaction_cases {P : List Byte → Prop} (empty : P []) (null : ∀ shifted, P (0x00#8 :: shifted))
    (known : ∀ code ∈ requestCodes, ∀ shifted, P (code :: shifted))
    (unknown : ∀ code shifted, code ≠ 0x00#8 → code ∉ requestCodes → P (code :: shifted)) (bytes : List Byte) : P bytes := by
  cases bytes with
  | nil => exact empty
  | cons code shifted =>
    by_cases isNull : code = 0x00#8
    · exact isNull ▸ null shifted
    · by_cases isKnown : code ∈ requestCodes
      · exact known code isKnown shifted
      · exact unknown code shifted isNull isKnown

theorem forall_requestCodes {P : Byte → Prop} (h : P 0x10#8 ∧ P 0x20#8 ∧ P 0x21#8 ∧ P 0x22#8 ∧ P 0x30#8 ∧ P 0x31#8 ∧ P 0x32#8 ∧
    P 0x33#8 ∧ P 0x34#8 ∧ P 0x35#8 ∧ P 0x40#8 ∧ P 0x41#8 ∧ P 0x5A#8) : ∀ code ∈ requestCodes, P code := by
  simpa only [requestCodes, List.forall_mem_cons, List.not_mem_nil, false_imp_iff, implies_true, and_true] using h

theorem encode_decode (bytes : List Byte) : encodeTransaction (decodeTransaction bytes) = some bytes := by
  refine transaction_cases (P := fun bytes => encodeTransaction (decodeTransaction bytes) = some bytes) rfl (fun _ => rfl)
    (forall_requestCodes ?_) (fun code shifted notNull unknown => ?_) bytes
  · exact ⟨fun _ => rfl, fun _ => rfl, fun _ => rfl, fun _ => rfl, fun _ => rfl, fun _ => rfl, fun _ => rfl, fun _ => rfl, fun _ => rfl,
      fun _ => rfl, fun _ => rfl, fun _ => rfl, fun _ => rfl⟩
  · rw [decode_unknown shifted notNull unknown, encodeTransaction]

theorem decode_wellFormed (bytes : List Byte) : (decodeTransaction bytes).wellFormed = true := by
  refine transaction_cases (P := fun bytes => (decodeTransaction bytes).wellFormed = true) rfl (fun _ => rfl)
    (forall_requestCodes ?_) (fun code shifted notNull unknown => ?_) bytes
  · exact ⟨fun _ => rfl, fun _ => rfl, fun _ => rfl, fun _ => rfl, fun _ => rfl, fun _ => rfl, fun _ => rfl, fun _ => rfl, fun _ => rfl,
      fun _ => rfl, fun _ => rfl, fun _ => rfl, fun _ => rfl⟩
  · rw [decode_unknown shifted notNull unknown]
    simp [Instr.wellFormed, notNull, unknown]

theorem decode_encode {c : Instr} {bytes : List Byte} (formed : c.wellFormed = true) (encoded : encodeTransaction c = some bytes) :
    decodeTransaction bytes = c := by
  cases c with
  | nullTransaction given =>
    obtain rfl := Option.some.inj encoded
    match given with
    | [] => rfl
    | code :: shifted =>
      have null : code = 0x00#8 := eq_of_beq formed
      rw [decodeTransaction, if_pos null]
  | unknownRequest code shifted =>
    obtain rfl := Option.some.inj encoded
    obtain ⟨unknown, notNull⟩ : code ∉ requestCodes ∧ code ≠ 0x00#8 := by simpa [Instr.wellFormed] using formed
    exact decode_unknown shifted notNull unknown
  | loadProfile shifted | openSession shifted | amendSession shifted | closeSession shifted | readOutlet shifted | readCensus shifted
  | readRoster shifted | readStatus shifted | readFault shifted | readEvents shifted | clearFault shifted | setMask shifted
  | restart shifted =>
    obtain rfl := Option.some.inj encoded
    rfl
  | _ => cases encoded

theorem requestBody_found {body : List Byte} (short : body.length ≤ 255) (extra : List Byte) :
    requestBody (byteOf body.length :: (body ++ extra)) = some body := by
  have length : (byteOf body.length).toNat = body.length := by rw [byteOf_toNat]; omega
  simp [requestBody, length]

theorem requestBody_withLength {body : List Byte} (short : body.length ≤ 255) : requestBody (withLength body) = some body := by
  simpa only [withLength, List.append_nil] using requestBody_found short []

theorem requestBody_incomplete {n : Byte} {rest : List Byte} (short : rest.length < n.toNat) : requestBody (n :: rest) = none := by
  simp [requestBody, short]

theorem profileOf_profileBytes {p : Profile} (inRange : profileInRange p = true) : profileOf (profileBytes p) = p := by
  obtain ⟨-, importLimit, reserve, -, seatCeiling, minCurrent, -, -, -, postLimit, tightThreshold, growthMargin, tripMargin, fallback, -,
    fullScale, -, ramp⟩ := (profileInRange_iff p).mp inRange
  have fallback' : p.fallback ≤ 65535 := by omega
  simp only [profileOf, profileBytes, twoBytes, List.cons_append, List.nil_append, wordAt_cons_succ, wordAt_twoBytes]
  cases p
  simp only [Profile.mk.injEq] at *
  omega

section
variable {n need departure vanMax : Nat} {tag : List Byte}

theorem sessionBytes_length : (sessionBytes n need departure vanMax tag).length = 7 + tag.length := by
  simp [sessionBytes, twoBytes]; omega

theorem sessionBytes_outlet (bound : n ≤ 255) : byteAt (sessionBytes n need departure vanMax tag) 0 = n := by
  rw [sessionBytes, byteAt_cons_zero, byteOf_toNat]; omega

theorem sessionBytes_need (bound : need ≤ 65535) : wordAt (sessionBytes n need departure vanMax tag) 1 = need := by
  simp only [sessionBytes, twoBytes, List.cons_append, List.nil_append, wordAt_cons_succ, wordAt_twoBytes]; omega

theorem sessionBytes_departure (bound : departure ≤ 65535) : wordAt (sessionBytes n need departure vanMax tag) 3 = departure := by
  simp only [sessionBytes, twoBytes, List.cons_append, List.nil_append, wordAt_cons_succ, wordAt_twoBytes]; omega

theorem sessionBytes_vanMax (bound : vanMax ≤ 65535) : wordAt (sessionBytes n need departure vanMax tag) 5 = vanMax := by
  simp only [sessionBytes, twoBytes, List.cons_append, List.nil_append, wordAt_cons_succ, wordAt_twoBytes]; omega

end

/-- Settles O9: the codes tell the requests apart, and each field is read by its reading rule. -/
theorem transactionsDecodeAsEncoded : Obligations.TransactionsDecodeAsEncoded := by
  unfold Obligations.TransactionsDecodeAsEncoded
  exact ⟨fun _ _ => decode_encode, encode_decode, decode_wellFormed, fun _ extra short => requestBody_found short extra,
    fun _ _ => requestBody_incomplete, rfl, fun _ inRange => ⟨rfl, profileOf_profileBytes inRange⟩,
    fun _ _ _ _ _ outlet need departure vanMax => ⟨sessionBytes_length, sessionBytes_outlet outlet, sessionBytes_need need,
      sessionBytes_departure departure, sessionBytes_vanMax vanMax, rfl⟩⟩

end Sys2Proof.Machine
end

section
/-! PROOFS. The reports: where each field of 10.8 stands, by the reading rules (R95, R163, R167, R172, R175). -/

set_option Elab.async false

namespace Sys2Proof.Machine

section
variable {rest : List Byte} {n : Nat}

/-! The reading rules of the further forms of field. -/

theorem byteAt_byteOf (bound : n ≤ 255) : byteAt (byteOf n :: rest) 0 = n := by
  rw [byteAt_cons_zero, byteOf_toNat]; omega

theorem wordAt_twoBytes_of_le (bound : n ≤ 65535) : wordAt (byteOf (n / 256) :: byteOf n :: rest) 0 = n := by
  rw [wordAt_twoBytes]; omega

theorem wordAt_signed {i : Int} (lower : -32768 ≤ i) (upper : i ≤ 32767) :
    (BitVec.ofNat 16 (wordAt (byteOf ((BitVec.ofInt 16 i).toNat / 256) :: byteOf (BitVec.ofInt 16 i).toNat :: rest) 0)).toInt = i := by
  rw [wordAt_twoBytes_of_le (Nat.le_of_lt_succ (BitVec.ofInt 16 i).isLt), BitVec.ofNat_toNat, BitVec.setWidth_eq, BitVec.toInt_ofInt]
  exact Int.bmod_eq_of_le (by omega) (by omega)

theorem wordsAt_fourBytes (low : n < 4294967296) :
    wordAt (byteOf (n / 16777216) :: byteOf (n / 65536) :: byteOf (n / 256) :: byteOf n :: rest) 0 * 65536 +
      wordAt (byteOf (n / 16777216) :: byteOf (n / 65536) :: byteOf (n / 256) :: byteOf n :: rest) 2 = n := by
  simp only [wordAt, byteAt, List.getD_cons_zero, List.getD_cons_succ, byteOf_toNat]
  omega

theorem wordsAt_signed {i : Int} (lower : -2147483648 ≤ i) (upper : i ≤ 2147483647) {high low : Nat}
    (value : high * 65536 + low = (BitVec.ofInt 32 i).toNat) : (BitVec.ofNat 32 (high * 65536 + low)).toInt = i := by
  rw [value, BitVec.ofNat_toNat, BitVec.setWidth_eq, BitVec.toInt_ofInt]
  exact Int.bmod_eq_of_le (by omega) (by omega)

end

theorem foldl_max_le {es : List Nat} {a bound : Nat} (first : a ≤ bound) (each : ∀ e ∈ es, e ≤ bound) : es.foldl max a ≤ bound := by
  induction es generalizing a with
  | nil => exact first
  | cons e es ih =>
    exact ih (max_le first (each e List.mem_cons_self)) fun e' mem => each e' (List.mem_cons_of_mem e mem)

theorem le_foldl_max (es : List Nat) (a : Nat) : a ≤ es.foldl max a ∧ ∀ e ∈ es, e ≤ es.foldl max a := by
  induction es generalizing a with
  | nil => exact ⟨le_rfl, fun e mem => nomatch mem⟩
  | cons e es ih =>
    obtain ⟨start, each⟩ := ih (max a e)
    refine ⟨(le_max_left a e).trans start, fun e' mem => ?_⟩
    rcases List.mem_cons.mp mem with rfl | mem
    · exact (le_max_right a e').trans start
    · exact each e' mem

theorem foldl_max_mem (es : List Nat) (a : Nat) : es.foldl max a = a ∨ es.foldl max a ∈ es := by
  induction es generalizing a with
  | nil => exact .inl rfl
  | cons e es ih =>
    rcases ih (max a e) with same | mem
    · rcases le_total a e with above | below
      · exact .inr (List.mem_cons.mpr (.inl (by rw [List.foldl_cons, same, max_eq_right above])))
      · exact .inl (by rw [List.foldl_cons, same, max_eq_left below])
    · exact .inr (List.mem_cons_of_mem e mem)

theorem sessionFlags_bits : ∀ a b c d e : Bool,
    let v := flagBit a 1 + flagBit b 2 + flagBit c 4 + flagBit d 8 + flagBit e 16
    v.testBit 0 = a ∧ v.testBit 1 = b ∧ v.testBit 2 = c ∧ v.testBit 3 = d ∧ v.testBit 4 = e ∧ v < 32 := by decide

theorem sessionStateCode_eq (state : SessionState) :
    sessionStateCode state = (match state with
      | .vacant => 0 | .paused => 1 | .charging => 2 | .topped => 3 | .stalled => 4 | .faulted => 5) := by cases state <;> rfl

theorem sessionStateCode_le (state : SessionState) : sessionStateCode state ≤ 255 := by cases state <;> decide

theorem sessionFaultCode_le (kind : Option SessionFault) : sessionFaultCode kind ≤ 255 := by rcases kind with _ | _ | _ <;> decide

theorem bandCode_le (band : Band) : bandCode band ≤ 255 := by cases band <;> decide

/-- Settles O16: each field is found by its reading rule, its value by the code or the range. -/
theorem sessionReportHasItsLayout : Obligations.SessionReportHasItsLayout := by
  unfold Obligations.SessionReportHasItsLayout
  rintro n o r ⟨outlet, need, needSet, departure, vanMax, delivered, laxity, offer, g, rank, b, target, average, history, overdraws,
    stalls, unstalls, releases, tag⟩ rfl
  obtain ⟨overdue, hasLaxity, opened, hasAverage, driven, flags⟩ := sessionFlags_bits o.session.overdue o.session.laxity.isSome
    o.session.openedIn.isSome o.meter.lastAverage.isSome o.supervision.releaseDriven
  have flagsByte : sessionFlags o ≤ 255 := le_trans (Nat.le_of_lt flags) (by decide)
  have laxityRange : -32768 ≤ o.session.laxity.getD 0 ∧ o.session.laxity.getD 0 ≤ 32767 := by
    cases h : o.session.laxity with
    | none => decide
    | some l => exact laxity l h
  have ceiling : graceCeiling o.supervision ≤ 65535 := foldl_max_le (Nat.zero_le _) history
  have census : (o.session.openedIn.getD 0#16).toNat ≤ 65535 := Nat.le_of_lt_succ (o.session.openedIn.getD 0#16).isLt
  have tagByte : o.session.tag.length ≤ 255 := le_trans tag (by decide)
  have signed (rest : List Byte) := wordAt_signed (rest := rest) laxityRange.1 laxityRange.2
  simp only [sessionReport, twoBytes, signedTwoBytes, laxityField, openedInField, List.cons_append, List.nil_append]
  simp only [byteAt_cons_succ, wordAt_cons_succ, byteAt_byteOf outlet, byteAt_byteOf (sessionStateCode_le _),
    byteAt_byteOf (sessionFaultCode_le _), byteAt_byteOf flagsByte, wordAt_twoBytes_of_le need, wordAt_twoBytes_of_le needSet,
    wordAt_twoBytes_of_le departure, wordAt_twoBytes_of_le vanMax, wordAt_twoBytes_of_le delivered, signed,
    byteAt_byteOf (bandCode_le _), wordAt_twoBytes_of_le census, wordAt_twoBytes_of_le offer, wordAt_twoBytes_of_le g,
    byteAt_byteOf rank, wordAt_twoBytes_of_le b, wordAt_twoBytes_of_le target, wordAt_twoBytes_of_le average,
    wordAt_twoBytes_of_le ceiling, byteAt_byteOf overdraws, byteAt_byteOf stalls, byteAt_byteOf unstalls, byteAt_byteOf releases,
    byteAt_byteOf tagByte]
  obtain ⟨-, highest⟩ := le_foldl_max o.supervision.history 0
  refine ⟨?_, trivial, sessionStateCode_eq _, ?_, overdue, hasLaxity, opened, hasAverage, driven, flags, trivial, trivial, trivial, trivial,
    trivial, trivial, ?_, trivial, trivial, trivial, ?_, trivial, trivial, trivial, trivial, highest, foldl_max_mem _ 0, trivial, trivial,
    trivial, trivial, trivial, rfl⟩
  · simp only [List.length_cons]; omega
  · rcases o.session.faultKind with _ | _ | _ <;> rfl
  · cases o.session.band <;> rfl
  · cases o.share.bandUsed <;> rfl

/-! O17: the other reports. -/

/-- In bytes made of blocks of one length, a block is found at its index. -/
theorem getD_flatMap {α : Type} {f : α → List Byte} {k : Nat} (length : ∀ x, (f x).length = k) {xs : List α} {i : Nat} {x : α}
    (found : xs[i]? = some x) {j : Nat} (within : j < k) (d : Byte) : (xs.flatMap f).getD (k * i + j) d = (f x).getD j d := by
  induction xs generalizing i with
  | nil => cases found
  | cons y ys ih =>
    rw [List.flatMap_cons, List.getD_eq_getElem?_getD, List.getElem?_append]
    cases i with
    | zero =>
      obtain rfl := Option.some.inj found
      rw [if_pos (by rw [length]; omega), Nat.mul_zero, Nat.zero_add, List.getD_eq_getElem?_getD]
    | succ i =>
      have rest := ih (i := i) found
      have index : k * (i + 1) + j - k = k * i + j := by rw [Nat.mul_succ]; omega
      rw [if_neg (by rw [length, Nat.mul_succ]; omega), length, index, ← List.getD_eq_getElem?_getD, rest]

theorem byteAt_append (pre rest : List Byte) (i : Nat) : byteAt (pre ++ rest) (pre.length + i) = byteAt rest i := by
  rw [byteAt, byteAt, List.getD_eq_getElem?_getD, List.getD_eq_getElem?_getD, List.getElem?_append_right (Nat.le_add_right _ _),
    Nat.add_sub_cancel_left]

theorem byteAt_block {α : Type} {f : α → List Byte} {k : Nat} (length : ∀ x, (f x).length = k) {xs : List α} {i : Nat} {x : α}
    (found : xs[i]? = some x) (pre : List Byte) {j : Nat} (within : j < k) :
    byteAt (pre ++ xs.flatMap f) (pre.length + (k * i + j)) = byteAt (f x) j := by
  rw [byteAt_append, byteAt, byteAt, getD_flatMap length found within]

theorem wordAt_block {α : Type} {f : α → List Byte} {k : Nat} (length : ∀ x, (f x).length = k) {xs : List α} {i : Nat} {x : α}
    (found : xs[i]? = some x) (pre : List Byte) {j : Nat} (within : j + 1 < k) :
    wordAt (pre ++ xs.flatMap f) (pre.length + (k * i + j)) = wordAt (f x) j := by
  rw [wordAt, wordAt, byteAt_block length found pre (by omega), ← byteAt_block length found pre within]
  rfl

theorem length_blocks {α : Type} {f : α → List Byte} {k : Nat} (length : ∀ x, (f x).length = k) (xs : List α) :
    (xs.flatMap f).length = k * xs.length := by
  simp [List.length_flatMap, length, Nat.mul_comm]

theorem ringReport_length (e : RingEntry) : (ringReport e).length = 3 := by unfold ringReport; split <;> rfl

theorem ringFlags_bits : ∀ w < 8, ∀ since : Bool,
    ((w + 8 + flagBit since 16) % 8 = w ∧ (w + 8 + flagBit since 16).testBit 4 = since ∧ w + 8 + flagBit since 16 < 32 ∧
      (w + 8 + flagBit since 16).testBit 3 = true) ∧
    ((w + flagBit since 16) % 8 = w ∧ (w + flagBit since 16).testBit 4 = since ∧ w + flagBit since 16 < 32 ∧
      (w + flagBit since 16).testBit 3 = false) := by decide

/-- The three bytes of a ring entry (10.8). -/
theorem ringReport_layout {e : RingEntry} (window : e.window ≤ 7) :
    byteAt (ringReport e) 0 % 8 = e.window ∧ (byteAt (ringReport e) 0).testBit 4 = e.sinceCompletion ∧ byteAt (ringReport e) 0 < 32 ∧
    (∀ f, e.reading = .inBand f → f ≤ 65535 → (byteAt (ringReport e) 0).testBit 3 = true ∧ wordAt (ringReport e) 1 = f) ∧
    (∀ sum, e.reading = .outOfBand sum → sum ≤ 65535 → (byteAt (ringReport e) 0).testBit 3 = false ∧ wordAt (ringReport e) 1 = sum) := by
  obtain ⟨⟨mod, since, bound, mark⟩, mod', since', bound', mark'⟩ := ringFlags_bits e.window (Nat.lt_succ_of_le window) e.sinceCompletion
  cases reading : e.reading with
  | inBand f =>
    simp only [ringReport, reading, twoBytes, wordAt_cons_succ, byteAt_byteOf (le_trans (Nat.le_of_lt bound) (by decide))]
    refine ⟨mod, since, bound, fun f' same short => ⟨mark, ?_⟩, nofun⟩
    obtain rfl := Reading.inBand.inj same
    exact wordAt_twoBytes_of_le short
  | outOfBand sum =>
    simp only [ringReport, reading, twoBytes, wordAt_cons_succ, byteAt_byteOf (le_trans (Nat.le_of_lt bound') (by decide))]
    refine ⟨mod', since', bound', nofun, fun sum' same short => ⟨mark', ?_⟩⟩
    obtain rfl := Reading.outOfBand.inj same
    exact wordAt_twoBytes_of_le short

theorem participationCode_le (part : Participation) : participationCode part ≤ 255 := by cases part <;> decide
theorem lineStateCode_le (state : LineState) : lineStateCode state ≤ 255 := by cases state <;> decide
theorem senseCode_le (sense : Sense) : senseCode sense ≤ 255 := by cases sense <;> decide
theorem faultCode_le (kind : FaultKind) : faultCode kind ≤ 255 := by cases kind <;> decide
theorem latchCode_le (l : Latch) : latchCode l ≤ 255 := by rcases l with ⟨_ | _, _ | _ | _ | _ | _⟩ <;> decide

theorem twoFlags_bits : ∀ a b : Bool,
    (flagBit a 1 + flagBit b 2).testBit 0 = a ∧ (flagBit a 1 + flagBit b 2).testBit 1 = b ∧ flagBit a 1 + flagBit b 2 < 4 := by decide

section
variable {s : State}

/-- The status report (10.8). -/
theorem statusReport_layout (seat : s.host.straps.seatBase ≤ 255) (outlets : s.host.straps.outlets ≤ 255) (rate : s.host.straps.rate ≤ 3)
    (curtail : s.shares.curtail ≤ 255) (missed : s.census.missed ≤ 255) (ring : s.feeder.ring.length ≤ 8) :
    byteAt (statusReport s) 0 = participationCode s.census.participation ∧ byteAt (statusReport s) 1 = lineStateCode s.line.state ∧
    byteAt (statusReport s) 2 = s.host.straps.seatBase ∧ byteAt (statusReport s) 3 = s.host.straps.outlets ∧
    byteAt (statusReport s) 4 = s.host.straps.rate ∧
    byteAt (statusReport s) 5 = flagBit (strapFault s) 1 + flagBit s.host.profile.isSome 2 ∧
    byteAt (statusReport s) 6 = s.shares.curtail ∧ byteAt (statusReport s) 7 = senseCode s.feeder.sense ∧
    byteAt (statusReport s) 8 = s.census.missed ∧ byteAt (statusReport s) 9 = s.feeder.ring.length := by
  obtain ⟨-, -, flags⟩ := twoFlags_bits (strapFault s) s.host.profile.isSome
  simp only [statusReport, List.cons_append, byteAt_cons_succ]
  exact ⟨byteAt_byteOf (participationCode_le _), byteAt_byteOf (lineStateCode_le _), byteAt_byteOf seat, byteAt_byteOf outlets,
    byteAt_byteOf (by omega), byteAt_byteOf (by omega), byteAt_byteOf curtail, byteAt_byteOf (senseCode_le _), byteAt_byteOf missed,
    byteAt_byteOf (by omega)⟩

theorem statusReport_length (s : State) : (statusReport s).length = 10 + 3 * s.feeder.ring.length := by
  rw [statusReport, List.length_append, length_blocks ringReport_length]; rfl

theorem statusReport_ring {i : Nat} {e : RingEntry} (found : s.feeder.ring[i]? = some e) :
    byteAt (statusReport s) (10 + 3 * i) = byteAt (ringReport e) 0 ∧ wordAt (statusReport s) (11 + 3 * i) = wordAt (ringReport e) 1 := by
  have byte := fun pre => byteAt_block ringReport_length found pre (j := 0) (by decide)
  have word := fun pre => wordAt_block ringReport_length found pre (j := 1) (by decide)
  have index : 11 + 3 * i = 10 + (3 * i + 1) := by omega
  exact ⟨byte _, index ▸ word _⟩

end

theorem seatReport_length (x : SeatSummary) : (seatReport x).length = 4 := rfl

/-- The four bytes of an own seat (10.8). -/
theorem seatReport_layout {x : SeatSummary} (g : x.g ≤ 65535) :
    byteAt (seatReport x) 0 = latchCode x.latch ∧ wordAt (seatReport x) 1 = x.g ∧ byteAt (seatReport x) 3 = flagBit x.clash 1 := by
  simp only [seatReport, twoBytes, List.cons_append, List.nil_append, byteAt_cons_succ, wordAt_cons_succ]
  exact ⟨byteAt_byteOf (latchCode_le _), wordAt_twoBytes_of_le g, byteAt_byteOf (by cases x.clash <;> decide)⟩

/-- The census summary (10.8). -/
theorem summaryReport_layout {m : Summary} (seats : m.seats.length ≤ 4) (present : m.present ≤ 255) (late : m.late ≤ 255)
    (tight : m.tight ≤ 255) (steady : m.steady ≤ 255) (remainder : m.poolRemainder ≤ 65535) (age : m.age ≤ 65535)
    (peak : ∀ k, m.peak = some k → k ≤ 65535) (headroom : ∀ h, m.headroom = some h → -2147483648 ≤ h ∧ h ≤ 2147483647) :
    wordAt (summaryReport m) 0 = m.number.toNat ∧ byteAt (summaryReport m) 2 = flagBit m.noisy 1 + flagBit m.peak.isSome 2 ∧
    byteAt (summaryReport m) 3 = m.present ∧ byteAt (summaryReport m) 4 = m.late ∧ byteAt (summaryReport m) 5 = m.tight ∧
    byteAt (summaryReport m) 6 = m.steady ∧ wordAt (summaryReport m) 7 = m.poolRemainder ∧ wordAt (summaryReport m) 9 = m.peak.getD 0 ∧
    (BitVec.ofNat 32 (wordAt (summaryReport m) 11 * 65536 + wordAt (summaryReport m) 13)).toInt = m.headroom.getD 0 ∧
    wordAt (summaryReport m) 15 = m.age ∧ byteAt (summaryReport m) 17 = m.seats.length := by
  obtain ⟨-, -, flags⟩ := twoFlags_bits m.noisy m.peak.isSome
  have peakWord : m.peak.getD 0 ≤ 65535 := by
    cases h : m.peak with
    | none => decide
    | some k => exact peak k h
  have headroomRange : -2147483648 ≤ m.headroom.getD 0 ∧ m.headroom.getD 0 ≤ 2147483647 := by
    cases h : m.headroom with
    | none => decide
    | some v => exact headroom v h
  simp only [summaryReport, twoBytes, signedFourBytes, fourBytes, List.cons_append, List.nil_append, byteAt_cons_succ, wordAt_cons_succ]
  exact ⟨wordAt_twoBytes_of_le (Nat.le_of_lt_succ m.number.isLt), byteAt_byteOf (by omega), byteAt_byteOf present, byteAt_byteOf late,
    byteAt_byteOf tight, byteAt_byteOf steady, wordAt_twoBytes_of_le remainder, wordAt_twoBytes_of_le peakWord,
    wordsAt_signed headroomRange.1 headroomRange.2 (wordsAt_fourBytes (BitVec.ofInt 32 (m.headroom.getD 0)).isLt),
    wordAt_twoBytes_of_le age, byteAt_byteOf (by omega)⟩

theorem summaryReport_length (m : Summary) : (summaryReport m).length = 18 + 4 * m.seats.length := by
  rw [summaryReport, List.length_append, length_blocks seatReport_length]; rfl

theorem summaryReport_seat {m : Summary} {i : Nat} {x : SeatSummary} (found : m.seats[i]? = some x) :
    byteAt (summaryReport m) (18 + 4 * i) = byteAt (seatReport x) 0 ∧ wordAt (summaryReport m) (19 + 4 * i) = wordAt (seatReport x) 1 ∧
    byteAt (summaryReport m) (21 + 4 * i) = byteAt (seatReport x) 3 := by
  have first := fun pre => byteAt_block seatReport_length found pre (j := 0) (by decide)
  have word := fun pre => wordAt_block seatReport_length found pre (j := 1) (by decide)
  have last := fun pre => byteAt_block seatReport_length found pre (j := 3) (by decide)
  have index : 19 + 4 * i = 18 + (4 * i + 1) := by omega
  have index' : 21 + 4 * i = 18 + (4 * i + 3) := by omega
  exact ⟨first _, index ▸ word _, index' ▸ last _⟩

/-- One roster entry in its byte (10.8): the fields stand in it side by side. -/
theorem entryByte_fields : ∀ state < 3, ∀ band < 4, ∀ absence < 3, ∀ multi irregular : Bool,
    let v := state + 4 * band + 16 * absence + flagBit multi 64 + flagBit irregular 128
    v ≤ 255 ∧ v % 4 = state ∧ v / 4 % 4 = band ∧ v / 16 % 4 = absence ∧ v.testBit 6 = multi ∧ v.testBit 7 = irregular := by decide

theorem entryReport_layout {e : Entry} (law : EntryLaw e) :
    (entryReport e).toNat % 4 = entryStateCode e.state ∧ (entryReport e).toNat / 4 % 4 = rosterBandCode e.band ∧
    (entryReport e).toNat / 16 % 4 = e.absence ∧ (entryReport e).toNat.testBit 6 = e.multiBand ∧
    (entryReport e).toNat.testBit 7 = e.irregular := by
  have state : entryStateCode e.state < 3 := by cases e.state <;> decide
  have band : rosterBandCode e.band < 4 := by cases e.band <;> decide
  have absence : e.absence < 3 := by unfold EntryLaw at law; split at law <;> omega
  obtain ⟨bound, fields⟩ := entryByte_fields _ state _ band _ absence e.multiBand e.irregular
  have value : (entryReport e).toNat =
      entryStateCode e.state + 4 * rosterBandCode e.band + 16 * e.absence + flagBit e.multiBand 64 + flagBit e.irregular 128 := by
    rw [entryReport, byteOf_toNat]; omega
  rw [value]
  exact fields

/-- The first-fault record (10.8). -/
theorem faultReport_layout {s : State} {r : FaultRecord} (filled : s.host.firstFault = some r) (outlet : ∀ n, r.outlet = some n → n ≤ 3)
    (window : r.window ≤ 7) (value : r.value ≤ 65535) :
    (faultReport s).length = 8 ∧ byteAt (faultReport s) 0 = 1 + flagBit s.host.furtherFaults 2 ∧
    byteAt (faultReport s) 1 = faultCode r.kind ∧ byteAt (faultReport s) 2 = r.outlet.getD 255 ∧
    wordAt (faultReport s) 3 = r.census.toNat ∧ byteAt (faultReport s) 5 = r.window ∧ wordAt (faultReport s) 6 = r.value := by
  have outletByte : r.outlet.getD 255 ≤ 255 := by
    cases h : r.outlet with
    | none => decide
    | some n => exact le_trans (outlet n h) (by decide)
  have flags : 1 + flagBit s.host.furtherFaults 2 ≤ 255 := by cases s.host.furtherFaults <;> decide
  simp only [faultReport, filled, twoBytes, List.cons_append, List.nil_append, byteAt_cons_succ, wordAt_cons_succ]
  exact ⟨rfl, byteAt_byteOf flags, byteAt_byteOf (faultCode_le _), byteAt_byteOf outletByte,
    wordAt_twoBytes_of_le (Nat.le_of_lt_succ r.census.isLt), byteAt_byteOf (by omega), wordAt_twoBytes_of_le value⟩

/-- The flag of each part event, in the order of 10.8. -/
theorem eventBit_of_partEvent {i : Nat} {e : Event}
    (found : [Event.census, .abandoned, .islanded, .rejoined, .stuck, .clash, .overload, .trip, .hush, .senseLost, .senseBack][i]? = some e) :
    eventBit e = i := by
  obtain ⟨within, rfl⟩ := List.getElem?_eq_some_iff.mp found
  have each : ∀ k : Fin 11, eventBit
      [Event.census, .abandoned, .islanded, .rejoined, .stuck, .clash, .overload, .trip, .hush, .senseLost, .senseBack][k] = k := by decide
  exact each ⟨i, within⟩

/-- The flag of each event of an outlet, in the order of 10.8. -/
theorem eventBit_of_outletEvent {n j : Nat} {e : Event}
    (found : [Event.topped n, .overdue n, .stalled n, .faulted n, .release n][j]? = some e) : eventBit e = 11 + 5 * n + j := by
  match j, found with
  | 0, found | 1, found | 2, found | 3, found | 4, found =>
    obtain rfl := Option.some.inj found
    simp only [eventBit]
    omega

theorem misoBit_eq (s : State) (i : Nat) {k : Nat} (within : k < 8) : misoBit s (8 * i + k) = (misoByte s i).getLsbD (7 - k) := by
  have byte : (8 * i + k) / 8 = i := by omega
  have bit : (8 * i + k) % 8 = k := by omega
  rw [misoBit, byte, bit]

/-- The bytes shifted in, most significant bit first, with a byte cut off discarded (R163). -/
theorem bytesOfBits_of_bytes (bytes : List Byte) {cut : List Bool} (short : cut.length < 8) :
    bytesOfBits ((bytes.flatMap fun b => (List.range 8).map fun k => b.getLsbD (7 - k)) ++ cut) = bytes := by
  induction bytes with
  | nil => exact bytesOfBits_cut short
  | cons b bytes ih => rw [List.flatMap_cons, List.append_assoc, bytesOfBits_byte, ih]

/-- Settles O17: report by report. -/
theorem reportsHaveTheirLayouts : Obligations.ReportsHaveTheirLayouts := by
  unfold Obligations.ReportsHaveTheirLayouts
  refine ⟨?_, ?_, fun s law => ⟨?_, fun seat e found => ?_⟩, fun s empty => ?_, fun s r filled outlet window value => ?_,
    fun s n i e _ found => ?_, fun s i => ⟨rfl, ?_, rfl, fun b found => ?_, fun past => ?_, fun k within => misoBit_eq s i within⟩,
    fun bytes cut s short => ?_⟩
  · rintro s r rfl seat outlets rate curtail missed ring
    obtain ⟨f0, f1, f2, f3, f4, f5, f6, f7, f8, f9⟩ := statusReport_layout seat outlets rate curtail missed ring
    refine ⟨statusReport_length s, f0.trans ?_, f1.trans ?_, f2, f3, f4, f5.trans ?_, f6, f7.trans ?_, f8, f9, fun i e found window => ?_⟩
    · cases s.census.participation <;> rfl
    · cases s.line.state <;> rfl
    · have fault : flagBit (strapFault s) 1 = if s.host.straps.rate = 3 then 1 else 0 := by simp [flagBit, strapFault]
      rw [fault]
      cases s.host.profile <;> rfl
    · cases s.feeder.sense <;> rfl
    · obtain ⟨byte, word⟩ := statusReport_ring found
      rw [byte, word]
      exact ringReport_layout window
  · rintro m r rfl seats present late tight steady remainder age peak headroom
    obtain ⟨number, flags, fields⟩ := summaryReport_layout seats present late tight steady remainder age peak headroom
    obtain ⟨f3, f4, f5, f6, f7, f9, f11, f15, f17⟩ := fields
    obtain ⟨noisy, hasPeak, bound⟩ := twoFlags_bits m.noisy m.peak.isSome
    rw [flags]
    refine ⟨summaryReport_length m, number, noisy, hasPeak, bound, f3, f4, f5, f6, f7, f9, f11, f15, f17, fun i x found g => ?_⟩
    obtain ⟨first, word, last⟩ := summaryReport_seat found
    obtain ⟨latch, share, clash⟩ := seatReport_layout g
    rw [first, word, last]
    refine ⟨latch.trans ?_, share, clash⟩
    rcases x.latch with ⟨_ | _, _ | _ | _ | _ | _⟩ <;> rfl
  · rw [rosterReport, List.length_map]
    exact law.1
  · obtain ⟨state, band, absence, multi, irregular⟩ := entryReport_layout (law.2 e (List.mem_of_getElem? found))
    have byte : byteAt (rosterReport s) seat = (entryReport e).toNat := by
      rw [byteAt, rosterReport, List.getD_eq_getElem?_getD, List.getElem?_map, found]; rfl
    rw [byte]
    refine ⟨state.trans ?_, band.trans ?_, absence, multi, irregular⟩
    · cases e.state <;> rfl
    · cases e.band <;> rfl
  · rw [faultReport, empty]
  · obtain ⟨length, flags, kind, rest⟩ := faultReport_layout filled outlet window value
    refine ⟨length, flags.trans ?_, kind.trans ?_, rest⟩
    · cases s.host.furtherFaults <;> rfl
    · cases r.kind <;> rfl
  · have bit : eventBit e = i := by
      rcases found with found | ⟨atLeast, found⟩
      · exact eventBit_of_partEvent found
      · rw [eventBit_of_outletEvent found]; omega
    subst bit
    exact ⟨rfl, rfl⟩
  · cases h : s.host.response.status <;> simp [misoByte, responseBytes, statusCode, h, byteOf]
  · simp [misoByte, responseBytes, List.getD_eq_getElem?_getD, Nat.add_comm 3 i, found]
  · rw [misoByte, List.getD_eq_getElem?_getD, List.getElem?_eq_none (by simp [responseBytes]; omega)]; rfl
  · rw [receiveTransaction, transactionOfBits, bytesOfBits_of_bytes bytes short]

end Sys2Proof.Machine
end

section
/-! PROOFS. The overdue row: the three events that set the flag. -/

set_option Elab.async false

namespace Sys2Proof.Machine

section
variable {s t : State} {n : Nat} {o : Outlet}

theorem isOverdue_of_found (found : s.outlets[n]? = some o) : isOverdue s n = o.session.overdue := by rw [isOverdue, found]

theorem flagged_of_raised {events : EventSet} {e : Event} (bit : eventBit e < 32) (raised : t.host.events = events ||| eventFlag e) :
    Flagged t e := by
  rw [Flagged, isRaised, raised, BitVec.getLsbD_or, eventFlag, BitVec.getLsbD_twoPow]
  simp [bit]

/-- The overdue row is the event that sets the flag (R19): it is taken where the event brings the flag, and it is that event there. -/
theorem exec_overdue_of_set {cause : OverdueBy} (found : s.outlets[n]? = some o) (clear : o.session.overdue = false)
    (event : overdueEvent cause s = t) (set : isOverdue t n = true) : exec (.overdue n cause) s = .next t := by
  have taken : becomesOverdue n s (overdueEvent cause s) = true := by
    rw [becomesOverdue, event, set, isOverdue_of_found found, clear]; rfl
  calc exec (.overdue n cause) s = .next (onlyWhere (becomesOverdue n) (overdueEvent cause) s) := rfl
    _ = .next t := by rw [onlyWhere, if_pos taken, event]

/-- With the flag set already nothing happens. -/
theorem exec_overdue_of_stood (cause : OverdueBy) (found : s.outlets[n]? = some o) (set : o.session.overdue = true) :
    exec (.overdue n cause) s = .next s := by
  have notTaken : ¬ becomesOverdue n s (overdueEvent cause s) = true := by
    rw [becomesOverdue, isOverdue_of_found found, set]; exact Bool.false_ne_true
  calc exec (.overdue n cause) s = .next (onlyWhere (becomesOverdue n) (overdueEvent cause) s) := rfl
    _ = .next s := by rw [onlyWhere, if_neg notTaken]

/-- The minute tick that takes T from 1 to 0 with need left sets the flag and raises OVERDUE. -/
theorem minuteTick_setsOverdue (found : s.outlets[n]? = some o) (few : n < 4) (occupied : o.session.state ≠ .vacant)
    (last : o.session.departure = 1) (need : 0 < o.session.need) (clear : o.session.overdue = false) :
    isOverdue (minuteTick s) n = true ∧ Flagged (minuteTick s) (.overdue n) := by
  have ticked : (minuteTick s).outlets[n]? = some (tickRecord o) := by
    rw [minuteTick_outlets, List.getElem?_map, found, Option.map_some]
  have record : (tickRecord o).session.overdue = true := by
    rw [tickRecord_eq, if_pos ⟨occupied, by omega⟩]
    simp [last, need]
  refine ⟨(isOverdue_of_found ticked).trans record, ?_⟩
  have raised : (minuteTick s).host.events.getLsbD (12 + 5 * n) = true :=
    (minuteTick_getLsbD s (by omega)).mpr (.inr ⟨n, o, found, ⟨occupied, last, need, clear⟩, rfl⟩)
  exact raised

/-- An OPEN with no time and with need opens the session overdue (R10, R19). -/
theorem open_setsOverdue {p : Profile} {need vanMax : Nat} {tag : List Byte} (accepting : Accepting s) (found : s.outlets[n]? = some o)
    (few : n < 4) (loaded : s.host.profile = some p) (vacant : o.session.state = .vacant) (undriven : o.supervision.releaseDriven = false)
    (some_ : 0 < need) (needWord : need ≤ 65535) (vanMaxWord : vanMax ≤ 65535) (short : tag.length ≤ 16) :
    ∃ t, exec (.openSession (withLength (sessionBytes n need 0 vanMax tag))) s = .next t ∧
      isOverdue t n = true ∧ Flagged t (.overdue n) := by
  have length := sessionBytes_length (n := n) (need := need) (departure := 0) (vanMax := vanMax) (tag := tag)
  have outlet := sessionBytes_outlet (n := n) (need := need) (departure := 0) (vanMax := vanMax) (tag := tag) (by omega)
  obtain ⟨-, -, -, opens⟩ := openIsTakenOrRefused s _ (sessionBytes n need 0 vanMax tag) accepting
    (requestBody_withLength (by omega)) (by omega) (by omega)
  rw [outlet, sessionBytes_need needWord, sessionBytes_departure (by omega), sessionBytes_vanMax vanMaxWord] at opens
  obtain ⟨t, answer, state, o', found', record, -⟩ := opens p o _ loaded found vacant undriven rfl
  have overdue : o'.session.overdue = true := by rw [record]; simp [some_]
  refine ⟨t, answer, (isOverdue_of_found found').trans overdue, flagged_of_raised (events := s.host.events) ?_ ?_⟩
  · show 12 + 5 * n < 32; omega
  · rw [state]; simp [some_]

/-- An AMEND with no time and with need makes the session overdue (R12, R19). -/
theorem amend_setsOverdue {p : Profile} {need vanMax : Nat} (accepting : Accepting s) (found : s.outlets[n]? = some o)
    (few : n < 4) (loaded : s.host.profile = some p) (occupied : o.session.state ≠ .vacant) (sound : o.session.state ≠ .faulted)
    (clear : o.session.overdue = false) (some_ : 0 < need) (given : need < 65535) (vanMaxWord : vanMax ≤ 65535) :
    ∃ t, exec (.amendSession (withLength (sessionBytes n need 0 vanMax []))) s = .next t ∧
      isOverdue t n = true ∧ Flagged t (.overdue n) := by
  have length := sessionBytes_length (n := n) (need := need) (departure := 0) (vanMax := vanMax) (tag := [])
  have outlet := sessionBytes_outlet (n := n) (need := need) (departure := 0) (vanMax := vanMax) (tag := []) (by omega)
  obtain ⟨-, -, -, amends⟩ := amendIsTakenOrRefused s _ _ accepting (requestBody_withLength (by rw [length]; decide)) length
  rw [outlet, sessionBytes_need (by omega), sessionBytes_departure (by omega), sessionBytes_vanMax vanMaxWord] at amends
  obtain ⟨t, answer, state⟩ := amends p o _ _ _ _ _ _ loaded found occupied sound rfl rfl rfl rfl rfl rfl
  have needs : (if need = 65535 then o.session.need else need) = need := if_neg (by omega)
  have overdue : isOverdue t n = true := by
    have own : t.outlets[n]?.map (·.session.overdue) = some true := by
      rw [state]
      dsimp only
      rw [retarget_getElem?, set_getElem?_of_found found, Option.map_some, Option.map_some, giveTarget_session]
      simp [needs, some_]
    cases at_n : t.outlets[n]? with
    | none => rw [at_n] at own; cases own
    | some o' =>
      rw [at_n] at own
      exact (isOverdue_of_found at_n).trans (Option.some.inj own)
  refine ⟨t, answer, overdue, ?_⟩
  have bit : eventBit (.overdue n) < 32 := by show 12 + 5 * n < 32; omega
  rw [Flagged, isRaised, state]
  simp [needs, some_, clear, eventFlag, bit]

end

/-- Settles O21: the three causes, and the flag that stands. -/
theorem overdueIsSetOnce : Obligations.OverdueIsSetOnce := by
  unfold Obligations.OverdueIsSetOnce
  intro s n o found few
  refine ⟨fun out occupied last need clear => ?_, fun p need vanMax tag accepting loaded vacant clear undriven some_ needWord vanMaxWord short => ?_,
    fun p need vanMax accepting loaded occupied sound clear some_ given vanMaxWord => ?_,
    fun cause set => exec_overdue_of_stood cause found set⟩
  · have answer := exec_minuteTick_of_outOfReset out
    obtain ⟨set, raised⟩ := minuteTick_setsOverdue found few occupied last need clear
    have row := exec_overdue_of_set (cause := .minuteTick) found clear (Host.Outcome.next.inj answer) set
    exact ⟨row.trans answer.symm, _, row, set, raised⟩
  · obtain ⟨t, answer, set, raised⟩ := open_setsOverdue accepting found few loaded vacant undriven some_ needWord vanMaxWord short
    have row := exec_overdue_of_set (cause := .opening (withLength (sessionBytes n need 0 vanMax tag))) found clear
      (Host.Outcome.next.inj answer) set
    exact ⟨row.trans answer.symm, _, row, set, raised⟩
  · obtain ⟨t, answer, set, raised⟩ := amend_setsOverdue accepting found few loaded occupied sound clear some_ given vanMaxWord
    have row := exec_overdue_of_set (cause := .amending (withLength (sessionBytes n need 0 vanMax []))) found clear
      (Host.Outcome.next.inj answer) set
    exact ⟨row.trans answer.symm, _, row, set, raised⟩

end Sys2Proof.Machine
end

section
/-! PROOFS. The water-fill: one band of it, and the sum of the shares over the roster (R100 to R103). -/

set_option Elab.async false

namespace Sys2Proof.Machine

section
variable (ceiling minCurrent count remaining : Nat) (above : Bool)

/-- One band of the water-fill, in its four cases (R100 to R102). -/
theorem fillBand_cases :
    (count = 0 ∧ fillBand ceiling minCurrent count remaining above = (.empty, remaining)) ∨
    (count ≠ 0 ∧ above = true ∧ fillBand ceiling minCurrent count remaining above = (.closed, remaining)) ∨
    (count ≠ 0 ∧ above = false ∧ minCurrent ≤ min ceiling (remaining / count) ∧
      fillBand ceiling minCurrent count remaining above =
        (.full (min ceiling (remaining / count)), remaining - min ceiling (remaining / count) * count)) ∨
    (count ≠ 0 ∧ above = false ∧ ¬ minCurrent ≤ min ceiling (remaining / count) ∧
      fillBand ceiling minCurrent count remaining above =
        (.short (remaining / minCurrent), remaining - remaining / minCurrent * minCurrent)) := by
  unfold fillBand
  by_cases none : count = 0
  · exact .inl ⟨none, if_pos none⟩
  · rw [if_neg none]
    cases above
    · by_cases fits : minCurrent ≤ min ceiling (remaining / count)
      · exact .inr (.inr (.inl ⟨none, rfl, fits, if_pos fits⟩))
      · exact .inr (.inr (.inr ⟨none, rfl, fits, if_neg fits⟩))
    · exact .inr (.inl ⟨none, rfl, rfl⟩)

variable {ceiling minCurrent count remaining}

/-- A band is short where I_min for each of its seats is more than it has (R102). -/
theorem lt_of_short (withinCeiling : minCurrent ≤ ceiling) (none : count ≠ 0) (short : ¬ minCurrent ≤ min ceiling (remaining / count)) :
    remaining < count * minCurrent := by
  have level : remaining / count < minCurrent := by
    rcases Nat.lt_or_ge (remaining / count) minCurrent with below | atLeast
    · exact below
    · exact absurd (le_min withinCeiling atLeast) short
  rw [Nat.mul_comm]
  exact (Nat.div_lt_iff_lt_mul (Nat.pos_of_ne_zero none)).mp level

theorem served_lt (positive : 0 < minCurrent) (short : remaining < count * minCurrent) : remaining / minCurrent < count :=
  (Nat.div_lt_iff_lt_mul positive).mpr short

end

/-- Settles O43: by the four cases of a band. -/
theorem bandIsFilledOnce : Obligations.BandIsFilledOnce := by
  unfold Obligations.BandIsFilledOnce
  intro ceiling minCurrent count remaining above fill left positive withinCeiling filled
  have conserved := fillBand_conserves ceiling minCurrent count remaining above
  rcases fillBand_cases ceiling minCurrent count remaining above with
    ⟨none, h⟩ | ⟨some, closed, h⟩ | ⟨some, open_, fits, h⟩ | ⟨some, open_, short, h⟩ <;>
    rw [h] at filled conserved <;> obtain ⟨rfl, rfl⟩ := Prod.mk.inj filled
  · exact ⟨conserved, by simp [none], by simp [none], nofun, nofun⟩
  · exact ⟨conserved, by simp [some], by simp [some, closed], nofun, nofun⟩
  · have division : minCurrent ≤ remaining / count := fits.trans (min_le_right _ _)
    refine ⟨conserved, by simp [some], by simp [open_], fun level same => ?_, nofun⟩
    obtain rfl := Fill.full.inj same
    refine ⟨fits, rfl, ?_⟩
    rw [Nat.mul_comm]
    exact (Nat.le_div_iff_mul_le (Nat.pos_of_ne_zero some)).mp division
  · have below := lt_of_short withinCeiling some short
    refine ⟨conserved, by simp [some], by simp [open_], nofun, fun served same => ?_⟩
    obtain rfl := Fill.short.inj same
    have rest : remaining - remaining / minCurrent * minCurrent = remaining % minCurrent := by
      have whole := Nat.div_add_mod' remaining minCurrent
      omega
    exact ⟨served_lt positive below, rfl, rest ▸ Nat.mod_lt _ positive, below⟩

/-! O44: the sum of the shares. -/

/-- What a band's fill gives a seat by its rank in that band's order; nothing for a seat outside it. -/
def bandShare (minCurrent : Nat) (w : WaterFill) (r : Roster) (b : Band) (seat : Nat) : Nat :=
  match rotationRank (r.orderOf b) seat with
  | some rank => (w.ofBand b).share minCurrent rank
  | none => 0

theorem seatShare_eq_bandShare (minCurrent : Nat) (w : WaterFill) (r : Roster) (seat : Nat) :
    seatShare minCurrent w r seat = bandShare minCurrent w r (entryOf r seat).band seat := rfl

theorem rotationRank_of_not_mem {order : List Nat} {seat : Nat} (outside : seat ∉ order) : rotationRank order seat = none := by
  rw [rotationRank, List.idxOf?_eq_none_iff.mpr outside, Option.map_none]

theorem bandShare_of_not_mem {minCurrent : Nat} {w : WaterFill} {r : Roster} {b : Band} {seat : Nat} (outside : seat ∉ r.orderOf b) :
    bandShare minCurrent w r b seat = 0 := by rw [bandShare, rotationRank_of_not_mem outside]

/-- The rotation runs through every seat once. -/
theorem rotation_perm {origin : Nat} (horigin : origin < 128) :
    ((List.range 128).map fun k => (origin + k) % 128).Perm (List.range 128) := by
  have distinct : ((List.range 128).map fun k => (origin + k) % 128).Nodup :=
    (rotation_risingKeys horigin).imp fun lower same => lower.ne (congrArg _ same)
  refine (List.perm_ext_iff_of_nodup distinct List.nodup_range).mpr fun seat => ?_
  rw [List.mem_map, List.mem_range]
  constructor
  · rintro ⟨k, -, rfl⟩
    exact Nat.mod_lt _ (by decide)
  · intro hseat
    exact ⟨rotationKey origin seat, List.mem_range.mpr (Nat.mod_lt _ (by decide)), add_rotationKey_mod horigin hseat⟩

/-- The seat shows the band in the roster (R92). -/
def showsBand (entries : List Entry) (b : Band) (seat : Nat) : Bool := (entries[seat]?.map (Entry.inBand b)).getD false

theorem rotationOrder_eq_filter (entries : List Entry) (origin : Nat) (b : Band) :
    rotationOrder entries origin b = ((List.range 128).map fun k => (origin + k) % 128).filter (showsBand entries b) := by
  rw [rotationOrder]
  refine List.filter_congr fun seat _ => ?_
  rw [showsBand]
  cases entries[seat]? <;> rfl

theorem countP_showsBand (entries : List Entry) (b : Band) :
    (List.range entries.length).countP (showsBand entries b) = entries.countP (Entry.inBand b) := by
  induction entries with
  | nil => rfl
  | cons e entries ih =>
    have shifted : (showsBand (e :: entries) b) ∘ Nat.succ = showsBand entries b := rfl
    have head : showsBand (e :: entries) b 0 = e.inBand b := rfl
    rw [List.length_cons, List.range_succ_eq_map, List.countP_cons, List.countP_map, shifted, ih, head, List.countP_cons]

/-- A band's order has as many seats as the band counts (R92, R94). -/
theorem length_rotationOrder {entries : List Entry} (length : entries.length = 128) {origin : Nat} (horigin : origin < 128) (b : Band) :
    (rotationOrder entries origin b).length = entries.countP (Entry.inBand b) := by
  rw [rotationOrder_eq_filter, ← List.countP_eq_length_filter, (rotation_perm horigin).countP_eq, ← countP_showsBand, length]

/-- What a band's fill gives its seats one by one is what it gives them together (R100 to R102). -/
theorem sum_share_fillBand {ceiling minCurrent count remaining : Nat} {above : Bool} (positive : 0 < minCurrent)
    (withinCeiling : minCurrent ≤ ceiling) :
    ((List.range count).map fun i => (fillBand ceiling minCurrent count remaining above).1.share minCurrent (i + 1)).sum =
      (fillBand ceiling minCurrent count remaining above).1.given minCurrent count := by
  rcases fillBand_cases ceiling minCurrent count remaining above with
    ⟨none, h⟩ | ⟨some, closed, h⟩ | ⟨some, open_, fits, h⟩ | ⟨some, open_, short, h⟩ <;> rw [h]
  · simp [Fill.share, Fill.given]
  · simp [Fill.share, Fill.given]
  · simp [Fill.share, Fill.given, Nat.mul_comm]
  · have served := served_lt positive (lt_of_short withinCeiling some short)
    have first (n : Nat) : ((List.range n).map fun i => if i + 1 ≤ remaining / minCurrent then minCurrent else 0).sum =
        min n (remaining / minCurrent) * minCurrent := by
      induction n with
      | zero => simp
      | succ n ih =>
        rw [List.range_succ, List.map_append, List.sum_append, ih]
        by_cases inside : n + 1 ≤ remaining / minCurrent
        · simp only [List.map_cons, List.map_nil, List.sum_cons, List.sum_nil, if_pos inside, Nat.add_zero]
          rw [Nat.min_eq_left inside, Nat.min_eq_left (by omega), Nat.succ_mul]
        · simp only [List.map_cons, List.map_nil, List.sum_cons, List.sum_nil, if_neg inside, Nat.add_zero]
          rw [Nat.min_eq_right (by omega), Nat.min_eq_right (by omega)]
    simp only [Fill.share, Fill.given]
    rw [first, Nat.min_eq_right served.le]

theorem sum_range_eq_sum_order {order : List Nat} {f : Nat → Nat} (distinct : order.Nodup) (seats : ∀ seat ∈ order, seat < 128)
    (outside : ∀ seat, seat ∉ order → f seat = 0) : ((List.range 128).map f).sum = (order.map f).sum := by
  rw [← List.sum_toFinset f List.nodup_range, ← List.sum_toFinset f distinct]
  refine (Finset.sum_subset (fun seat mem => ?_) fun seat _ notIn => outside seat fun mem => notIn (List.mem_toFinset.mpr mem)).symm
  exact List.mem_toFinset.mpr (List.mem_range.mpr (seats seat (List.mem_toFinset.mp mem)))

section
variable {m : Maps} {number : CensusNumber} {before : Roster} {ceiling minCurrent remaining : Nat} {above : Bool} {b : Band}
  {w : WaterFill}

/-- The shares of one band's seats sum to what its fill gives (R103). -/
theorem sum_bandShare (length : before.entries.length = 128) (positive : 0 < minCurrent) (withinCeiling : minCurrent ≤ ceiling)
    (order : (updateRoster m number before).orderOf b = rotationOrder (updateRoster m number before).entries (rotationOrigin number) b)
    (fill : w.ofBand b = (fillBand ceiling minCurrent ((updateRoster m number before).entries.countP (Entry.inBand b)) remaining above).1) :
    ((List.range 128).map (bandShare minCurrent w (updateRoster m number before) b)).sum =
      (w.ofBand b).given minCurrent ((updateRoster m number before).entries.countP (Entry.inBand b)) := by
  have full := (updateRoster_length m number before).trans length
  have horigin := rotationOrigin_lt number
  have rising := rotationOrder_risingKeys (updateRoster m number before).entries horigin b
  rw [sum_range_eq_sum_order (order := (updateRoster m number before).orderOf b)]
  · have ranks : ((updateRoster m number before).orderOf b).map (bandShare minCurrent w (updateRoster m number before) b) =
        (List.range ((updateRoster m number before).orderOf b).length).map fun i => (w.ofBand b).share minCurrent (i + 1) := by
      refine List.ext_getElem (by simp) fun i inside _ => ?_
      rw [List.getElem_map, List.getElem_map, List.getElem_range, bandShare]
      have ranked := rising
      rw [← order] at ranked
      rw [ranked.rank_eq (i := i) (List.getElem?_eq_getElem _)]
    rw [ranks, order, length_rotationOrder full horigin, fill, sum_share_fillBand positive withinCeiling]
  · rw [order]
    exact rising.imp fun lower same => lower.ne (congrArg _ same)
  · intro seat mem
    rw [order, mem_rotationOrder full horigin] at mem
    obtain ⟨e, found, -⟩ := mem
    exact full ▸ (List.getElem?_eq_some_iff.mp found).1
  · exact fun seat outside => bandShare_of_not_mem outside

/-- A seat has a share in the band of its entry alone. -/
theorem seatShare_eq_sum (length : before.entries.length = 128) (seat : Nat) :
    seatShare minCurrent w (updateRoster m number before) seat =
      bandShare minCurrent w (updateRoster m number before) .late seat + bandShare minCurrent w (updateRoster m number before) .tight seat +
        bandShare minCurrent w (updateRoster m number before) .steady seat := by
  have full := (updateRoster_length m number before).trans length
  have horigin := rotationOrigin_lt number
  have other {b : Band} (order : (updateRoster m number before).orderOf b =
      rotationOrder (updateRoster m number before).entries (rotationOrigin number) b)
      (differs : (entryOf (updateRoster m number before) seat).band ≠ b) :
      bandShare minCurrent w (updateRoster m number before) b seat = 0 := by
    refine bandShare_of_not_mem fun mem => differs ?_
    rw [order, mem_rotationOrder full horigin] at mem
    obtain ⟨e, found, -, band⟩ := mem
    rw [entryOf, List.getD_eq_getElem?_getD, found]
    exact band
  rw [seatShare_eq_bandShare]
  cases band : (entryOf (updateRoster m number before) seat).band with
  | late => rw [other (b := .tight) rfl (by rw [band]; exact nofun), other (b := .steady) rfl (by rw [band]; exact nofun),
      Nat.add_zero]
  | tight =>
    rw [other (b := .late) rfl (by rw [band]; exact nofun), other (b := .steady) rfl (by rw [band]; exact nofun), Nat.zero_add,
      Nat.add_zero]
  | steady =>
    rw [other (b := .late) rfl (by rw [band]; exact nofun), other (b := .tight) rfl (by rw [band]; exact nofun), Nat.zero_add]
  | absent | unbanded =>
    rw [other (b := .late) rfl (by rw [band]; exact nofun), other (b := .tight) rfl (by rw [band]; exact nofun),
      other (b := .steady) rfl (by rw [band]; exact nofun)]
    exact bandShare_of_not_mem (fun mem => nomatch mem)

end

theorem sum_map_add₃ (l : List Nat) (f g h : Nat → Nat) :
    (l.map fun i => f i + g i + h i).sum = (l.map f).sum + (l.map g).sum + (l.map h).sum := by
  rw [List.sum_map_add, List.sum_map_add]

/-- Settles O44: band by band, what the fills give and pass on. -/
theorem sharesKeepWithinThePool : Obligations.SharesKeepWithinThePool := by
  unfold Obligations.SharesKeepWithinThePool
  rintro m number before r w ceiling minCurrent pool positive withinCeiling length rfl rfl
  rw [funext (seatShare_eq_sum (minCurrent := minCurrent) (m := m) (number := number) length), sum_map_add₃]
  set r := updateRoster m number before with hr
  set late := fillBand ceiling minCurrent r.counts.late pool false with hlate
  set tight := fillBand ceiling minCurrent r.counts.tight late.2 late.1.closes with htight
  set steady := fillBand ceiling minCurrent r.counts.steady tight.2 (late.1.closes || tight.1.closes) with hsteady
  have lateSum := sum_bandShare (m := m) (number := number) (b := .late)
    (w := waterFill ceiling minCurrent pool r.counts.late r.counts.tight r.counts.steady) length positive withinCeiling rfl rfl
  have tightSum := sum_bandShare (m := m) (number := number) (b := .tight)
    (w := waterFill ceiling minCurrent pool r.counts.late r.counts.tight r.counts.steady) length positive withinCeiling rfl rfl
  have steadySum := sum_bandShare (m := m) (number := number) (b := .steady)
    (w := waterFill ceiling minCurrent pool r.counts.late r.counts.tight r.counts.steady) length positive withinCeiling rfl rfl
  have lateRest : late.1.given minCurrent r.counts.late + late.2 = pool := fillBand_conserves _ _ _ _ _
  have tightRest : tight.1.given minCurrent r.counts.tight + tight.2 = late.2 := fillBand_conserves _ _ _ _ _
  have steadyRest : steady.1.given minCurrent r.counts.steady + steady.2 = tight.2 := fillBand_conserves _ _ _ _ _
  rw [lateSum, tightSum, steadySum]
  show late.1.given minCurrent r.counts.late + tight.1.given minCurrent r.counts.tight + steady.1.given minCurrent r.counts.steady +
    steady.2 = pool
  omega

end Sys2Proof.Machine
end

section
/-! PROOFS. The bits of a frame: where each is stored, which are driven, and the arbitration of the census number (R54, R72, R73, R75). -/

set_option Elab.async false

namespace Sys2Proof.Machine

/-! The five kinds of frame bit (R72). -/

theorem fieldOf_number {j : Nat} (within : j < 16) : fieldOf (2 + j) = .number (15 - j) := by
  have weight : 17 - (2 + j) = 15 - j := by omega
  rw [fieldOf, if_neg (by omega), if_pos (by omega), weight]

theorem fieldOf_present {seat : Nat} (within : seat < 128) : fieldOf (18 + seat) = .present seat := by
  rw [fieldOf, if_neg (by omega), if_neg (by omega), if_pos (by omega), Nat.add_sub_cancel_left]

theorem fieldOf_late {seat : Nat} (within : seat < 128) : fieldOf (146 + seat) = .late seat := by
  rw [fieldOf, if_neg (by omega), if_neg (by omega), if_neg (by omega), if_pos (by omega), Nat.add_sub_cancel_left]

theorem fieldOf_tight {seat : Nat} (within : seat < 128) : fieldOf (274 + seat) = .tight seat := by
  rw [fieldOf, if_neg (by omega), if_neg (by omega), if_neg (by omega), if_neg (by omega), if_pos (by omega), Nat.add_sub_cancel_left]

theorem fieldOf_steady (seat : Nat) : fieldOf (402 + seat) = .steady seat := by
  rw [fieldOf, if_neg (by omega), if_neg (by omega), if_neg (by omega), if_neg (by omega), if_neg (by omega), Nat.add_sub_cancel_left]

theorem fieldOf_settle {k : Nat} (settle : k < 2) : fieldOf k = .settle := if_pos settle

/-! O57: arbitration. -/

section
variable {line : Nat → Bool} {f : Frame} {k : Nat}

theorem drivesBit_number (base : Nat) (f : Frame) {j : Nat} (within : j < 16) :
    drivesBit base f (2 + j) = (f.sending && f.candidate.getLsbD (15 - j)) := by rw [drivesBit, fieldOf_number within]

/-- One more bit of the number read: it is stored at its weight, and the part yields where it reads a 1 at a 0 of its candidate (R73). -/
theorem readNumber_succ (within : k < 16) :
    readNumber line (k + 1) f = { readNumber line k f with
      number := if line (2 + k) then (readNumber line k f).number ||| BitVec.twoPow 16 (15 - k) else (readNumber line k f).number
      sending := (readNumber line k f).sending && !(line (2 + k) && !(readNumber line k f).candidate.getLsbD (15 - k)) } := by
  rw [readNumber, storeBit, fieldOf_number within]

/-- Reading the number changes the number and the sending mark alone. -/
theorem readNumber_frame (line : Nat → Bool) (f : Frame) (h : k ≤ 16) :
    readNumber line k f = { f with number := (readNumber line k f).number, sending := (readNumber line k f).sending } := by
  induction k with
  | zero => rfl
  | succ k ih =>
    rw [readNumber_succ (by omega)]
    exact congrArg (fun g : Frame => { g with
      number := if line (2 + k) then (readNumber line k f).number ||| BitVec.twoPow 16 (15 - k) else (readNumber line k f).number
      sending := (readNumber line k f).sending && !(line (2 + k) && !(readNumber line k f).candidate.getLsbD (15 - k)) }) (ih (by omega))

theorem readNumber_candidate (line : Nat → Bool) (f : Frame) (h : k ≤ 16) : (readNumber line k f).candidate = f.candidate := by
  rw [readNumber_frame line f h]

/-- The bits read so far stand in the number, most significant bit first. -/
theorem readNumber_number (line : Nat → Bool) (clear : f.number = 0#16) (h : k ≤ 16) {j : Nat} (within : j < 16) :
    (readNumber line k f).number.getLsbD (15 - j) = (decide (j < k) && line (2 + j)) := by
  induction k with
  | zero => simp [readNumber, clear]
  | succ k ih =>
    have before := ih (by omega)
    rw [readNumber_succ (by omega)]
    dsimp only
    by_cases same : j = k
    · subst same
      cases bit : line (2 + j) <;> simp [before, bit]; omega
    · have others : j < k + 1 ↔ j < k := by omega
      have notThis : ¬ 15 - k = 15 - j := by omega
      cases bit : line (2 + k) <;> simp [before, others, notThis]

theorem readNumber_sending_succ (within : k < 16) :
    (readNumber line (k + 1) f).sending = true ↔
      (readNumber line k f).sending = true ∧ ¬ (line (2 + k) = true ∧ f.candidate.getLsbD (15 - k) = false) := by
  rw [readNumber_succ within]
  simp only [readNumber_candidate line f (Nat.le_of_lt within)]
  cases line (2 + k) <;> cases f.candidate.getLsbD (15 - k) <;> simp

/-- The bits that the part drives read dominant (R56, R73). -/
def DrivenRead (line : Nat → Bool) (f : Frame) : Prop :=
  ∀ j, j < 16 → drivesBit 0 (readNumber line j f) (2 + j) = true → line (2 + j) = true

/-- A part keeps sending as long as the line reads its candidate (R73). -/
theorem readNumber_sending (sends : f.sending = true) (driven : DrivenRead line f) (h : k ≤ 16) :
    (readNumber line k f).sending = true ↔ ∀ j < k, line (2 + j) = f.candidate.getLsbD (15 - j) := by
  induction k with
  | zero => simp [readNumber, sends]
  | succ k ih =>
    have within : k < 16 := by omega
    have drives := driven k within
    rw [drivesBit_number 0 _ within, readNumber_candidate line f (by omega), Bool.and_eq_true] at drives
    rw [readNumber_sending_succ within, Nat.forall_lt_succ_right, ih (by omega)]
    refine and_congr_right fun agreed => ?_
    have sending := (ih (by omega)).mpr agreed
    cases read : line (2 + k) <;> cases bit : f.candidate.getLsbD (15 - k) <;> simp
    exact absurd (drives ⟨sending, bit⟩) (by rw [read]; exact Bool.false_ne_true)

theorem eq_of_bits {a b : BitVec 16} (bits : ∀ j < 16, a.getLsbD (15 - j) = b.getLsbD (15 - j)) : a = b := by
  refine BitVec.eq_of_getLsbD_eq fun i within => ?_
  have place : 15 - (15 - i) = i := by omega
  rw [← place]
  exact bits (15 - i) (by omega)

/-- A number that is the greater at a bit and agrees above it is the greater. -/
theorem toNat_lt_of_bits {a b : BitVec 16} {k : Nat} (within : k < 16) (zero : a.getLsbD (15 - k) = false) (one : b.getLsbD (15 - k) = true)
    (above : ∀ j < k, a.getLsbD (15 - j) = b.getLsbD (15 - j)) : a.toNat < b.toNat := by
  refine Nat.lt_of_testBit (15 - k) zero one fun i higher => ?_
  by_cases inside : i < 16
  · have place : 15 - (15 - i) = i := by omega
    have same := above (15 - i) (by omega)
    rwa [place] at same
  · exact (BitVec.getLsbD_of_ge a i (by omega)).trans (BitVec.getLsbD_of_ge b i (by omega)).symm

/-- A part whose driven bits read dominant reads no smaller number than its candidate, and its candidate where it keeps sending (R73). -/
theorem readNumber_wins (sends : f.sending = true) (clear : f.number = 0#16) (driven : DrivenRead line f) :
    f.candidate.toNat ≤ (readNumber line 16 f).number.toNat ∧
      ((readNumber line 16 f).sending = true ↔ (readNumber line 16 f).number = f.candidate) := by
  have read {j : Nat} (within : j < 16) : (readNumber line 16 f).number.getLsbD (15 - j) = line (2 + j) := by
    rw [readNumber_number line clear le_rfl within, decide_eq_true within, Bool.true_and]
  have sending := readNumber_sending sends driven (le_refl 16)
  have same : (readNumber line 16 f).sending = true ↔ (readNumber line 16 f).number = f.candidate := by
    rw [sending]
    constructor
    · exact fun agrees => eq_of_bits fun j within => (read within).trans (agrees j within)
    · exact fun equal j within => by rw [← read within, equal]
  refine ⟨?_, same⟩
  by_cases agrees : ∀ j < 16, line (2 + j) = f.candidate.getLsbD (15 - j)
  · rw [same.mp (sending.mpr agrees)]
  · -- The first bit at which the line and the candidate differ is a 1 on the line, as the part still sends there.
    have differs : ∃ j, j < 16 ∧ line (2 + j) ≠ f.candidate.getLsbD (15 - j) := by
      simpa only [not_forall, exists_prop] using agrees
    classical
    obtain ⟨within, here⟩ := Nat.find_spec differs
    have before : ∀ j < Nat.find differs, line (2 + j) = f.candidate.getLsbD (15 - j) := fun j lower => by
      by_contra other
      exact Nat.find_min differs lower ⟨lower.trans within, other⟩
    have stillSends := (readNumber_sending sends driven within.le).mpr before
    have drives := driven _ within
    rw [drivesBit_number 0 _ within, readNumber_candidate line f within.le, stillSends, Bool.true_and] at drives
    have zero : f.candidate.getLsbD (15 - Nat.find differs) = false := by
      by_contra one
      rw [Bool.not_eq_false] at one
      exact here ((drives one).trans one.symm)
    have one : line (2 + Nat.find differs) = true := by
      rw [zero, Bool.ne_false_iff] at here
      exact here
    refine (toNat_lt_of_bits within zero ((read within).trans one) fun j lower => ?_).le
    rw [read (lower.trans within)]
    exact (before j lower).symm

end

section
variable {line : Nat → Bool} {parts : List Frame}

/-- Among parts whose driven bits the line ORs, one is still sending after every bit (R73). -/
theorem exists_sending (sending : ∀ f ∈ parts, f.sending = true) (some : parts ≠ [])
    (wired : ∀ j, j < 16 → line (2 + j) = parts.any fun f => drivesBit 0 (readNumber line j f) (2 + j)) {k : Nat} (h : k ≤ 16) :
    ∃ g ∈ parts, (readNumber line k g).sending = true := by
  induction k with
  | zero =>
    obtain ⟨g, mem⟩ := List.exists_mem_of_ne_nil parts some
    exact ⟨g, mem, sending g mem⟩
  | succ k ih =>
    have within : k < 16 := by omega
    obtain ⟨g, mem, sends⟩ := ih (by omega)
    cases read : line (2 + k) with
    | false => exact ⟨g, mem, (readNumber_sending_succ within).mpr ⟨sends, fun yields => by rw [read] at yields; exact absurd yields.1 nofun⟩⟩
    | true =>
      obtain ⟨d, memD, drives⟩ := List.any_eq_true.mp ((wired k within).symm.trans read)
      rw [drivesBit_number 0 _ within, readNumber_candidate line d within.le, Bool.and_eq_true] at drives
      exact ⟨d, memD, (readNumber_sending_succ within).mpr ⟨drives.1, fun yields => by rw [drives.2] at yields; exact absurd yields.2 nofun⟩⟩

theorem readNumber_number_congr {f g : Frame} (clearF : f.number = 0#16) (clearG : g.number = 0#16) :
    (readNumber line 16 f).number = (readNumber line 16 g).number :=
  eq_of_bits fun _ within => (readNumber_number line clearF le_rfl within).trans (readNumber_number line clearG le_rfl within).symm

end

/-- Settles O57: one part by its first differing bit, and a set of parts by the one that still sends. -/
theorem arbitrationReadsTheLargest : Obligations.ArbitrationReadsTheLargest := by
  unfold Obligations.ArbitrationReadsTheLargest
  refine ⟨?_, fun line parts clear wired f mem => ?_⟩
  · rintro line f g sends clear rfl driven
    obtain ⟨atLeast, same⟩ := readNumber_wins sends clear driven
    have frame := readNumber_frame line f (le_refl 16)
    refine ⟨atLeast, same, by rw [frame], by rw [frame], by rw [frame], by rw [frame], by rw [frame], fun j within => ?_⟩
    rw [readNumber_number line clear le_rfl within, decide_eq_true within, Bool.true_and]
  · have driven {g : Frame} (memG : g ∈ parts) : DrivenRead line g := fun j within drives => by
      rw [wired j within]
      exact List.any_eq_true.mpr ⟨g, memG, drives⟩
    have sameNumber {g : Frame} (memG : g ∈ parts) : (readNumber line 16 f).number = (readNumber line 16 g).number :=
      readNumber_number_congr (clear f mem).2 (clear g memG).2
    refine ⟨fun g memG => ?_, ?_⟩
    · rw [sameNumber memG]
      exact (readNumber_wins (clear g memG).1 (clear g memG).2 (driven memG)).1
    · obtain ⟨g, memG, sends⟩ := exists_sending (fun g memG => (clear g memG).1) (List.ne_nil_of_mem mem) wired (le_refl 16)
      refine ⟨g, memG, ?_⟩
      rw [sameNumber memG]
      exact (readNumber_wins (clear g memG).1 (clear g memG).2 (driven memG)).2.mp sends

end Sys2Proof.Machine
end

section
/-! PROOFS. The reading of one frame bit: the drive decision, and the bit stored in its field (R54, R55, R72, R75). -/

set_option Elab.async false

namespace Sys2Proof.Machine

section
variable {base k : Nat} {f : Frame}

/-- The latch of a seat is an own one, or the empty latch that drives nothing (R72). -/
theorem latchAt_iff (Q : Latch → Prop) (empty : ¬ Q ⟨false, .unbanded⟩) (base : Nat) (latches : List Latch) (seat : Nat) :
    Q (latchAt base latches seat) ↔ ∃ (n : Nat) (x : Latch), latches[n]? = some x ∧ base + n = seat ∧ Q x := by
  unfold latchAt
  split_ifs with own
  · have place : base + (seat - base) = seat := by omega
    constructor
    · intro holds
      cases found : latches[seat - base]? with
      | none => rw [List.getD_eq_getElem?_getD, found] at holds; exact absurd holds empty
      | some x =>
        rw [List.getD_eq_getElem?_getD, found] at holds
        exact ⟨_, x, found, place, holds⟩
    · rintro ⟨n, x, found, rfl, holds⟩
      rw [Nat.add_sub_cancel_left, List.getD_eq_getElem?_getD, found]
      exact holds
  · exact ⟨fun holds => absurd holds empty, fun ⟨n, x, found, at_, holds⟩ => absurd at_ (by omega)⟩

theorem drivesBit_present (base : Nat) (f : Frame) {seat : Nat} (within : seat < 128) :
    drivesBit base f (18 + seat) = (latchAt base f.latch seat).present := by
  have inFrame : decide (18 + seat < 530) = true := decide_eq_true (by omega)
  simp only [drivesBit, fieldOf_present within, inFrame, Bool.true_and]

theorem drivesBit_late (base : Nat) (f : Frame) {seat : Nat} (within : seat < 128) :
    drivesBit base f (146 + seat) = ((latchAt base f.latch seat).present && (latchAt base f.latch seat).band == .late) := by
  have inFrame : decide (146 + seat < 530) = true := decide_eq_true (by omega)
  simp only [drivesBit, fieldOf_late within, inFrame, Bool.true_and]

theorem drivesBit_tight (base : Nat) (f : Frame) {seat : Nat} (within : seat < 128) :
    drivesBit base f (274 + seat) = ((latchAt base f.latch seat).present && (latchAt base f.latch seat).band == .tight) := by
  have inFrame : decide (274 + seat < 530) = true := decide_eq_true (by omega)
  simp only [drivesBit, fieldOf_tight within, inFrame, Bool.true_and]

theorem drivesBit_steady (base : Nat) (f : Frame) {seat : Nat} (within : seat < 128) :
    drivesBit base f (402 + seat) = ((latchAt base f.latch seat).present && (latchAt base f.latch seat).band == .steady) := by
  have inFrame : decide (402 + seat < 530) = true := decide_eq_true (by omega)
  simp only [drivesBit, fieldOf_steady, inFrame, Bool.true_and]

/-- A latch at a seat drives frame bit k: its Present bit, or the bit of the one band map that it names (R72). -/
def LatchDrives (k seat : Nat) (x : Latch) : Prop :=
  x.present = true ∧ (k = 18 + seat ∨ (k = 146 + seat ∧ x.band = .late) ∨ (k = 274 + seat ∧ x.band = .tight) ∨
    (k = 402 + seat ∧ x.band = .steady))

theorem frameBit_places (k : Nat) :
    k < 2 ∨ (∃ j < 16, k = 2 + j) ∨ (∃ seat < 128, k = 18 + seat) ∨ (∃ seat < 128, k = 146 + seat) ∨
      (∃ seat < 128, k = 274 + seat) ∨ (∃ seat < 128, k = 402 + seat) ∨ ∃ seat ≥ 128, k = 402 + seat := by
  by_cases settle : k < 2
  · exact .inl settle
  · by_cases number : k < 18
    · exact .inr (.inl ⟨k - 2, by omega, by omega⟩)
    · by_cases present : k < 146
      · exact .inr (.inr (.inl ⟨k - 18, by omega, by omega⟩))
      · by_cases late : k < 274
        · exact .inr (.inr (.inr (.inl ⟨k - 146, by omega, by omega⟩)))
        · by_cases tight : k < 402
          · exact .inr (.inr (.inr (.inr (.inl ⟨k - 274, by omega, by omega⟩))))
          · by_cases steady : k < 530
            · exact .inr (.inr (.inr (.inr (.inr (.inl ⟨k - 402, by omega, by omega⟩)))))
            · exact .inr (.inr (.inr (.inr (.inr (.inr ⟨k - 402, by omega, by omega⟩)))))

theorem drivesBit_iff_latchDrives :
    drivesBit base f k = true ↔
      (∃ j, j < 16 ∧ k = 2 + j ∧ f.sending = true ∧ f.candidate.getLsbD (15 - j) = true) ∨
      ∃ seat < 128, LatchDrives k seat (latchAt base f.latch seat) := by
  simp only [LatchDrives]
  rcases frameBit_places k with
    settle | ⟨j, within, rfl⟩ | ⟨seat, within, rfl⟩ | ⟨seat, within, rfl⟩ | ⟨seat, within, rfl⟩ | ⟨seat, within, rfl⟩ | ⟨seat, past, rfl⟩
  · rw [drivesBit, fieldOf_settle settle]
    refine ⟨nofun, ?_⟩
    rintro (⟨j, -, rfl, -⟩ | ⟨seat, -, -, rfl | ⟨rfl, -⟩ | ⟨rfl, -⟩ | ⟨rfl, -⟩⟩) <;> omega
  · rw [drivesBit_number base f within, Bool.and_eq_true]
    refine ⟨fun drives => .inl ⟨j, within, rfl, drives⟩, ?_⟩
    rintro (⟨j', -, same, drives⟩ | ⟨seat, -, -, h | ⟨h, -⟩ | ⟨h, -⟩ | ⟨h, -⟩⟩)
    · obtain rfl : j = j' := by omega
      exact drives
    all_goals omega
  · rw [drivesBit_present base f within]
    refine ⟨fun present => .inr ⟨seat, within, present, .inl rfl⟩, ?_⟩
    rintro (⟨j, bound, h, -⟩ | ⟨seat', bound, present, h | ⟨h, -⟩ | ⟨h, -⟩ | ⟨h, -⟩⟩)
    case inr.inl =>
      obtain rfl : seat = seat' := by omega
      exact present
    all_goals omega
  · rw [drivesBit_late base f within, Bool.and_eq_true, beq_iff_eq]
    refine ⟨fun ⟨present, band⟩ => .inr ⟨seat, within, present, .inr (.inl ⟨rfl, band⟩)⟩, ?_⟩
    rintro (⟨j, bound, h, -⟩ | ⟨seat', bound, present, h | ⟨h, band⟩ | ⟨h, -⟩ | ⟨h, -⟩⟩)
    case inr.inr.inl =>
      obtain rfl : seat = seat' := by omega
      exact ⟨present, band⟩
    all_goals omega
  · rw [drivesBit_tight base f within, Bool.and_eq_true, beq_iff_eq]
    refine ⟨fun ⟨present, band⟩ => .inr ⟨seat, within, present, .inr (.inr (.inl ⟨rfl, band⟩))⟩, ?_⟩
    rintro (⟨j, bound, h, -⟩ | ⟨seat', bound, present, h | ⟨h, -⟩ | ⟨h, band⟩ | ⟨h, -⟩⟩)
    case inr.inr.inr.inl =>
      obtain rfl : seat = seat' := by omega
      exact ⟨present, band⟩
    all_goals omega
  · rw [drivesBit_steady base f within, Bool.and_eq_true, beq_iff_eq]
    refine ⟨fun ⟨present, band⟩ => .inr ⟨seat, within, present, .inr (.inr (.inr ⟨rfl, band⟩))⟩, ?_⟩
    rintro (⟨j, bound, h, -⟩ | ⟨seat', bound, present, h | ⟨h, -⟩ | ⟨h, -⟩ | ⟨h, band⟩⟩)
    case inr.inr.inr.inr =>
      obtain rfl : seat = seat' := by omega
      exact ⟨present, band⟩
    all_goals omega
  · have outside : decide (402 + seat < 530) = false := decide_eq_false (by omega)
    simp only [drivesBit, fieldOf_steady, outside, Bool.false_and]
    refine ⟨nofun, ?_⟩
    rintro (⟨j, bound, h, -⟩ | ⟨seat', bound, -, h | ⟨h, -⟩ | ⟨h, -⟩ | ⟨h, -⟩⟩) <;> omega

/-- What drives frame bit k: a 1 of the candidate of a part that still sends, a latch that is present, or the band of one (R72, R73). -/
theorem drivesBit_iff :
    drivesBit base f k = true ↔
      (∃ j, j < 16 ∧ k = 2 + j ∧ f.sending = true ∧ f.candidate.getLsbD (15 - j) = true) ∨
      ∃ (n : Nat) (x : Latch), f.latch[n]? = some x ∧ x.present = true ∧ base + n < 128 ∧
        (k = 18 + (base + n) ∨ (k = 146 + (base + n) ∧ x.band = .late) ∨ (k = 274 + (base + n) ∧ x.band = .tight) ∨
          (k = 402 + (base + n) ∧ x.band = .steady)) := by
  rw [drivesBit_iff_latchDrives]
  refine or_congr Iff.rfl ⟨?_, ?_⟩
  · rintro ⟨seat, within, drives⟩
    obtain ⟨n, x, found, rfl, present, place⟩ := (latchAt_iff (LatchDrives k seat) (fun empty => nomatch empty.1) base f.latch seat).mp drives
    exact ⟨n, x, found, present, within, place⟩
  · rintro ⟨n, x, found, present, within, place⟩
    exact ⟨base + n, within, (latchAt_iff (LatchDrives k (base + n)) (fun empty => nomatch empty.1) base f.latch (base + n)).mpr
      ⟨n, x, found, rfl, present, place⟩⟩

/-- A seat drives at most one band bit, and only with its Present bit (R32). -/
theorem bandBits_le_present {seat : Nat} (within : seat < 128) (base : Nat) (f : Frame) :
    (drivesBit base f (146 + seat)).toNat + (drivesBit base f (274 + seat)).toNat + (drivesBit base f (402 + seat)).toNat ≤
      (drivesBit base f (18 + seat)).toNat := by
  rw [drivesBit_late base f within, drivesBit_tight base f within, drivesBit_steady base f within, drivesBit_present base f within]
  rcases latchAt base f.latch seat with ⟨_ | _, _ | _ | _ | _ | _⟩ <;> decide

/-- Where a bit read is stored: a settle bit, a bit of the number at its weight, or a map's bit at its seat, as read and as driven (R75). -/
theorem storeBit_cases (v drove : Bool) (within : k < 530) {f' : Frame}
    (first : k = 0 → f' = { f with settle := (v, f.settle.2) }) (second : k = 1 → f' = { f with settle := (f.settle.1, v) })
    (number : ∀ j, j < 16 → k = 2 + j → f' = { f with
      number := if v then f.number ||| BitVec.twoPow 16 (15 - j) else f.number
      sending := f.sending && !(v && !f.candidate.getLsbD (15 - j)) })
    (present : ∀ seat, seat < 128 → k = 18 + seat → f' = { f with
      read.present := if v then f.read.present ||| BitVec.twoPow 128 seat else f.read.present
      driven.present := if drove then f.driven.present ||| BitVec.twoPow 128 seat else f.driven.present })
    (late : ∀ seat, seat < 128 → k = 146 + seat → f' = { f with
      read.late := if v then f.read.late ||| BitVec.twoPow 128 seat else f.read.late
      driven.late := if drove then f.driven.late ||| BitVec.twoPow 128 seat else f.driven.late })
    (tight : ∀ seat, seat < 128 → k = 274 + seat → f' = { f with
      read.tight := if v then f.read.tight ||| BitVec.twoPow 128 seat else f.read.tight
      driven.tight := if drove then f.driven.tight ||| BitVec.twoPow 128 seat else f.driven.tight })
    (steady : ∀ seat, seat < 128 → k = 402 + seat → f' = { f with
      read.steady := if v then f.read.steady ||| BitVec.twoPow 128 seat else f.read.steady
      driven.steady := if drove then f.driven.steady ||| BitVec.twoPow 128 seat else f.driven.steady }) :
    storeBit k v drove f = f' := by
  rcases frameBit_places k with
    settle | ⟨j, inside, rfl⟩ | ⟨seat, inside, rfl⟩ | ⟨seat, inside, rfl⟩ | ⟨seat, inside, rfl⟩ | ⟨seat, inside, rfl⟩ | ⟨seat, past, rfl⟩
  · rw [storeBit, fieldOf_settle settle]
    dsimp only
    split_ifs with zero
    · exact (first zero).symm
    · exact (second (by omega)).symm
  · rw [storeBit, fieldOf_number inside, number j inside rfl]
  · rw [storeBit, fieldOf_present inside, present seat inside rfl]; rfl
  · rw [storeBit, fieldOf_late inside, late seat inside rfl]; rfl
  · rw [storeBit, fieldOf_tight inside, tight seat inside rfl]; rfl
  · rw [storeBit, fieldOf_steady, steady seat inside rfl]; rfl
  · omega

end

section
variable {s : State} {a b c : Bool}

theorem bitDue_iff (s : State) : bitDue s = true ↔ s.line.state = .frame ∧ s.line.frameBit < 530 := by simp [bitDue]

theorem readBit_of_due (due : bitDue s = true) (noEcho : echoesWrong a b c s = false) :
    readBit a b c s = handBit s.line.frameBit (majority a b c) s.line.bitDrive { s with line := sampleBit a b c s.line } := by
  rw [readBit, if_pos due, noEcho, if_neg Bool.false_ne_true]

/-- The drive decision for the next bit of a census in progress (R54, R73). -/
theorem decideDrive_of_frame {f : Frame} (inProgress : s.census.frame = some f) :
    decideDrive s = { s with line.bitDrive := !s.line.echoStopped && drivesBit s.host.straps.seatBase f s.line.frameBit } := by
  rw [decideDrive, inProgress]

theorem decideDrive_of_none (none : s.census.frame = none) : decideDrive s = { s with line.bitDrive := false } := by
  rw [decideDrive, none]

end

/-- Settles O56: the bit handed over, stored in its field, and the next drive. -/
theorem frameBitIsStored : Obligations.FrameBitIsStored := by
  unfold Obligations.FrameBitIsStored
  refine ⟨fun base seat f within => bandBits_le_present within base f, ?_⟩
  rintro s a b c v sampled inFrame within hv l rfl
  have due : bitDue s = true := (bitDue_iff s).mpr ⟨inFrame, within⟩
  have value : majority a b c = v := (majority_iff a b c).trans hv.symm
  have act : exec (.frameBitRead a b c) s = .next (readBit a b c s) :=
    congrArg Host.Outcome.next (onLine_of_sampled sampled (readBit a b c))
  rw [act]
  refine ⟨fun none undriven => ?_, fun f f' inProgress echoed settled first second number present late tight steady => ?_⟩
  · have noEcho : echoesWrong a b c s = false := by rw [echoesWrong, undriven, Bool.false_and]
    rw [readBit_of_due due noEcho, handBit]
    simp only [none]
    exact congrArg Host.Outcome.next (decideDrive_of_none (s := { s with line := sampleBit a b c s.line }) none)
  · have noEcho : echoesWrong a b c s = false := by
      rcases echoed with undriven | dominant
      · rw [echoesWrong, undriven, Bool.false_and]
      · rw [echoesWrong, value, dominant, Bool.not_true, Bool.and_false]
    have goesOn : ¬ (s.line.frameBit < 2 ∧ v = true) := by
      rintro ⟨settle, dominant⟩
      rcases settled with past | recessive
      · omega
      · rw [recessive] at dominant; cases dominant
    have stored := storeBit_cases v s.line.bitDrive within first second number present late tight steady
    have handed : readBit a b c s = decideDrive { s with line := sampleBit a b c s.line, census.frame := some f' } := by
      rw [readBit_of_due due noEcho, handBit, value]
      simp only [inProgress, if_neg goesOn, stored]
    rw [handed, decideDrive_of_frame (s := { s with line := sampleBit a b c s.line, census.frame := some f' }) rfl]
    refine ⟨_, !s.line.echoStopped && drivesBit s.host.straps.seatBase f' (s.line.frameBit + 1), rfl, rfl, fun idle => ?_, ?_⟩
    · exact ⟨shareDriven_idle false idle, shareDriven_idle true idle⟩
    · rw [Bool.and_eq_true, Bool.not_eq_true', drivesBit_iff]

end Sys2Proof.Machine
end

section
/-! PROOFS. A stuck line, an echo fault and a dominant settle bit: what they capture, and the census they abandon. -/

set_option Elab.async false

namespace Sys2Proof.Machine

section
variable {s : State}

/-- A capture: the record where it was empty, and the further-faults flag where it was not (R171). -/
theorem capture_eq (kind : FaultKind) (outlet : Option Nat) (value : Nat) (s : State) :
    capture kind outlet value s = { s with
      host.firstFault := some (s.host.firstFault.getD ⟨kind, outlet, s.census.number, s.census.windowIndex, value⟩)
      host.furtherFaults := s.host.furtherFaults || s.host.firstFault.isSome } := by
  rcases h : s with ⟨⟨straps, profile, events, mask, _ | r, furtherFaults, response, resetHeld, ignoreTransaction⟩, _, _, _, _, _, _, _, _⟩
    <;> simp [capture]

theorem missPeriod_of_not (noEntry : reachesThree s = false) : missPeriod s = countMissed s := by
  rcases missPeriod_cases s with ⟨-, h⟩ | ⟨entry, -⟩
  · exact h
  · rw [noEntry] at entry; cases entry

theorem missPeriod_of_entry (entry : reachesThree s = true) : missPeriod s = enterIslanded (countMissed s) := by
  rcases missPeriod_cases s with ⟨noEntry, -⟩ | ⟨-, h⟩
  · rw [noEntry] at entry; cases entry
  · exact h

theorem reachesThree_eq_false (few : s.census.missed ≠ 2 ∨ s.census.participation = .offline ∨ s.census.participation = .islanded) :
    reachesThree s = false := by
  rw [Bool.eq_false_iff, ne_eq, reachesThree_iff]
  rintro ⟨two, counting⟩
  rcases few with h | h | h
  · exact h two
  all_goals rw [h] at counting; rcases counting with c | c <;> cases c

/-- A missed period that is not the third one counts alone (R69). -/
theorem missPeriod_of_few (few : s.census.missed ≠ 2 ∨ s.census.participation = .offline ∨ s.census.participation = .islanded) :
    missPeriod s = { s with
      census.missed := if s.census.participation = .offline then s.census.missed else min 3 (s.census.missed + 1) } := by
  rw [missPeriod_of_not (reachesThree_eq_false few), countMissed_eq]

theorem missPeriod_events (s : State) :
    (missPeriod s).host.events = s.host.events ∨ (missPeriod s).host.events = s.host.events ||| eventFlag .islanded := by
  rcases missPeriod_cases s with ⟨-, h⟩ | ⟨-, h⟩ <;> rw [h]
  · exact .inl (by rw [countMissed_eq])
  · exact .inr (by rw [enterIslanded_eq, countMissed_eq])

/-- An event that is raised already is not lost by a missed period. -/
theorem missPeriod_flagged {e : Event} (raised : Flagged s e) : Flagged (missPeriod s) e := by
  rw [Flagged, isRaised] at raised ⊢
  rcases missPeriod_events s with h | h <;> rw [h]
  · exact raised
  · rw [BitVec.getLsbD_or, raised, Bool.true_or]

theorem raise_flagged {e : Event} (bit : eventBit e < 32) (s : State) : Flagged (raise e s) e := flagged_of_raised bit rfl

theorem raise_keepsFlagged {e e' : Event} (raised : Flagged s e) : Flagged (raise e' s) e := by
  have kept : (s.host.events ||| eventFlag e').getLsbD (eventBit e) = true := by
    rw [BitVec.getLsbD_or, show s.host.events.getLsbD (eventBit e) = true from raised, Bool.true_or]
  exact kept

/-- An abandonment leaves everything but the census, the drive of the next bit, the outlets' records and the events (R80). -/
theorem abandon_eq (s : State) :
    abandon s = { s with
      line.bitDrive := false
      census := abandonedCensus s.census
      outlets := (abandon s).outlets
      host.events := (abandon s).host.events } := by
  rcases abandon_cases s with ⟨none, h⟩ | ⟨some, h⟩ <;> rw [h, abandonedCensus]
  · rw [if_pos none]
  · rw [if_neg some, missPeriod_eq]; rfl

theorem abandon_of_none (none : s.census.frame = none) : abandon s = { s with line.bitDrive := false } := by
  rw [abandon, none]

theorem abandon_of_frame (inProgress : s.census.frame ≠ none) :
    abandon s = missPeriod (raise .abandoned { s with census.frame := none, line.bitDrive := false }) := by
  rcases abandon_cases s with ⟨none, -⟩ | ⟨-, h⟩
  · exact absurd none inProgress
  · exact h

theorem abandon_outlets (few : s.census.frame = none ∨ s.census.missed < 2) : (abandon s).outlets = s.outlets := by
  by_cases none : s.census.frame = none
  · rw [abandon_of_none none]
  · have below : s.census.missed < 2 := few.resolve_left none
    rw [abandon_of_frame none, missPeriod_of_few (.inl (by show s.census.missed ≠ 2; omega))]
    rfl

theorem abandon_flagged (inProgress : s.census.frame ≠ none) : Flagged (abandon s) .abandoned := by
  rw [abandon_of_frame inProgress]
  exact missPeriod_flagged (raise_flagged (by decide) _)

theorem abandonedCensus_of_none {e : CensusEngine} (none : e.frame = none) : abandonedCensus e = e := if_pos none

/-- The census after an abandonment that is taken: the frame dropped and a period missed, the number and the summary as they were. -/
theorem abandonedCensus_of_frame {e : CensusEngine} (inProgress : e.frame ≠ none) : abandonedCensus e = missedCensus { e with frame := none } :=
  if_neg inProgress

theorem abandonedCensus_number (e : CensusEngine) : (abandonedCensus e).number = e.number := by
  unfold abandonedCensus; split <;> rfl

theorem abandonedCensus_summary (e : CensusEngine) : (abandonedCensus e).summary = e.summary := by
  unfold abandonedCensus; split <;> rfl

theorem abandonedCensus_windowIndex (e : CensusEngine) : (abandonedCensus e).windowIndex = e.windowIndex := by
  unfold abandonedCensus; split <;> rfl

theorem abandonedCensus_missed {e : CensusEngine} (inProgress : e.frame ≠ none) (part : e.participation ≠ .offline) :
    (abandonedCensus e).missed = min 3 (e.missed + 1) := by
  rw [abandonedCensus_of_frame inProgress]
  exact if_neg part

/-- The 600th bit-time of a run (R44, R58): the entry into STUCK, with every field that it leaves. -/
theorem goStuck_eq {r : Run} (run : s.line.run = some r) (notStuck : s.line.state ≠ .stuck) :
    goStuck s = { s with
      line := enterStuck s.line
      census := abandonedCensus s.census
      outlets := (abandon { s with line := enterStuck s.line }).outlets
      host.events := (abandon { s with line := enterStuck s.line }).host.events ||| eventFlag .stuck
      host.firstFault := some (s.host.firstFault.getD ⟨.lineStuck, none, s.census.number, s.census.windowIndex, r.leadBit.getD 65535⟩)
      host.furtherFaults := s.host.furtherFaults || s.host.firstFault.isSome } := by
  rcases goStuck_cases s with ⟨-, none | stuck⟩ | ⟨r', run', -, h⟩
  · rw [none] at run; cases run
  · exact absurd stuck notStuck
  · obtain rfl := Option.some.inj (run.symm.trans run')
    rw [h, capture_eq, raise, abandon_eq]
    dsimp only
    rw [abandonedCensus_number, abandonedCensus_windowIndex]
    rfl

theorem goStuck_of_stuck (stuck : s.line.state = .stuck) : goStuck s = s := by
  rcases goStuck_cases s with ⟨h, -⟩ | ⟨r, -, notStuck, -⟩
  · exact h
  · exact absurd stuck notStuck

end

/-- Settles O54: the entry into STUCK field by field. -/
theorem stuckLineReleasesTheDriver : Obligations.StuckLineReleasesTheDriver := by
  unfold Obligations.StuckLineReleasesTheDriver
  intro s r sampled run
  have act : exec .lineStuck s = .next (goStuck s) := congrArg Host.Outcome.next (onLine_of_sampled sampled goStuck)
  rw [act]
  refine ⟨fun notStuck => ⟨_, rfl, ?_⟩, fun stuck => by rw [goStuck_of_stuck stuck]⟩
  have abandonedFlag (inProgress : s.census.frame ≠ none) : Flagged (goStuck s) .abandoned := by
    rw [goStuck_eq run notStuck]
    exact raise_keepsFlagged (e' := .stuck) (abandon_flagged (s := { s with line := enterStuck s.line }) inProgress)
  have outlets (few : s.census.frame = none ∨ s.census.missed < 2) : (goStuck s).outlets = s.outlets := by
    rw [goStuck_eq run notStuck]
    exact abandon_outlets (s := { s with line := enterStuck s.line }) few
  refine ⟨?_, ?_, ?_, ?_, ?_, ?_, ?_, ?_, ?_, ?_, ?_, outlets, ?_, fun inProgress => ⟨abandonedFlag inProgress, ?_⟩⟩
  all_goals rw [goStuck_eq run notStuck]
  · rfl
  · exact fun bitOver => by cases bitOver <;> rfl
  · exact flagged_of_raised (by decide) rfl
  · exact fun empty => by rw [empty]; rfl
  · exact abandonedCensus_frame _
  · exact abandonedCensus_number _
  · exact abandonedCensus_summary _
  · rfl
  · exact fun none => abandonedCensus_of_none none
  · exact fun part => abandonedCensus_missed inProgress part

section
variable {s : State} {a b c : Bool}

theorem echoesWrong_iff : echoesWrong a b c s = true ↔ s.line.bitDrive = true ∧ majority a b c = false := by simp [echoesWrong]

/-- An echo fault in a frame (R56): the line released, the drive stopped, and a census in progress abandoned. -/
theorem readBit_of_echo (due : bitDue s = true) (echo : echoesWrong a b c s = true) :
    readBit a b c s = takeEchoFault s.line.frameBit { s with line := sampleBit a b c s.line } := by
  rw [readBit, if_pos due, if_pos echo]

/-- The state in which an echo fault's census is abandoned. -/
def echoStopped (a b c : Bool) (s : State) : State :=
  { s with line := { sampleBit a b c s.line with echoStopped := true, bitDrive := false, bitHeld := false } }

theorem takeEchoFault_eq :
    takeEchoFault s.line.frameBit { s with line := sampleBit a b c s.line } = { s with
      line := (echoStopped a b c s).line
      census := abandonedCensus s.census
      outlets := (abandon (echoStopped a b c s)).outlets
      host.events := (abandon (echoStopped a b c s)).host.events
      host.firstFault := some (s.host.firstFault.getD ⟨.driver, none, s.census.number, s.census.windowIndex, s.line.frameBit⟩)
      host.furtherFaults := s.host.furtherFaults || s.host.firstFault.isSome } := by
  have stopped : takeEchoFault s.line.frameBit { s with line := sampleBit a b c s.line } =
      capture .driver none s.line.frameBit (abandon (echoStopped a b c s)) := rfl
  rw [stopped, capture_eq, abandon_eq]
  dsimp only [echoStopped]
  rw [abandonedCensus_number, abandonedCensus_windowIndex]

/-- A dominant settle bit abandons the census in progress (R75, R80). -/
theorem readBit_of_settle {f : Frame} (due : bitDue s = true) (settle : s.line.frameBit < 2) (undriven : s.line.bitDrive = false)
    (dominant : majority a b c = true) (inProgress : s.census.frame = some f) :
    readBit a b c s = abandon { s with
      line := sampleBit a b c s.line
      census.frame := some (storeBit s.line.frameBit true false f) } := by
  have noEcho : echoesWrong a b c s = false := by rw [echoesWrong, undriven, Bool.false_and]
  rw [readBit_of_due due noEcho, handBit, dominant, undriven]
  simp only [inProgress, settle, and_self, if_true]

theorem settleBreaks_iff :
    settleBreaks a b c s = true ↔ bitDue s = true ∧ s.line.frameBit < 2 ∧ s.census.frame.isSome = true ∧ majority a b c = true := by
  simp [settleBreaks, and_assoc]

/-- What a standing request makes of a line on which nothing is driven any more, FREE or not (log entry 9). -/
theorem serve_idle (sampled : LineSampled s) {l : Transceiver}
    (none : s.line.state ≠ .free ∨ (s.line.startRequest = false ∧ (s.feeder.hushPending = false ∨ s.line.holdOffMs ≠ 0)) →
      l = { s.line with drive := .idle })
    (hush : s.line.state = .free → s.feeder.hushPending = true → s.line.holdOffMs = 0 →
      l = { s.line with drive := .hush, holdOffMs := 2000 })
    (start : s.line.state = .free → s.feeder.hushPending = false ∨ s.line.holdOffMs ≠ 0 → s.line.startRequest = true →
      l = { s.line with drive := .startPulse false, startRequest := false }) :
    serve { s with line.drive := .idle } = { s with line := l } := by
  by_cases free : s.line.state = .free
  · exact serve_ends sampled free (hush free) (start free) fun blocked request => none (.inr ⟨request, blocked⟩)
  · rw [serve_of_not_free (s := { s with line.drive := .idle }) free, none (.inl free)]

end

/-- Settles O55: the two rows in a frame, and the pulses by what is driven. -/
theorem echoAndSettleFaults : Obligations.EchoAndSettleFaults := by
  unfold Obligations.EchoAndSettleFaults
  intro s sampled
  have read (a b c : Bool) : exec (.frameBitRead a b c) s = .next (readBit a b c s) :=
    congrArg Host.Outcome.next (onLine_of_sampled sampled (readBit a b c))
  have echoRow (a b c : Bool) : exec (.echoFault a b c) s =
      .next (if bitDue s && echoesWrong a b c s then readBit a b c s else s) :=
    congrArg Host.Outcome.next (onLine_of_sampled sampled fun s => if bitDue s && echoesWrong a b c s then readBit a b c s else s)
  have settleRow (a b c : Bool) : exec (.settleFault a b c) s = .next (if settleBreaks a b c s then readBit a b c s else s) :=
    congrArg Host.Outcome.next (onLine_of_sampled sampled fun s => if settleBreaks a b c s then readBit a b c s else s)
  have pulse : exec .echoFaultPulse s = .next (echoPulse s) := congrArg Host.Outcome.next (onLine_of_sampled sampled echoPulse)
  refine ⟨fun a b c f inFrame within drives recessive inProgress => ?_, fun a b c none => ?_,
    fun a b c f inFrame settle undriven dominant inProgress => ?_, fun a b c none => ?_,
    fun h l value hh idle hush start => ⟨fun drive hv => ?_, fun drive hv => ?_, fun drive hv few => ?_⟩, fun drive => ?_⟩
  · have due := (bitDue_iff s).mpr ⟨inFrame, within⟩
    have echo : echoesWrong a b c s = true := echoesWrong_iff.mpr ⟨drives, recessive⟩
    have some_ : s.census.frame ≠ none := by rw [inProgress]; exact nofun
    refine ⟨readBit a b c s, ?_, read a b c, ?_⟩
    · rw [echoRow, due, echo]; rfl
    · rw [readBit_of_echo due echo, takeEchoFault_eq]
      exact ⟨rfl, abandonedCensus_frame _, abandonedCensus_number _, abandon_flagged (s := echoStopped a b c s) some_, rfl, rfl, rfl, rfl,
        fun few => abandon_outlets (s := echoStopped a b c s) (.inr few), fun part => abandonedCensus_missed some_ part,
        fun empty => by rw [empty]; rfl⟩
  · have noEcho : echoesWrong a b c s = false := by
      rcases none with undriven | dominant
      · rw [echoesWrong, undriven, Bool.false_and]
      · rw [echoesWrong, dominant, Bool.not_true, Bool.and_false]
    rw [echoRow, noEcho, Bool.and_false, if_neg Bool.false_ne_true]
  · have due := (bitDue_iff s).mpr ⟨inFrame, by omega⟩
    have breaks : settleBreaks a b c s = true := settleBreaks_iff.mpr ⟨due, settle, by rw [inProgress]; rfl, dominant⟩
    refine ⟨readBit a b c s, by rw [settleRow, if_pos breaks], read a b c, ?_⟩
    have some_ : ({ s with
        line := sampleBit a b c s.line, census.frame := some (storeBit s.line.frameBit true false f) } : State).census.frame ≠ none := nofun
    rw [readBit_of_settle due settle undriven dominant inProgress]
    have flagged := abandon_flagged some_
    have outlets := abandon_outlets (s := { s with
      line := sampleBit a b c s.line, census.frame := some (storeBit s.line.frameBit true false f) })
    rw [abandon_eq] at flagged ⊢
    rw [abandonedCensus_of_frame some_] at flagged ⊢
    exact ⟨rfl, rfl, undriven, rfl, inFrame, rfl, rfl, flagged, rfl, rfl, rfl, rfl, fun few => outlets (.inr few), fun part => if_neg part⟩
  · have notBreaks : ¬ settleBreaks a b c s = true := by
      rw [settleBreaks_iff]
      rintro ⟨-, settle, -, dominant⟩
      rcases none with past | recessive
      · omega
      · rw [recessive] at dominant; cases dominant
    rw [settleRow, if_neg notBreaks]
  · have ended : echoPulse s = serve { s with line.drive := .idle, host := h } := by
      rw [echoPulse, drive, hh, ← hv]
      exact congrArg serve (capture_eq .driver none value { s with line.drive := .idle })
    rw [pulse, ended, serve_idle (s := { s with host := h }) (by rw [hh]; exact sampled) idle hush start]
  · have ended : echoPulse s = serve { s with line.drive := .idle, host := h } := by
      rw [echoPulse, drive, hh, ← hv]
      exact congrArg serve (capture_eq .driver none value { s with line.drive := .idle })
    rw [pulse, ended, serve_idle (s := { s with host := h }) (by rw [hh]; exact sampled) idle hush start]
  · have ended : echoPulse s = serve { s with
        line.drive := .idle
        host := h
        census.missed := if s.census.participation = .offline then s.census.missed else min 3 (s.census.missed + 1) } := by
      have captured := capture_eq .driver none value { s with line.drive := .idle }
      rw [echoPulse, drive, hh, ← hv]
      dsimp only
      rw [captured]
      exact congrArg serve (missPeriod_of_few few)
    rw [pulse, ended]
    exact congrArg Host.Outcome.next (serve_idle (s := { s with
      host := h
      census.missed := if s.census.participation = .offline then s.census.missed else min 3 (s.census.missed + 1) })
      (by rw [hh]; exact sampled) idle hush start)
  · rw [pulse, echoPulse, drive]

end Sys2Proof.Machine
end

section
/-! PROOFS. What a recomputation makes of one outlet, field by field; and the ends of runs that are no start pulse. -/

set_option Elab.async false

namespace Sys2Proof.Machine

section
variable (o : Outlet) (mayRaise : Bool) (t : Nat)

/-- An offer falls to its target, and does nothing else (R142). -/
theorem giveTarget_offer :
    (giveTarget mayRaise o t).session.offer = min o.session.offer (giveTarget mayRaise o t).share.target := by
  unfold giveTarget
  rcases lowerOffer_cases { o with share.target := if mayRaise then t else min t o.share.target } with
    ⟨h, within, -⟩ | ⟨h, above, -⟩ | ⟨h, zero, -⟩ <;> rw [h]
  · exact (Nat.min_eq_left within).symm
  · exact (Nat.min_eq_right above.le).symm
  · rw [zero]; exact (Nat.min_zero _).symm

/-- A CHARGING session without a target goes PAUSED, and no other session changes its state (R6). -/
theorem giveTarget_state_eq :
    (giveTarget mayRaise o t).session.state =
      if o.session.state = .charging ∧ (giveTarget mayRaise o t).share.target = 0 then .paused else o.session.state := by
  unfold giveTarget
  rcases lowerOffer_cases { o with share.target := if mayRaise then t else min t o.share.target } with
    ⟨h, -, some⟩ | ⟨h, -, some⟩ | ⟨h, zero, charging⟩ <;> rw [h]
  · exact (if_neg fun both => some both.1 both.2).symm
  · exact (if_neg fun both => some both.1 both.2).symm
  · exact (if_pos ⟨charging, zero⟩).symm

theorem giveTarget_false_target : (giveTarget false o t).share.target = min t o.share.target := by rw [giveTarget_share]; rfl

end

section
variable {p : Profile} {part : Participation} {curtail : Nat} {os : List Outlet} {n : Nat} {o o' : Outlet}

/-- The target of an outlet after a recomputation that may not raise it (R141). -/
theorem retarget_target (found : os[n]? = some o) (found' : (retarget p part curtail false os)[n]? = some o') :
    o'.share.target = min (cappedTarget p part curtail os n) o.share.target := by
  rw [retarget_getElem?, found] at found'
  obtain rfl := Option.some.inj found'
  rw [giveTarget_false_target, cappedTarget]

/-- Raw targets that keep within Lp stand (R140). -/
theorem cappedTarget_of_within (within : (os.map (tableTarget p part curtail)).sum ≤ p.postLimit) (found : os[n]? = some o) :
    cappedTarget p part curtail os n = tableTarget p part curtail o := by
  have raw : os.map (rawTarget p part curtail) = os.map (tableTarget p part curtail) :=
    List.map_congr_left fun o _ => rawTarget_eq_tableTarget p part curtail o
  rw [cappedTarget, cappedTargets, raw, postCap_of_within within, List.getD_eq_getElem?_getD, List.getElem?_map, found]
  rfl

theorem cappedTarget_le (p : Profile) (part : Participation) (curtail : Nat) (found : os[n]? = some o) :
    cappedTarget p part curtail os n ≤ tableTarget p part curtail o :=
  rawTarget_eq_tableTarget p part curtail o ▸ cappedTargets_le p part curtail os n o found

/-- A recomputation that may not raise a target, at one outlet: what it makes of every field (R6, R141, R142). -/
theorem retarget_lowered (found : os[n]? = some o) (found' : (retarget p part curtail false os)[n]? = some o') :
    o'.share = { o.share with target := o'.share.target } ∧
    o'.share.target ≤ min o.share.target (tableTarget p part curtail o) ∧
    ((os.map (tableTarget p part curtail)).sum ≤ p.postLimit → o'.share.target = min o.share.target (tableTarget p part curtail o)) ∧
    o'.session = { o.session with state := o'.session.state, offer := o'.session.offer } ∧
    o'.session.offer = min o.session.offer o'.share.target ∧
    o'.session.state = (if o.session.state = .charging ∧ o'.share.target = 0 then .paused else o.session.state) ∧
    o'.meter = o.meter := by
  have target := retarget_target found found'
  have capped := cappedTarget_le p part curtail found
  have view := found'
  rw [retarget_getElem?, found] at view
  obtain rfl := Option.some.inj view
  refine ⟨by rw [giveTarget_share], by omega, fun within => ?_, ?_, giveTarget_offer _ _ _, giveTarget_state_eq _ _ _, giveTarget_meter _ _ _⟩
  · rw [target, cappedTarget_of_within within found, Nat.min_comm]
  · refine (giveTarget_session _ _ _).trans ?_
    simp

end

/-! O50: the ends of the other runs. -/

theorem classOf_of_glitch {length : Nat} (to5 : length ≤ 5) : classOf length = .glitch := if_pos to5

theorem classOf_of_malformed {length : Nat} (range : (12 ≤ length ∧ length ≤ 19) ∨ (41 ≤ length ∧ length ≤ 599)) :
    classOf length = .malformed := by
  rw [classOf, if_neg (by omega), if_neg (by omega)]
  rcases range with ⟨-, to19⟩ | ⟨from41, to599⟩
  · exact if_pos to19
  · rw [if_neg (by omega), if_neg (by omega), if_pos to599]

theorem classOf_of_hush {length : Nat} (from20 : 20 ≤ length) (to40 : length ≤ 40) : classOf length = .hush := by
  rw [classOf, if_neg (by omega), if_neg (by omega), if_neg (by omega), if_pos to40]

theorem classOf_of_start {length : Nat} (from6 : 6 ≤ length) (to11 : length ≤ 11) : classOf length = .start := by
  rw [classOf, if_neg (by omega), if_pos to11]

theorem classOf_of_stuck {length : Nat} (from600 : 600 ≤ length) : classOf length = .stuck := by
  rw [classOf, if_neg (by omega), if_neg (by omega), if_neg (by omega), if_neg (by omega), if_neg (by omega)]

theorem classOf_ne_stuck {length : Nat} (short : length < 600) : classOf length ≠ .stuck := by
  have within : length ≤ 599 := by omega
  unfold classOf
  split_ifs <;> exact nofun

section
variable {s : State} {r : Run} {samples : Nat}

theorem endPulse_stuck (boundaryFirst : Bool) (long : 600 ≤ samples / 16) : endPulse r samples boundaryFirst s = endStuckRun s := by
  unfold endPulse
  rw [runLength, classOf_of_stuck long]
  cases r.classifiable <;> rfl

/-- An unclassifiable run ends without a class (R42, R46). -/
theorem endPulse_unclassifiable (boundaryFirst : Bool) (blind : r.classifiable = false) (short : samples / 16 < 600) :
    endPulse r samples boundaryFirst s = { s with line := settleLine s.line } := by
  unfold endPulse
  rw [blind]
  cases h : classOf (runLength samples)
  case stuck => exact absurd h (classOf_ne_stuck short)
  all_goals rfl

/-- A glitch or a malformed pulse hands nothing over (R46, R49). -/
theorem endPulse_noClass (boundaryFirst : Bool) (classifiable : r.classifiable = true)
    (length : samples / 16 ≤ 5 ∨ (12 ≤ samples / 16 ∧ samples / 16 ≤ 19) ∨ (41 ≤ samples / 16 ∧ samples / 16 ≤ 599)) :
    endPulse r samples boundaryFirst s = reportAttempt r.droveStart { s with line := settleLine s.line } := by
  rcases length with to5 | malformed
  · simp only [endPulse, classifiable, runLength, classOf_of_glitch to5, if_true]
  · simp only [endPulse, classifiable, runLength, classOf_of_malformed malformed, if_true]

theorem endPulse_hush (boundaryFirst : Bool) (classifiable : r.classifiable = true) (from20 : 20 ≤ samples / 16) (to40 : samples / 16 ≤ 40) :
    endPulse r samples boundaryFirst s = reportAttempt r.droveStart (handHush r { s with line := settleLine s.line }) := by
  simp only [endPulse, classifiable, runLength, classOf_of_hush from20 to40, if_true]

/-- A failed start attempt that is not the third missed period counts alone (R62, R69). -/
theorem reportAttempt_of_few {drove : Bool}
    (few : drove = false ∨ s.census.missed ≠ 2 ∨ s.census.participation = .offline ∨ s.census.participation = .islanded) :
    reportAttempt drove s = { s with
      census.missed := if drove = true ∧ s.census.participation ≠ .offline then min 3 (s.census.missed + 1) else s.census.missed } := by
  cases drove with
  | false => simp [reportAttempt]
  | true =>
    have notThird := few.resolve_left nofun
    rw [reportAttempt, if_pos rfl, missPeriod_of_few notThird]
    by_cases offline : s.census.participation = .offline <;> simp [offline]

/-- A hush heard under a profile (R126): every B goes to 0, the curtail count to 3, and the targets follow. -/
theorem hearHush_of_loaded {p : Profile} (loaded : s.host.profile = some p) :
    hearHush s = { s with
      feeder.hushPending := false
      shares.curtail := 3
      host.events := s.host.events ||| eventFlag .hush
      outlets := retarget p s.census.participation 3 false (s.outlets.map zeroBorrow) } := by
  rw [hearHush, if_pos (by rw [loaded]; rfl), takeOrder_zeroAndCurtail (s := { s with feeder.hushPending := false }) loaded]
  rfl

theorem hearHush_of_unloaded (unloaded : s.host.profile = none) : hearHush s = raise .hush s := by
  rw [hearHush, unloaded]; rfl

theorem trailEdge_of_pulse (samples : Nat) (boundaryFirst : Bool) (run : s.line.run = some r)
    (outside : s.line.state = .pulse ∨ s.line.state = .settling) :
    trailEdge samples boundaryFirst s = endPulse r samples boundaryFirst s := by
  rcases outside with state | state <;> simp only [trailEdge, run, state]

theorem trailEdge_of_frame (samples : Nat) (boundaryFirst : Bool) (run : s.line.run = some r) (inFrame : s.line.state = .frame) :
    trailEdge samples boundaryFirst s = endFrameRun samples s := by
  simp only [trailEdge, run, inFrame]

theorem trailEdge_of_stuck (samples : Nat) (boundaryFirst : Bool) (run : s.line.run = some r) (stuck : s.line.state = .stuck) :
    trailEdge samples boundaryFirst s = { s with line := endRun s.line } := by
  simp only [trailEdge, run, stuck]

theorem endFrameRun_of_short (short : samples / 16 < 600) : endFrameRun samples s = { s with line := endRun s.line } :=
  if_neg (classOf_ne_stuck short)

theorem endFrameRun_of_long (long : 600 ≤ samples / 16) : endFrameRun samples s = endStuckRun s := if_pos (classOf_of_stuck long)

end

/-- Settles O50: the ends of a run by line state, class and length. -/
theorem otherRunsEndInSettling : Obligations.OtherRunsEndInSettling := by
  unfold Obligations.OtherRunsEndInSettling
  rintro s r samples boundaryFirst l e sampled run rfl rfl
  have act : exec (.trailingEdge samples boundaryFirst) s = .next (trailEdge samples boundaryFirst s) :=
    congrArg Host.Outcome.next (onLine_of_sampled sampled (trailEdge samples boundaryFirst))
  have stuckAct : exec .lineStuck s = .next (goStuck s) := congrArg Host.Outcome.next (onLine_of_sampled sampled goStuck)
  rw [act, stuckAct]
  refine ⟨fun state => ?_, fun state long => ⟨goStuck s, rfl, goStuck_state run, ?_⟩, fun state blind short => ?_,
    fun state classifiable few => ⟨fun length => ?_, fun from20 to40 => ⟨fun complete => ?_, fun foreign unloaded => ?_,
      fun p zeroed foreign loaded hz => ?_⟩⟩⟩
  · rcases state with stuck | ⟨inFrame, short⟩
    · rw [trailEdge_of_stuck samples boundaryFirst run stuck]; rfl
    · rw [trailEdge_of_frame samples boundaryFirst run inFrame, endFrameRun_of_short short]; rfl
  · have ended : trailEdge samples boundaryFirst s = endStuckRun s := by
      rcases state with inFrame | outside
      · rw [trailEdge_of_frame samples boundaryFirst run inFrame, endFrameRun_of_long long]
      · rw [trailEdge_of_pulse samples boundaryFirst run outside, endPulse_stuck boundaryFirst long]
    rw [ended]; rfl
  · rw [trailEdge_of_pulse samples boundaryFirst run state, endPulse_unclassifiable boundaryFirst blind short]; rfl
  · rw [trailEdge_of_pulse samples boundaryFirst run (.inl state), endPulse_noClass boundaryFirst classifiable length,
      reportAttempt_of_few (s := { s with line := settleLine s.line }) few]
    rfl
  · rw [trailEdge_of_pulse samples boundaryFirst run (.inl state), endPulse_hush boundaryFirst classifiable from20 to40, handHush,
      if_pos complete, reportAttempt_of_few (s := { s with line := settleLine s.line, feeder.hushPending := false }) few]
    rfl
  · rw [trailEdge_of_pulse samples boundaryFirst run (.inl state), endPulse_hush boundaryFirst classifiable from20 to40, handHush,
      if_neg (by rw [foreign]; exact Bool.false_ne_true), hearHush_of_unloaded (s := { s with line := settleLine s.line }) unloaded,
      reportAttempt_of_few (s := raise .hush { s with line := settleLine s.line }) few]
    rfl
  · subst hz
    have heard : trailEdge samples boundaryFirst s = { s with
        line := settleLine s.line
        census.missed := if r.droveStart = true ∧ s.census.participation ≠ .offline then min 3 (s.census.missed + 1) else s.census.missed
        feeder.hushPending := false
        shares.curtail := 3
        host.events := s.host.events ||| eventFlag .hush
        outlets := retarget p s.census.participation 3 false (s.outlets.map zeroBorrow) } := by
      rw [trailEdge_of_pulse samples boundaryFirst run (.inl state), endPulse_hush boundaryFirst classifiable from20 to40, handHush,
        if_neg (by rw [foreign]; exact Bool.false_ne_true), hearHush_of_loaded (s := { s with line := settleLine s.line }) loaded,
        reportAttempt_of_few (by exact few)]
    refine ⟨_, rfl, heard, ?_, fun n o z o' found foundZ found' => ?_⟩
    · rw [heard]
      exact (retarget_length _ _ _ _ _).trans (List.length_map _)
    · rw [heard] at found'
      have zero : z = zeroBorrow o := by
        rw [List.getElem?_map, found] at foundZ
        exact (Option.some.inj foundZ).symm
      subst zero
      exact retarget_lowered foundZ found'

end Sys2Proof.Machine
end

section
/-! PROOFS. The third missed period: where the entry into ISLANDED comes about, and what it leaves at each of its causes. -/

set_option Elab.async false

namespace Sys2Proof.Machine

section
variable {s : State}

/-! Where the count does not reach 3, the participation stands. -/

/-- The missed-period count is not about to take the part to ISLANDED (R69, R70). -/
def NotThird (e : CensusEngine) : Prop := e.missed ≠ 2 ∨ e.participation = .offline ∨ e.participation = .islanded

theorem missedCensus_participation {e : CensusEngine} (few : NotThird e) : (missedCensus e).participation = e.participation := by
  refine if_neg ?_
  rintro ⟨two, counting⟩
  rcases few with h | h | h
  · exact h two
  all_goals rw [h] at counting; rcases counting with c | c <;> cases c

theorem abandonedCensus_participation {e : CensusEngine} (few : e.frame = none ∨ NotThird e) :
    (abandonedCensus e).participation = e.participation := by
  by_cases none : e.frame = none
  · rw [abandonedCensus_of_none none]
  · rw [abandonedCensus_of_frame none]
    exact missedCensus_participation (e := { e with frame := Option.none }) (few.resolve_left none)

theorem goStuck_participation (few : s.line.run = none ∨ s.line.state = .stuck ∨ s.census.frame = none ∨ NotThird s.census) :
    (goStuck s).census.participation = s.census.participation := by
  rcases goStuck_cases s with ⟨h, -⟩ | ⟨r, run, notStuck, -⟩
  · rw [h]
  · rcases few with none | stuck | few
    · rw [none] at run; cases run
    · exact absurd stuck notStuck
    · rw [goStuck_eq run notStuck]
      exact abandonedCensus_participation few

theorem reportAttempt_participation {drove : Bool} (few : drove = false ∨ NotThird s.census) :
    (reportAttempt drove s).census.participation = s.census.participation := by
  rw [reportAttempt_of_few few]

theorem endStuckRun_participation (few : s.line.run = none ∨ s.line.state = .stuck ∨ s.census.frame = none ∨ NotThird s.census) :
    (endStuckRun s).census.participation = s.census.participation := goStuck_participation few

/-- The end of a run outside FRAME leaves the participation, but where it is a failed start attempt or a stuck line in a census (R46, R69). -/
theorem endPulse_participation {r : Run} {samples : Nat} (boundaryFirst : Bool)
    (attempt : r.classifiable = false ∨ r.droveStart = false ∨ (6 ≤ samples / 16 ∧ samples / 16 ≤ 11) ∨ 600 ≤ samples / 16 ∨ NotThird s.census)
    (stuck : samples / 16 < 600 ∨ s.census.frame = none ∨ NotThird s.census) :
    (endPulse r samples boundaryFirst s).census.participation = s.census.participation := by
  by_cases long : 600 ≤ samples / 16
  · rw [endPulse_stuck boundaryFirst long]
    exact endStuckRun_participation (.inr (.inr (stuck.resolve_left (by omega))))
  · cases blind : r.classifiable with
    | false => rw [endPulse_unclassifiable boundaryFirst blind (by omega)]
    | true =>
      by_cases start : 6 ≤ samples / 16 ∧ samples / 16 ≤ 11
      · have zero : endPulse r samples boundaryFirst s = frameZero boundaryFirst s := by
          simp only [endPulse, blind, runLength, classOf_of_start start.1 start.2, if_true]
        rw [zero, frameZero_participation]
      · have few : r.droveStart = false ∨ NotThird s.census := by
          rcases attempt with h | h | h | h | h
          · rw [blind] at h; cases h
          · exact .inl h
          · exact absurd h start
          · exact absurd h long
          · exact .inr h
        by_cases hush : 20 ≤ samples / 16 ∧ samples / 16 ≤ 40
        · have same := handHush_census r { s with line := settleLine s.line }
          rw [endPulse_hush boundaryFirst blind hush.1 hush.2, reportAttempt_participation (by rw [same]; exact few), same]
        · rw [endPulse_noClass boundaryFirst blind (by omega)]
          exact reportAttempt_participation (s := { s with line := settleLine s.line }) few

theorem trailEdge_participation {samples : Nat} (boundaryFirst : Bool)
    (quiet : ∀ r, s.line.run = some r → s.line.state = .stuck ∨
      ((s.line.state = .frame ∨ r.classifiable = false ∨ r.droveStart = false ∨ (6 ≤ samples / 16 ∧ samples / 16 ≤ 11) ∨
          600 ≤ samples / 16 ∨ NotThird s.census) ∧
        (samples / 16 < 600 ∨ s.census.frame = none ∨ NotThird s.census))) :
    (trailEdge samples boundaryFirst s).census.participation = s.census.participation := by
  cases run : s.line.run with
  | none => rw [trailEdge, run]
  | some r =>
    rcases quiet r run with stuck | ⟨attempt, long⟩
    · rw [trailEdge_of_stuck samples boundaryFirst run stuck]
    · cases state : s.line.state with
      | stuck => rw [trailEdge_of_stuck samples boundaryFirst run state]
      | frame =>
        rw [trailEdge_of_frame samples boundaryFirst run state]
        rcases endFrameRun_cases samples s with ⟨-, h⟩ | ⟨from600, h⟩ <;> rw [h]
        exact goStuck_participation (.inr (.inr (long.resolve_left (by omega))))
      | settling | free | pulse =>
        have outside : trailEdge samples boundaryFirst s = endPulse r samples boundaryFirst s := by simp only [trailEdge, run, state]
        rw [outside]
        exact endPulse_participation boundaryFirst (attempt.resolve_left (by rw [state]; exact nofun)) long

theorem echoPulse_participation (few : s.line.drive ≠ .startPulse false ∨ NotThird s.census) :
    (echoPulse s).census.participation = s.census.participation := by
  unfold echoPulse
  split
  · rfl
  · next sawRun drive =>
    rw [serve_census]
    have captured := capture_census .driver none 65534 { s with line.drive := .idle }
    rw [reportAttempt_participation, captured]
    rcases few with h | h
    · cases sawRun
      · exact absurd drive h
      · exact .inl rfl
    · exact .inr (by rw [captured]; exact h)
  · rw [serve_census, capture_census]

theorem readBit_participation {a b c : Bool}
    (few : s.census.frame = none ∨
      ((s.line.bitDrive = false ∨ majority a b c = true) ∧ (2 ≤ s.line.frameBit ∨ majority a b c = false)) ∨ NotThird s.census) :
    (readBit a b c s).census.participation = s.census.participation := by
  by_cases due : bitDue s = true
  · cases echo : echoesWrong a b c s with
    | true =>
      rw [readBit_of_echo due echo, takeEchoFault_eq]
      refine abandonedCensus_participation ?_
      obtain ⟨drives, recessive⟩ := echoesWrong_iff.mp echo
      rcases few with h | ⟨h | h, -⟩ | h
      · exact .inl h
      · rw [h] at drives; cases drives
      · rw [h] at recessive; cases recessive
      · exact .inr h
    | false =>
      rw [readBit_of_due due echo, handBit]
      dsimp only
      cases inProgress : s.census.frame with
      | none => rw [decideDrive_eq]
      | some f =>
        dsimp only
        split_ifs with settle
        · rw [abandon_census]
          refine abandonedCensus_participation (.inr ?_)
          rcases few with h | ⟨-, h | h⟩ | h
          · rw [h] at inProgress; cases inProgress
          · omega
          · rw [h] at settle; exact absurd settle.2 nofun
          · exact h
        · rw [decideDrive_eq]
  · rw [readBit, if_neg due]

theorem expireTimer_participation (few : s.line.state = .free ∨ NotThird s.census) :
    (expireTimer s).census.participation = s.census.participation := by
  by_cases offline : s.census.participation = .offline
  · have takesNone : ¬ takesPart { s with census.timerMs := 2000 } = true := by rw [takesPart_iff]; exact not_not.mpr offline
    rw [expireTimer]
    dsimp only
    rw [if_neg takesNone]
  · by_cases free : s.line.state = .free
    · rw [expireTimer_of_free offline free, refreshFallback_census, serve_census]
    · by_cases islanded : s.census.participation = .islanded
      · rw [expireTimer_of_islanded islanded free, refreshFallback_census, countMissed_participation]
      · have noEntry : ¬ reachesThree { s with census.timerMs := 2000, line.startRequest := true } = true := by
          rw [reachesThree_eq_false (s := { s with census.timerMs := 2000, line.startRequest := true }) (few.resolve_left free)]
          exact Bool.false_ne_true
        rw [expireTimer_of_busy offline islanded free, missPeriodAtExpiry, if_neg noEntry, countMissed_participation]

/-- The row is no event where the participation stands (log entry 2). -/
theorem islanded_of_same {cause : MissedBy} (same : (missedEvent cause s).census.participation = s.census.participation) :
    exec (.islanded cause) s = .next s := by
  refine islanded_of_not ?_
  rw [becomesIslanded, same]
  exact Bool.not_and_self _

theorem onLine_participation {event : State → State} (same : (event s).census.participation = s.census.participation) :
    (onLine event s).census.participation = s.census.participation := by
  rcases onLine_cases event s with ⟨-, h⟩ | ⟨-, h⟩ <;> rw [h]
  exact same

theorem missedEvent_participation (few : NotThird s.census) (cause : MissedBy) :
    (missedEvent cause s).census.participation = s.census.participation := by
  cases cause with
  | timerExpiry =>
    dsimp only [missedEvent]
    rcases whenRunning_cases expireTimer s with ⟨-, h⟩ | ⟨-, h⟩ <;> rw [h]
    exact expireTimer_participation (.inr few)
  | runEnd samples boundaryFirst =>
    exact onLine_participation (trailEdge_participation boundaryFirst fun r _ =>
      .inr ⟨.inr (.inr (.inr (.inr (.inr few)))), .inr (.inr few)⟩)
  | pulseEcho => exact onLine_participation (echoPulse_participation (.inr few))
  | bitRead a b c => exact onLine_participation (readBit_participation (.inr (.inr few)))
  | lineStuck => exact onLine_participation (goStuck_participation (.inr (.inr (.inr few))))

end

end Sys2Proof.Machine
end

section
/-! PROOFS. The entry into ISLANDED at each of its five causes (R70). -/

set_option Elab.async false

namespace Sys2Proof.Machine

/-- What the entry into ISLANDED leaves, seen from a state before it (R70, R138 to R141). -/
structure IslandedFrom (p : Profile) (s t : State) : Prop where
  participation : t.census.participation = .islanded
  missed : t.census.missed = 3
  flagged : Flagged t .islanded
  number : t.census.number = s.census.number
  summary : t.census.summary = s.census.summary
  reached : t.census.reachedFrameZero = s.census.reachedFrameZero
  roster : t.roster = s.roster
  host : SameHostBut s t
  length : t.outlets.length = s.outlets.length
  noBorrow : ∀ o ∈ t.outlets, o.share.b = 0
  targets : 0 < p.minCurrent → TargetsFollowTable p .islanded t.shares.curtail t.outlets

/-- No stored band differs. -/
def SameBands (os os' : List Outlet) : Prop :=
  os'.length = os.length ∧ ∀ (n : Nat) (o o' : Outlet), os[n]? = some o → os'[n]? = some o' → o'.session.band = o.session.band

theorem SameBands.refl (os : List Outlet) : SameBands os os :=
  ⟨rfl, fun _ _ _ found found' => by rw [found] at found'; rw [Option.some.inj found']⟩

theorem SameBands.trans {os os' os'' : List Outlet} (first : SameBands os os') (second : SameBands os' os'') : SameBands os os'' := by
  refine ⟨second.1.trans first.1, fun n o o'' found found'' => ?_⟩
  have within : n < os'.length := by
    rw [← second.1]
    exact (List.getElem?_eq_some_iff.mp found'').1
  have middle := List.getElem?_eq_getElem within
  exact (second.2 n _ o'' middle found'').trans (first.2 n o _ found middle)

theorem sameBands_zeroBorrow (os : List Outlet) : SameBands os (os.map zeroBorrow) := by
  refine ⟨List.length_map _, fun n o o' found found' => ?_⟩
  rw [List.getElem?_map, found] at found'
  obtain rfl := Option.some.inj found'
  rfl

theorem sameBands_retarget (p : Profile) (part : Participation) (curtail : Nat) (mayRaise : Bool) (os : List Outlet) :
    SameBands os (retarget p part curtail mayRaise os) := by
  refine ⟨retarget_length _ _ _ _ _, fun n o o' found found' => ?_⟩
  rw [retarget_getElem?, found] at found'
  obtain rfl := Option.some.inj found'
  rw [giveTarget_session]

/-- What comes before the entry in the same event: the census's record of itself, the roster and the bands stand, and the count is at 2. -/
structure BeforeEntry (s u : State) : Prop where
  number : u.census.number = s.census.number
  summary : u.census.summary = s.census.summary
  reached : u.census.reachedFrameZero = s.census.reachedFrameZero
  missed : u.census.missed = s.census.missed
  participation : u.census.participation = s.census.participation
  roster : u.roster = s.roster
  host : SameHostBut s u
  bands : SameBands s.outlets u.outlets

section
variable {s u t : State} {p : Profile}

theorem SameHostBut.trans (first : SameHostBut s u) (second : SameHostBut u t) : SameHostBut s t := by
  rw [SameHostBut] at *
  rw [second, first]

theorem SameHostBut.profile (same : SameHostBut s t) : t.host.profile = s.host.profile := by rw [same]

theorem sameHostBut_capture (kind : FaultKind) (outlet : Option Nat) (value : Nat) (s : State) :
    SameHostBut s (capture kind outlet value s) := by rw [capture_eq]; rfl

/-- A missed period that is the third one, under a profile (R69, R70). -/
theorem missPeriod_entry (loaded : s.host.profile = some p) (entry : reachesThree s = true) :
    missPeriod s = { s with
      census := { s.census with missed := 3, participation := .islanded }
      host.events := s.host.events ||| eventFlag .islanded
      outlets := retarget p .islanded s.shares.curtail true (s.outlets.map zeroBorrow) } := by
  obtain ⟨two, counting⟩ := (reachesThree_iff s).mp entry
  have part : s.census.participation ≠ .offline := by rcases counting with h | h <;> rw [h] <;> exact nofun
  rw [missPeriod_of_entry entry, countMissed_eq, enterIslanded]
  rw [recompute_of_profile (p := p) true (by exact loaded), if_neg part, two]
  rfl

theorem retarget_noBorrow (p : Profile) (part : Participation) (curtail : Nat) (mayRaise : Bool) (os : List Outlet) :
    ∀ o ∈ retarget p part curtail mayRaise (os.map zeroBorrow), o.share.b = 0 := by
  intro o mem
  obtain ⟨n, found⟩ := List.mem_iff_getElem?.mp mem
  rw [retarget_getElem?, List.getElem?_map, Option.map_map, Option.map_eq_some_iff] at found
  obtain ⟨o', -, rfl⟩ := found
  rw [Function.comp_apply, giveTarget_share]
  rfl

/-- The third missed period after steps that leave what the entry needs. -/
theorem BeforeEntry.missPeriod (before : BeforeEntry s u) (loaded : s.host.profile = some p) (entry : reachesThree s = true) :
    IslandedFrom p s (missPeriod u) ∧ SameBands s.outlets (missPeriod u).outlets ∧
      (missPeriod u).outlets = retarget p .islanded u.shares.curtail true (u.outlets.map zeroBorrow) := by
  have entryU : reachesThree u = true := by
    rw [reachesThree_iff, before.missed, before.participation, ← reachesThree_iff]; exact entry
  have entered := missPeriod_entry (before.host.profile.trans loaded) entryU
  have bands := (sameBands_zeroBorrow u.outlets).trans (sameBands_retarget p .islanded u.shares.curtail true (u.outlets.map zeroBorrow))
  rw [entered]
  exact ⟨{
    participation := rfl
    missed := rfl
    flagged := flagged_of_raised (by decide) rfl
    number := before.number
    summary := before.summary
    reached := before.reached
    roster := before.roster
    host := before.host.trans rfl
    length := (before.bands.trans bands).1
    noBorrow := retarget_noBorrow _ _ _ _ _
    targets := fun positive => retarget_followsTable positive _ _ _ }, before.bands.trans bands, rfl⟩

/-- What comes after the entry in the same event: a fault captured, an event raised, a request served. -/
theorem IslandedFrom.andThen (entered : IslandedFrom p s u) (census : t.census = u.census := by rfl) (roster : t.roster = u.roster := by rfl)
    (shares : t.shares = u.shares := by rfl) (outlets : t.outlets = u.outlets := by rfl) (host : SameHostBut u t := by rfl)
    (kept : Flagged u .islanded → Flagged t .islanded := by exact id) : IslandedFrom p s t where
  participation := by rw [census]; exact entered.participation
  missed := by rw [census]; exact entered.missed
  flagged := kept entered.flagged
  number := by rw [census]; exact entered.number
  summary := by rw [census]; exact entered.summary
  reached := by rw [census]; exact entered.reached
  roster := roster.trans entered.roster
  host := entered.host.trans host
  length := by rw [outlets]; exact entered.length
  noBorrow := by rw [outlets]; exact entered.noBorrow
  targets := by rw [outlets, shares]; exact entered.targets

theorem IslandedFrom.capture (kind : FaultKind) (outlet : Option Nat) (value : Nat) (entered : IslandedFrom p s u) :
    IslandedFrom p s (capture kind outlet value u) :=
  entered.andThen (by simp) (by simp) (by simp) (by simp) (sameHostBut_capture _ _ _ u)
    fun raised => by rw [capture_eq]; exact raised

theorem IslandedFrom.serve (entered : IslandedFrom p s u) : IslandedFrom p s (serve u) :=
  entered.andThen (by simp) (by simp) (by simp) (by simp) (by rw [SameHostBut, serve_host]) fun raised => by
    rw [Flagged, isRaised, serve_host]; exact raised

/-- The state before the entry differs in the line, the frame in progress, the events and the fault record alone. -/
theorem beforeEntry_of_same (outlets : u.outlets = s.outlets := by rfl) (roster : u.roster = s.roster := by rfl)
    (census : u.census = { s.census with frame := u.census.frame } := by rfl) (host : SameHostBut s u := by rfl) : BeforeEntry s u where
  number := by rw [census]
  summary := by rw [census]
  reached := by rw [census]
  missed := by rw [census]
  participation := by rw [census]
  roster := roster
  host := host
  bands := by rw [outlets]; exact .refl _

/-- A stuck line in a census, as the third missed period (R44, R80). -/
theorem goStuck_entry {r : Run} (loaded : s.host.profile = some p) (entry : reachesThree s = true) (run : s.line.run = some r)
    (notStuck : s.line.state ≠ .stuck) (inProgress : s.census.frame ≠ none) :
    IslandedFrom p s (goStuck s) ∧ SameBands s.outlets (goStuck s).outlets ∧
      (goStuck s).outlets = retarget p .islanded s.shares.curtail true (s.outlets.map zeroBorrow) := by
  rcases goStuck_cases s with ⟨-, none | stuck⟩ | ⟨r', -, -, h⟩
  · rw [none] at run; cases run
  · exact absurd stuck notStuck
  · rw [h, abandon_of_frame (s := { s with line := enterStuck s.line }) inProgress]
    have before : BeforeEntry s (raise .abandoned { s with
        line := { enterStuck s.line with bitDrive := false }, census.frame := none }) := beforeEntry_of_same
    obtain ⟨entered, bands, outlets⟩ := before.missPeriod loaded entry
    refine ⟨(entered.andThen (t := raise .stuck _) (kept := raise_keepsFlagged)).capture _ _ _, ?_, ?_⟩
    · rw [capture_outlets]; exact bands
    · rw [capture_outlets]; exact outlets

/-- An abandoned census, as the third missed period (R80). -/
theorem abandon_entry (before : BeforeEntry s u) (loaded : s.host.profile = some p) (entry : reachesThree s = true)
    (inProgress : u.census.frame ≠ none) : IslandedFrom p s (abandon u) ∧ SameBands s.outlets (abandon u).outlets := by
  rw [abandon_of_frame inProgress]
  have dropped : BeforeEntry s (raise .abandoned { u with census.frame := none, line.bitDrive := false }) :=
    { before with host := before.host.trans rfl }
  obtain ⟨entered, bands, -⟩ := dropped.missPeriod loaded entry
  exact ⟨entered, bands⟩

theorem handHush_beforeEntry (r : Run) (l : Transceiver) (loaded : s.host.profile = some p) :
    BeforeEntry s (handHush r { s with line := l }) := by
  rw [handHush]
  split
  · exact beforeEntry_of_same
  · rw [hearHush_of_loaded (s := { s with line := l }) loaded]
    exact ⟨rfl, rfl, rfl, rfl, rfl, rfl, rfl, (sameBands_zeroBorrow _).trans (sameBands_retarget _ _ _ _ _)⟩

/-- The end of a run in which this part drove a start pulse that became no frame, as the third missed period (R62). -/
theorem endPulse_entry {r : Run} {samples : Nat} (boundaryFirst : Bool) (loaded : s.host.profile = some p) (entry : reachesThree s = true)
    (classifiable : r.classifiable = true) (drove : r.droveStart = true)
    (length : samples / 16 ≤ 5 ∨ (12 ≤ samples / 16 ∧ samples / 16 ≤ 599)) :
    IslandedFrom p s (endPulse r samples boundaryFirst s) ∧ SameBands s.outlets (endPulse r samples boundaryFirst s).outlets := by
  have reported (u : State) (before : BeforeEntry s u) : IslandedFrom p s (reportAttempt r.droveStart u) ∧
      SameBands s.outlets (reportAttempt r.droveStart u).outlets := by
    rw [reportAttempt, if_pos drove]
    obtain ⟨entered, bands, -⟩ := before.missPeriod loaded entry
    exact ⟨entered, bands⟩
  by_cases hush : 20 ≤ samples / 16 ∧ samples / 16 ≤ 40
  · rw [endPulse_hush boundaryFirst classifiable hush.1 hush.2]
    exact reported _ (handHush_beforeEntry r _ loaded)
  · rw [endPulse_noClass boundaryFirst classifiable (by omega)]
    exact reported _ beforeEntry_of_same

/-- A start pulse that left no run, as the third missed period (R57, R62). -/
theorem echoPulse_entry (loaded : s.host.profile = some p) (entry : reachesThree s = true) (drive : s.line.drive = .startPulse false) :
    IslandedFrom p s (echoPulse s) ∧ SameBands s.outlets (echoPulse s).outlets := by
  have failed : echoPulse s = Machine.serve (Machine.missPeriod (Machine.capture .driver none 65534 { s with line.drive := .idle })) := by
    rw [echoPulse, drive]; rfl
  have before : BeforeEntry s (Machine.capture .driver none 65534 { s with line.drive := .idle }) := by
    rw [capture_eq]; exact beforeEntry_of_same
  obtain ⟨entered, bands, -⟩ := before.missPeriod loaded entry
  rw [failed]
  refine ⟨entered.serve, ?_⟩
  rw [serve_outlets]; exact bands

/-- An echo fault or a dominant settle bit in a census, as the third missed period (R56, R75). -/
theorem readBit_entry {a b c : Bool} (loaded : s.host.profile = some p) (entry : reachesThree s = true) (due : bitDue s = true)
    (inProgress : s.census.frame ≠ none)
    (breaks : (s.line.bitDrive = true ∧ majority a b c = false) ∨
      (s.line.bitDrive = false ∧ s.line.frameBit < 2 ∧ majority a b c = true)) :
    IslandedFrom p s (readBit a b c s) ∧ SameBands s.outlets (readBit a b c s).outlets := by
  rcases breaks with ⟨drives, recessive⟩ | ⟨undriven, settle, dominant⟩
  · have stopped : readBit a b c s = Machine.capture .driver none s.line.frameBit (abandon (echoStopped a b c s)) := by
      rw [readBit_of_echo due (echoesWrong_iff.mpr ⟨drives, recessive⟩)]; rfl
    obtain ⟨entered, bands⟩ := abandon_entry (beforeEntry_of_same (u := echoStopped a b c s)) loaded entry inProgress
    rw [stopped]
    refine ⟨entered.capture _ _ _, ?_⟩
    rw [capture_outlets]; exact bands
  · obtain ⟨f, found⟩ := Option.ne_none_iff_exists'.mp inProgress
    rw [readBit_of_settle due settle undriven dominant found]
    exact abandon_entry beforeEntry_of_same loaded entry (fun none => nomatch none)

/-- An expiry on a line that is not FREE, as the third missed period: the bands are taken first (R30, R61, R70). -/
theorem expireTimer_entry (loaded : s.host.profile = some p) (entry : reachesThree s = true) (notFree : s.line.state ≠ .free) :
    expireTimer s = { s with
      census := { s.census with timerMs := 2000, missed := 3, participation := .islanded }
      line := { s.line with startRequest := true }
      host.events := s.host.events ||| eventFlag .islanded
      outlets := retarget p .islanded s.shares.curtail true
        (s.outlets.map fun o => { o with session := sessionAtExpiry p s o.session, share := { o.share with b := 0 } }) } := by
  obtain ⟨two, counting⟩ := (reachesThree_iff s).mp entry
  have part : s.census.participation ≠ .offline ∧ s.census.participation ≠ .islanded := by
    rcases counting with h | h <;> rw [h] <;> exact ⟨nofun, nofun⟩
  have due : reachesThree { s with census.timerMs := 2000, line.startRequest := true } = true := entry
  rw [expireTimer_of_busy part.1 part.2 notFree, missPeriodAtExpiry, if_pos due, countMissed_eq]
  dsimp only
  rw [if_neg part.1, two, snapshotAtExpiry_of_profile (p := p) (by exact loaded), enterIslanded,
    recompute_of_profile (p := p) true (by exact loaded)]
  simp only [mapOutlets, raise, List.map_map]
  rfl

theorem expireTimer_islandedFrom (loaded : s.host.profile = some p) (entry : reachesThree s = true) (notFree : s.line.state ≠ .free) :
    IslandedFrom p s (expireTimer s) := by
  have fresh : (s.outlets.map fun o => { o with session := sessionAtExpiry p s o.session, share := { o.share with b := 0 } }) =
      (s.outlets.map fun o => { o with session := sessionAtExpiry p s o.session }).map zeroBorrow := by
    rw [List.map_map]; rfl
  rw [expireTimer_entry loaded entry notFree, fresh]
  exact {
    participation := rfl
    missed := rfl
    flagged := flagged_of_raised (by decide) rfl
    number := rfl
    summary := rfl
    reached := rfl
    roster := rfl
    host := rfl
    length := (retarget_length _ _ _ _ _).trans ((List.length_map _).trans (List.length_map _))
    noBorrow := retarget_noBorrow _ _ _ _ _
    targets := fun positive => retarget_followsTable positive _ _ _ }

/-- The row that names the entry into ISLANDED is the event that brings it (log entry 2). -/
theorem exec_islanded_of_entered {cause : MissedBy} (counting : s.census.participation ≠ .islanded)
    (entered : (missedEvent cause s).census.participation = .islanded) : exec (.islanded cause) s = .next (missedEvent cause s) := by
  have taken : becomesIslanded s (missedEvent cause s) = true := (becomesIslanded_iff _ _).mpr ⟨counting, entered⟩
  calc exec (.islanded cause) s = .next (onlyWhere becomesIslanded (missedEvent cause) s) := rfl
    _ = .next (missedEvent cause s) := by rw [onlyWhere, if_pos taken]

end

/-- Settles O59: the causes one by one; where none of them counts the third missed period, the participation stands. -/
theorem thirdMissedPeriodIslandsThePart : Obligations.ThirdMissedPeriodIslandsThePart := by
  unfold Obligations.ThirdMissedPeriodIslandsThePart
  refine ⟨fun s cause few => islanded_of_same (missedEvent_participation few cause), fun s p sampled loaded two counting => ?_⟩
  have entry : reachesThree s = true := (reachesThree_iff s).mpr ⟨two, counting⟩
  have notIslanded : s.census.participation ≠ .islanded := by rcases counting with h | h <;> rw [h] <;> exact nofun
  have timer : missedEvent .timerExpiry s = expireTimer s := whenRunning_of_outOfReset sampled.1 expireTimer
  have runEnd (samples : Nat) (boundaryFirst : Bool) : missedEvent (.runEnd samples boundaryFirst) s = trailEdge samples boundaryFirst s :=
    onLine_of_sampled sampled (trailEdge samples boundaryFirst)
  have pulseEcho : missedEvent .pulseEcho s = echoPulse s := onLine_of_sampled sampled echoPulse
  have bitRead (a b c : Bool) : missedEvent (.bitRead a b c) s = readBit a b c s := onLine_of_sampled sampled (readBit a b c)
  have lineStuck : missedEvent .lineStuck s = goStuck s := onLine_of_sampled sampled goStuck
  refine ⟨fun cause event causes => ?_, fun notFree => ?_, fun r run notStuck inProgress => ?_, fun free => ?_,
    fun r samples boundaryFirst run quiet => ?_, fun other => ?_, fun a b c quiet => ?_, fun quiet => ?_⟩
  · have entered : exec event s = .next (missedEvent cause s) ∧ IslandedFrom p s (missedEvent cause s) ∧
        (cause ≠ .timerExpiry → SameBands s.outlets (missedEvent cause s).outlets) := by
      rcases causes with ⟨rfl, rfl, notFree⟩ | ⟨r, samples, boundaryFirst, rfl, rfl, run, quiet⟩ | ⟨rfl, rfl, drive⟩ |
        ⟨a, b, c, rfl, rfl, inFrame, within, inProgress, breaks⟩ | ⟨r, rfl, rfl, run, notStuck, inProgress⟩
      · rw [timer]
        exact ⟨congrArg Host.Outcome.next timer, expireTimer_islandedFrom loaded entry notFree, fun other => absurd rfl other⟩
      · refine ⟨rfl, ?_⟩
        rw [runEnd]
        rcases quiet with ⟨state, classifiable, drove, length⟩ | ⟨state, inProgress, long⟩
        · rw [trailEdge_of_pulse samples boundaryFirst run (.inl state)]
          obtain ⟨entered, bands⟩ := endPulse_entry boundaryFirst loaded entry classifiable drove length
          exact ⟨entered, fun _ => bands⟩
        · rw [trailEdge_of_frame samples boundaryFirst run state, endFrameRun_of_long long, endStuckRun]
          obtain ⟨entered, bands, -⟩ := goStuck_entry loaded entry run (by rw [state]; exact nofun) inProgress
          exact ⟨entered.andThen, fun _ => bands⟩
      · refine ⟨rfl, ?_⟩
        rw [pulseEcho]
        obtain ⟨entered, bands⟩ := echoPulse_entry loaded entry drive
        exact ⟨entered, fun _ => bands⟩
      · refine ⟨rfl, ?_⟩
        rw [bitRead]
        obtain ⟨entered, bands⟩ := readBit_entry loaded entry ((bitDue_iff s).mpr ⟨inFrame, within⟩) inProgress breaks
        exact ⟨entered, fun _ => bands⟩
      · refine ⟨rfl, ?_⟩
        rw [lineStuck]
        obtain ⟨entered, bands, -⟩ := goStuck_entry loaded entry run notStuck inProgress
        exact ⟨entered, fun _ => bands⟩
    obtain ⟨answer, left, bands⟩ := entered
    exact ⟨missedEvent cause s, exec_islanded_of_entered notIslanded left.participation, answer, left.participation, left.missed,
      left.flagged, left.number, left.summary, left.roster, left.host, left.length, left.noBorrow, left.reached,
      fun n o o' found found' other => (bands other).2 n o o' found found', fun law => left.targets (law.positive loaded)⟩
  · have entered := expireTimer_islandedFrom loaded entry notFree
    rw [← timer] at entered
    rw [exec_islanded_of_entered notIslanded entered.participation, timer, expireTimer_entry loaded entry notFree]
  · obtain ⟨entered, -, outlets⟩ := goStuck_entry loaded entry run notStuck inProgress
    rw [← lineStuck] at entered outlets
    exact ⟨_, exec_islanded_of_entered notIslanded entered.participation, outlets⟩
  · exact islanded_of_same (by rw [timer]; exact expireTimer_participation (.inl free))
  · refine islanded_of_same ?_
    rw [runEnd]
    refine trailEdge_participation boundaryFirst fun r' run' => ?_
    obtain rfl := Option.some.inj (run.symm.trans run')
    rcases quiet with ⟨-, short, blind | undriven | start⟩ | ⟨state, short⟩ | stuck | ⟨none, long⟩
    · exact .inr ⟨.inr (.inl blind), .inl short⟩
    · exact .inr ⟨.inr (.inr (.inl undriven)), .inl short⟩
    · exact .inr ⟨.inr (.inr (.inr (.inl start))), .inl short⟩
    · exact .inr ⟨.inl state, .inl short⟩
    · exact .inl stuck
    · exact .inr ⟨.inr (.inr (.inr (.inr (.inl long)))), .inr (.inl none)⟩
  · exact islanded_of_same (by rw [pulseEcho]; exact echoPulse_participation (.inl other))
  · refine islanded_of_same ?_
    rw [bitRead]
    refine readBit_participation ?_
    rcases quiet with none | quiet
    · exact .inl none
    · exact .inr (.inl quiet)
  · refine islanded_of_same ?_
    rw [lineStuck]
    refine goStuck_participation ?_
    rcases quiet with none | stuck | none
    · exact .inl none
    · exact .inr (.inl stuck)
    · exact .inr (.inr (.inl none))

end Sys2Proof.Machine
end

section
/-! PROOFS. Relations that hold outlet by outlet between two lists of outlets, and the turns of a repetition seen from one outlet; and with
them the stages of a valid completion (R82). -/

set_option Elab.async false

namespace Sys2Proof.Machine

/-- Each outlet's record after stands to its record before as R says; R sees the outlet's number. -/
def EachOutlet (R : Nat → Outlet → Outlet → Prop) (os os' : List Outlet) : Prop :=
  os'.length = os.length ∧ ∀ (n : Nat) (o o' : Outlet), os[n]? = some o → os'[n]? = some o' → R n o o'

section
variable {R R' : Nat → Outlet → Outlet → Prop} {os os' os'' : List Outlet}

theorem EachOutlet.refl (refl : ∀ n o, R n o o) (os : List Outlet) : EachOutlet R os os :=
  ⟨rfl, fun n o o' found found' => by rw [found] at found'; exact Option.some.inj found' ▸ refl n o⟩

theorem EachOutlet.trans (trans : ∀ n o u v, R n o u → R n u v → R n o v) (first : EachOutlet R os os') (second : EachOutlet R os' os'') :
    EachOutlet R os os'' := by
  refine ⟨second.1.trans first.1, fun n o o'' found found'' => ?_⟩
  have within : n < os'.length := by
    rw [← second.1]
    exact (List.getElem?_eq_some_iff.mp found'').1
  have middle := List.getElem?_eq_getElem within
  exact trans n o _ o'' (first.2 n o _ found middle) (second.2 n _ o'' middle found'')

theorem EachOutlet.mono (weaker : ∀ n o o', R n o o' → R' n o o') (each : EachOutlet R os os') : EachOutlet R' os os' :=
  ⟨each.1, fun n o o' found found' => weaker n o o' (each.2 n o o' found found')⟩

theorem eachOutlet_map {f : Outlet → Outlet} (op : ∀ n o, R n o (f o)) (os : List Outlet) : EachOutlet R os (os.map f) := by
  refine ⟨List.length_map _, fun n o o' found found' => ?_⟩
  rw [List.getElem?_map, found] at found'
  exact Option.some.inj found' ▸ op n o

theorem eachOutlet_zipIdx {f : Outlet × Nat → Outlet} (op : ∀ n o, R n o (f (o, n))) (os : List Outlet) :
    EachOutlet R os (os.zipIdx.map f) := by
  refine ⟨by rw [List.length_map, List.length_zipIdx], fun n o o' found found' => ?_⟩
  rw [List.getElem?_map, List.getElem?_zipIdx, found, Nat.zero_add] at found'
  exact Option.some.inj found' ▸ op n o

theorem eachOutlet_modify {k : Nat} {f : Outlet → Outlet} (refl : ∀ n o, R n o o) (op : ∀ o, os[k]? = some o → R k o (f o)) :
    EachOutlet R os (os.modify k f) := by
  refine ⟨List.length_modify _ _ _, fun n o o' found found' => ?_⟩
  rw [List.getElem?_modify, found] at found'
  have value : (if k = n then f o else o) = o' := Option.some.inj found'
  by_cases same : k = n
  · subst same
    rw [if_pos rfl] at value
    exact value ▸ op o found
  · rw [if_neg same] at value
    exact value ▸ refl n o

theorem eachOutlet_retarget {mayRaise : Bool} (op : ∀ n o t, R n o (giveTarget mayRaise o t)) (p : Profile) (part : Participation)
    (curtail : Nat) (os : List Outlet) : EachOutlet R os (retarget p part curtail mayRaise os) := by
  refine ⟨retarget_length _ _ _ _ _, fun n o o' found found' => ?_⟩
  rw [retarget_getElem?, found] at found'
  exact Option.some.inj found' ▸ op n o _

theorem eachOutlet_recompute {mayRaise : Bool} (refl : ∀ n o, R n o o) (op : ∀ n o t, R n o (giveTarget mayRaise o t)) (s : State) :
    EachOutlet R s.outlets (recompute mayRaise s).outlets := by
  cases loaded : s.host.profile with
  | none => rw [recompute_of_none mayRaise loaded]; exact .refl refl _
  | some p => rw [recompute_of_profile mayRaise loaded]; exact eachOutlet_retarget op p _ _ _

/-- What stands of outlet n after a repetition, from what its own turn does and what the other turns leave. -/
theorem forOutlets_at {f : Nat → State → State} {n count : Nat} {s : State} (Pre Post : State → Prop)
    (before : ∀ k t, k < n → Pre t → Pre (f k t)) (turn : ∀ t, Pre t → Post (f n t)) (after : ∀ k t, n < k → Post t → Post (f k t))
    (start : Pre s) (within : n < count) : Post (forOutlets count f s) := by
  have earlier : ∀ c ≤ n, Pre (forOutlets c f s) := by
    intro c
    induction c with
    | zero => exact fun _ => start
    | succ c ih =>
      intro le
      rw [forOutlets_succ]
      exact before c _ le (ih (by omega))
  induction count with
  | zero => omega
  | succ c ih =>
    rw [forOutlets_succ]
    by_cases last : c = n
    · rw [last]
      exact turn _ (earlier n le_rfl)
    · exact after c _ (by omega) (ih (by omega))

end

/-! The stages of a completion. -/

/-- The state after step 3 of a completion (R82). -/
def afterClashes (f : Frame) (s : State) : State :=
  examineClashes f { s with census.missed := 0, census.number := f.number, census.frame := none }

/-- The state after step 5 of a completion (R82). -/
def beforeShares (f : Frame) (s : State) : State :=
  { join (afterClashes f s) with roster := updateRoster f.read f.number s.roster }

section
variable {f : Frame} {s : State}

theorem afterClashes_frame (f : Frame) (s : State) :
    OutletFrame { s with census.missed := 0, census.number := f.number, census.frame := none } (afterClashes f s) :=
  examineClashes_frame f _

theorem complete_eq (f : Frame) (s : State) :
    complete f s = writeSummary f s.feeder.peak (feederCompletion (shareCompletion (beforeShares f s))) := by
  have frame := afterClashes_frame f s
  have number : (completeCensus f s).census.number = f.number := by
    show (join (afterClashes f s)).census.number = f.number
    rw [join, raiseIf_census, frame.census]
  have roster : (completeCensus f s).roster = s.roster := by
    show (join (afterClashes f s)).roster = s.roster
    rw [join, raiseIf_roster, frame.roster]
  rw [complete, completeShares, number, roster]
  rfl

/-- The state before the share completion: the census joined, and of the rest what the clashes left (R68, R82). -/
theorem beforeShares_eq (f : Frame) (s : State) :
    beforeShares f s = { s with
      census := { s.census with missed := 0, number := f.number, frame := none, participation := .joined }
      roster := updateRoster f.read f.number s.roster
      outlets := (afterClashes f s).outlets
      host := { (afterClashes f s).host with
        events := if s.census.participation = .islanded then (afterClashes f s).host.events ||| eventFlag .rejoined
          else (afterClashes f s).host.events } } := by
  have frame := afterClashes_frame f s
  rw [beforeShares, join, raiseIf_eq, frame.census]
  by_cases islanded : s.census.participation = .islanded <;> simp [islanded, frame.line, frame.feeder, frame.shares, frame.minuteMs, frame.pending]

/-- The record of an own seat as a completion writes it, before its target is made (R105, R130). -/
def completedShare (p : Profile) (s : State) (n : Nat) (o : Outlet) : Outlet :=
  updateBorrow p s.shares.curtail s.feeder.sense s.roster.counts.demanding s.feeder.peak
    { o with share := writeShare p (fillOf p s) s.roster (seatOf s n) o.session.state o.share }

theorem shareCompletion_of_none (unloaded : s.host.profile = none) : shareCompletion s = s := by rw [shareCompletion, unloaded]

/-- Step 6 of a completion at the Share Engine, under a profile (R99, R129 to R134, R141). -/
theorem shareCompletion_of_profile {p : Profile} (loaded : s.host.profile = some p) :
    shareCompletion s = { s with
      shares := { s.shares with poolRemainder := some (fillOf p s).remainder, curtail := s.shares.curtail - 1 }
      outlets := retarget p s.census.participation (s.shares.curtail - 1) true
        (s.outlets.zipIdx.map fun on => completedShare p s on.2 on.1) } := by
  rw [shareCompletion, loaded]
  dsimp only
  rw [recompute_of_profile (p := p) true (by exact loaded)]
  simp only [updateBorrows, writeShares, List.map_map]
  rfl

end

end Sys2Proof.Machine
end

section
/-! PROOFS. A valid completion at the outlets and in what it raises (R76, R77, R82, R84, R105). -/

set_option Elab.async false

namespace Sys2Proof.Machine

section
variable {s : State} {f : Frame} {n : Nat}

/-! Flags that an event leaves alone. -/

theorem isRaised_raise_of_ne {e e' : Event} (other : eventBit e' ≠ eventBit e) (s : State) : isRaised e (raise e' s) = isRaised e s := by
  have clear : (eventFlag e').getLsbD (eventBit e) = false := by
    rw [eventFlag, BitVec.getLsbD_twoPow, decide_eq_false other, Bool.and_false]
  show (s.host.events ||| eventFlag e').getLsbD (eventBit e) = _
  rw [BitVec.getLsbD_or, clear, Bool.or_false]
  rfl

theorem isRaised_of_events {s t : State} (same : t.host.events = s.host.events) (e : Event) : isRaised e t = isRaised e s := by
  rw [isRaised, same]; rfl

/-! One seat's clash fault. -/

/-- What the hand-over of a clash fault for outlet k can do (R77): nothing, or the fault of a session whose count stands at 3. -/
theorem faultClash_cases (f : Frame) (k : Nat) (s : State) :
    (faultClash f k s = s ∧
      ∀ o, s.outlets[k]? = some o → o.clashCount ≠ 3 ∨ o.session.state = .vacant ∨ o.session.state = .faulted) ∨
    ∃ o, s.outlets[k]? = some o ∧ o.clashCount = 3 ∧ o.session.state ≠ .vacant ∧ o.session.state ≠ .faulted ∧
      faultClash f k s =
        capture .seatClash (some k) (firstClashBit (clashBits f (seatOf s k)) (seatOf s k)) (enterFaulted k .seatClash s) := by
  unfold faultClash
  split
  · next none => exact .inl ⟨rfl, fun o found => by rw [none] at found; cases found⟩
  · next o found =>
    have same {o' : Outlet} (found' : s.outlets[k]? = some o') : o' = o := Option.some.inj (found'.symm.trans found)
    split_ifs with three
    · split
      · next state => exact .inl ⟨rfl, fun o' found' => .inr (.inl (by rw [same found', state]))⟩
      · next state => exact .inl ⟨rfl, fun o' found' => .inr (.inr (by rw [same found', state]))⟩
      all_goals next state => exact .inr ⟨o, found, three, by rw [state]; exact nofun, by rw [state]; exact nofun, rfl⟩
    · exact .inl ⟨rfl, fun o' found' => .inl (by rw [same found']; exact three)⟩

/-- The state of a completion whose clashes are counted and not yet handed over as faults (R76, R77, R82). -/
def countedClashes (f : Frame) (s : State) : State :=
  countClashes f (raiseIf (anyClash f s) .clash { s with census.missed := 0, census.number := f.number, census.frame := none })

theorem countedClashes_host (f : Frame) (s : State) : (countedClashes f s).host = (raiseIf (anyClash f s) .clash s).host := by
  rw [countedClashes, raiseIf_eq, raiseIf_eq]; rfl

theorem countedClashes_getElem? (f : Frame) (s : State) (n : Nat) : (countedClashes f s).outlets[n]? =
    s.outlets[n]?.map fun o => { o with clashCount := nextClashCount (clashBits f (seatOf s n)).any o.clashCount } := by
  rw [countedClashes, raiseIf_eq]
  simp only [countClashes, List.getElem?_map, List.getElem?_zipIdx, Nat.zero_add, Option.map_map]
  rfl

section
variable {R : Nat → Outlet → Outlet → Prop}

theorem eachOutlet_enterFaulted {kind : SessionFault} {o : Outlet} (refl : ∀ n o, R n o o) (trans : ∀ n o u v, R n o u → R n u v → R n o v)
    (give : ∀ n o t, R n o (giveTarget false o t)) (found : s.outlets[n]? = some o) (fault : R n o (faultOutlet kind o)) :
    EachOutlet R s.outlets (enterFaulted n kind s).outlets := by
  have own : EachOutlet R s.outlets (modifyOutlet n (faultOutlet kind) s).outlets :=
    eachOutlet_modify refl fun o' found' => Option.some.inj (found.symm.trans found') ▸ fault
  exact own.trans trans (eachOutlet_recompute refl give (raise (.faulted n) (modifyOutlet n (faultOutlet kind) s)))

theorem eachOutlet_faultClash (refl : ∀ n o, R n o o) (trans : ∀ n o u v, R n o u → R n u v → R n o v)
    (give : ∀ n o t, R n o (giveTarget false o t))
    (fault : ∀ o, s.outlets[n]? = some o → o.clashCount = 3 → o.session.state ≠ .vacant → o.session.state ≠ .faulted →
      R n o (faultOutlet .seatClash o)) :
    EachOutlet R s.outlets (faultClash f n s).outlets := by
  rcases faultClash_cases f n s with ⟨h, -⟩ | ⟨o, found, three, occupied, sound, h⟩ <;> rw [h]
  · exact .refl refl _
  · rw [capture_outlets]
    exact eachOutlet_enterFaulted refl trans give found (fault o found three occupied sound)

/-- A relation that every fault keeps holds across the faults of the clash examination. -/
theorem eachOutlet_clashFaults (refl : ∀ n o, R n o o) (trans : ∀ n o u v, R n o u → R n u v → R n o v)
    (give : ∀ n o t, R n o (giveTarget false o t))
    (fault : ∀ n o, o.session.state ≠ .vacant → o.session.state ≠ .faulted → R n o (faultOutlet .seatClash o)) :
    EachOutlet R (countedClashes f s).outlets (afterClashes f s).outlets :=
  forOutlets_keeps (fun t => EachOutlet R (countedClashes f s).outlets t.outlets) _
    (fun n _ each => each.trans trans (eachOutlet_faultClash refl trans give fun o _ _ => fault n o)) _ _ (.refl refl _)

/-- A relation that every record write of a completion but the clash count keeps holds across the completion. -/
theorem eachOutlet_complete_of_counted (refl : ∀ n o, R n o o) (trans : ∀ n o u v, R n o u → R n u v → R n o v)
    (give : ∀ mayRaise n o t, R n o (giveTarget mayRaise o t))
    (fault : ∀ n o, o.session.state ≠ .vacant → o.session.state ≠ .faulted → R n o (faultOutlet .seatClash o))
    (share : ∀ n o sh, R n o { o with share := sh }) : EachOutlet R (countedClashes f s).outlets (complete f s).outlets := by
  have clashes : EachOutlet R (countedClashes f s).outlets (beforeShares f s).outlets := by
    rw [beforeShares_eq]
    exact eachOutlet_clashFaults refl trans (give false) fault
  have completed : EachOutlet R (countedClashes f s).outlets (shareCompletion (beforeShares f s)).outlets := by
    cases loaded : (beforeShares f s).host.profile with
    | none => rw [shareCompletion_of_none loaded]; exact clashes
    | some p =>
      rw [shareCompletion_of_profile loaded]
      have written : EachOutlet R (beforeShares f s).outlets
          ((beforeShares f s).outlets.zipIdx.map fun on => completedShare p (beforeShares f s) on.2 on.1) := by
        refine eachOutlet_zipIdx (fun n o => ?_) _
        rw [completedShare, updateBorrow]
        split_ifs
        · exact share n o _
        · exact share n o _
      exact (clashes.trans trans written).trans trans (eachOutlet_retarget (give true) _ _ _ _)
  rw [complete_eq]
  exact completed

/-- A relation that every record write of a completion keeps holds across the completion. -/
theorem eachOutlet_complete (refl : ∀ n o, R n o o) (trans : ∀ n o u v, R n o u → R n u v → R n o v)
    (give : ∀ mayRaise n o t, R n o (giveTarget mayRaise o t)) (count : ∀ n o c, R n o { o with clashCount := c })
    (fault : ∀ n o, o.session.state ≠ .vacant → o.session.state ≠ .faulted → R n o (faultOutlet .seatClash o))
    (share : ∀ n o sh, R n o { o with share := sh }) : EachOutlet R s.outlets (complete f s).outlets := by
  refine EachOutlet.trans trans ?_ (eachOutlet_complete_of_counted refl trans give fault share)
  refine ⟨by rw [countedClashes, countClashes]; simp, fun n o o' found found' => ?_⟩
  rw [countedClashes_getElem?, found] at found'
  exact Option.some.inj found' ▸ count n o _

end

/-- What a completion leaves of an outlet's record: all but the share record, the state, the offer, the fault kind and the counts. -/
def RecordKept (o o' : Outlet) : Prop :=
  o'.meter = o.meter ∧ o'.setpointDuty = o.setpointDuty ∧ o'.supervision.history = o.supervision.history ∧
  o'.supervision.windowMax = o.supervision.windowMax ∧ o'.supervision.releaseDriven = o.supervision.releaseDriven ∧
  o'.session = { o.session with state := o'.session.state, offer := o'.session.offer, faultKind := o'.session.faultKind }

theorem RecordKept.refl (o : Outlet) : RecordKept o o := ⟨rfl, rfl, rfl, rfl, rfl, rfl⟩

theorem RecordKept.trans {o u v : Outlet} (first : RecordKept o u) (second : RecordKept u v) : RecordKept o v := by
  obtain ⟨meter, duty, history, windowMax, driven, session⟩ := first
  obtain ⟨meter', duty', history', windowMax', driven', session'⟩ := second
  refine ⟨meter'.trans meter, duty'.trans duty, history'.trans history, windowMax'.trans windowMax, driven'.trans driven, ?_⟩
  rw [session', session]

theorem RecordKept.giveTarget (mayRaise : Bool) (o : Outlet) (t : Nat) : RecordKept o (giveTarget mayRaise o t) := by
  have session : (Machine.giveTarget mayRaise o t).session = { o.session with
      state := (Machine.giveTarget mayRaise o t).session.state
      offer := (Machine.giveTarget mayRaise o t).session.offer
      faultKind := (Machine.giveTarget mayRaise o t).session.faultKind } := by
    rw [giveTarget_session]
  rcases giveTarget_supervision o mayRaise t with h | h
  · exact ⟨giveTarget_meter _ _ _, giveTarget_setpointDuty _ _ _, by rw [h], by rw [h], by rw [h], session⟩
  · exact ⟨giveTarget_meter _ _ _, giveTarget_setpointDuty _ _ _, by rw [h], by rw [h], by rw [h], session⟩

theorem RecordKept.faultOutlet (kind : SessionFault) (o : Outlet) : RecordKept o (faultOutlet kind o) := by
  refine ⟨?_, ?_, ?_, ?_, ?_, ?_⟩ <;> simp [Machine.faultOutlet]

/-- The end of a frame that can end. -/
theorem endFrame_of_due (inFrame : s.line.state = .frame) (past : 530 ≤ s.line.frameBit) :
    endFrame s = match s.census.frame with
      | some f => complete f { s with line := settleAfterFrame s.line }
      | none => { s with line := settleAfterFrame s.line } := by
  have due : endDue s = true := by simp [endDue, inFrame, past]
  rw [endFrame, if_pos due] <;> rfl

theorem endFrame_of_frame (inFrame : s.line.state = .frame) (past : 530 ≤ s.line.frameBit) (inProgress : s.census.frame = some f) :
    endFrame s = complete f { s with line := settleAfterFrame s.line } := by
  rw [endFrame_of_due inFrame past, inProgress]

/-- What a share completion writes: share records with the sessions they move, the pool remainder and the curtail count. -/
theorem shareCompletion_writes (s : State) : shareCompletion s = { s with
    shares := { (shareCompletion s).shares with pool := s.shares.pool }
    outlets := (shareCompletion s).outlets } := by
  cases loaded : s.host.profile with
  | none => rw [shareCompletion_of_none loaded]
  | some p => rw [shareCompletion_of_profile loaded]

/-- Everything that a completion leaves but the outlets' records: the census and its summary, the roster, the feeder's marks, the raised
events and the first fault of a clash (R68, R82, R84). -/
theorem complete_writes (f : Frame) (s : State) : complete f s = { s with
    census := { s.census with
      missed := 0
      number := f.number
      frame := none
      participation := .joined
      ageMs := some 2000
      summary := some (summaryOf f s.feeder.peak (complete f s)) }
    roster := updateRoster f.read f.number s.roster
    feeder := { s.feeder with peak := none, ring := s.feeder.ring.map fun e => { e with sinceCompletion := false } }
    shares := { (complete f s).shares with pool := s.shares.pool }
    outlets := (complete f s).outlets
    host := { s.host with
      events := (beforeShares f s).host.events ||| eventFlag .census
      firstFault := (afterClashes f s).host.firstFault
      furtherFaults := (afterClashes f s).host.furtherFaults } } := by
  have host : (afterClashes f s).host = { s.host with
      events := (afterClashes f s).host.events
      firstFault := (afterClashes f s).host.firstFault
      furtherFaults := (afterClashes f s).host.furtherFaults } := congrArg State.host (afterClashes_frame f s)
  obtain ⟨shares, outlets, share⟩ : ∃ (e : ShareEngine) (os : List Outlet), shareCompletion (beforeShares f s) =
      { beforeShares f s with shares := { e with pool := (beforeShares f s).shares.pool }, outlets := os } :=
    ⟨_, _, shareCompletion_writes _⟩
  have done : complete f s = writeSummary f s.feeder.peak (feederCompletion
      { beforeShares f s with shares := { shares with pool := (beforeShares f s).shares.pool }, outlets := outlets }) := by
    rw [complete_eq, share]
  rw [done, beforeShares_eq]
  dsimp only
  rw [host]
  rfl

/-! The events of a completion. -/

theorem faultClash_raised {e : Event} (other : ∀ k, eventBit (.faulted k) ≠ eventBit e) (k : Nat) :
    isRaised e (faultClash f k s) = isRaised e s := by
  rcases faultClash_cases f k s with ⟨h, -⟩ | ⟨o, -, -, -, -, h⟩ <;> rw [h]
  calc isRaised e (capture _ _ _ (enterFaulted k .seatClash s))
      = isRaised e (enterFaulted k .seatClash s) := isRaised_of_events (capture_events ..) e
    _ = isRaised e (raise (.faulted k) (modifyOutlet k (faultOutlet .seatClash) s)) :=
        isRaised_of_events (congrArg HostLink.events (recompute_host false _)) e
    _ = isRaised e s := isRaised_raise_of_ne (other k) _

/-- The clash examination raises CLASH where a seat has one, and faults (R76, R77). -/
theorem afterClashes_raised {e : Event} (other : ∀ k, eventBit (.faulted k) ≠ eventBit e) :
    isRaised e (afterClashes f s) = isRaised e (raiseIf (anyClash f s) .clash s) :=
  forOutlets_keeps (fun t => isRaised e t = isRaised e (raiseIf (anyClash f s) .clash s)) _
    (fun _ _ same => (faultClash_raised other _).trans same) _ _
    (isRaised_of_events (by rw [countClashes, raiseIf_eq, raiseIf_eq]; rfl) e)

theorem complete_raised {e : Event} (census : eventBit .census ≠ eventBit e) :
    isRaised e (complete f s) = isRaised e (beforeShares f s) := by
  have events : (complete f s).host.events = (raise .census (beforeShares f s)).host.events := by rw [complete_writes]; rfl
  rw [isRaised_of_events events, isRaised_raise_of_ne census]

theorem beforeShares_raised (e : Event) :
    isRaised e (beforeShares f s) = isRaised e (raiseIf (s.census.participation == .islanded) .rejoined (afterClashes f s)) := by
  refine isRaised_of_events ?_ e
  rw [beforeShares_eq, raiseIf_eq]
  by_cases islanded : s.census.participation = .islanded <;> simp [islanded]

theorem isRaised_raise_self {e : Event} (small : eventBit e < 32) (s : State) : isRaised e (raise e s) = true :=
  flagged_of_raised small rfl

theorem isRaised_raiseIf_self {e : Event} (small : eventBit e < 32) (cond : Bool) (s : State) :
    isRaised e (raiseIf cond e s) = (isRaised e s || cond) := by
  cases cond
  · rw [Bool.or_false]; rfl
  · rw [Bool.or_true]; exact isRaised_raise_self small s

theorem isRaised_raiseIf_of_ne {e e' : Event} (other : eventBit e' ≠ eventBit e) (cond : Bool) (s : State) :
    isRaised e (raiseIf cond e' s) = isRaised e s := by
  cases cond
  · rfl
  · exact isRaised_raise_of_ne other s

theorem complete_rejoined : isRaised .rejoined (complete f s) = (isRaised .rejoined s || (s.census.participation == .islanded)) := by
  rw [complete_raised (by decide), beforeShares_raised, isRaised_raiseIf_self (by decide),
    afterClashes_raised (fun k => by simp only [eventBit]; omega), isRaised_raiseIf_of_ne (by decide)]

theorem complete_clash : isRaised .clash (complete f s) = (isRaised .clash s || anyClash f s) := by
  rw [complete_raised (by decide), beforeShares_raised, isRaised_raiseIf_of_ne (by decide),
    afterClashes_raised (fun k => by simp only [eventBit]; omega), isRaised_raiseIf_self (by decide)]

/-- The number, band map and clash marks of an own seat in the summary (R84). -/
theorem summaryOf_seat {peak : Option Nat} {x : Latch} {o : Outlet} (latched : f.latch[n]? = some x) (found : s.outlets[n]? = some o) :
    (summaryOf f peak s).seats[n]? = some ⟨x, o.share.g, (clashBits f (seatOf s n)).any⟩ := by
  simp [summaryOf, List.getElem?_zipIdx, found, latched]

/-- Settles O46: a frame's end that can end is a completion, whose writes are complete_writes, and what every record keeps of it is
eachOutlet_complete. -/
theorem frameEndCompletesTheCensus : Obligations.FrameEndCompletesTheCensus := by
  intro s sampled inFrame past
  refine ⟨fun f inProgress => ?_, fun none => ?_⟩
  · have next : exec .frameEnd s = .next (complete f { s with line := settleAfterFrame s.line }) := by
      rw [← endFrame_of_frame inFrame past inProgress]
      exact congrArg Host.Outcome.next (onLine_of_sampled sampled endFrame)
    have writes := complete_writes f { s with line := settleAfterFrame s.line }
    have records : EachOutlet (fun _ => RecordKept) s.outlets (complete f { s with line := settleAfterFrame s.line }).outlets :=
      eachOutlet_complete (s := { s with line := settleAfterFrame s.line }) (fun _ => .refl) (fun _ _ _ _ => .trans)
        (fun mayRaise _ o t => .giveTarget mayRaise o t) (fun _ _ _ => ⟨rfl, rfl, rfl, rfl, rfl, rfl⟩)
        (fun _ o _ _ => .faultOutlet _ o) (fun _ _ _ => ⟨rfl, rfl, rfl, rfl, rfl, rfl⟩)
    have rejoined := complete_rejoined (f := f) (s := { s with line := settleAfterFrame s.line })
    have seats {peak : Option Nat} {n : Nat} {x : Latch} {o : Outlet} :=
      summaryOf_seat (f := f) (peak := peak) (n := n) (x := x) (o := o) (s := complete f { s with line := settleAfterFrame s.line })
    generalize complete f { s with line := settleAfterFrame s.line } = t at next writes records rejoined seats
    refine ⟨t, next, by rw [writes]; rfl, by rw [writes], by rw [writes], by rw [writes], by rw [writes], by rw [writes], by rw [writes],
      by rw [writes], by rw [writes], by rw [writes], by rw [writes], by rw [writes], flagged_of_raised (by decide) (by rw [writes]),
      rejoined, ?_, by rw [writes], by rw [writes], by rw [SameHostBut, writes], by rw [writes], records.1, records.2⟩
    have straps : t.host.straps = s.host.straps := by rw [writes]
    refine ⟨summaryOf f s.feeder.peak t, by conv_lhs => rw [writes], rfl, ?_, rfl, rfl, rfl, rfl, ?_, ?_, rfl, rfl, rfl, ?_⟩
    · show t.line.noise = _
      rw [writes]; rfl
    · simp [summaryOf]
    · rintro n seat x o' latched found rfl
      rw [seats latched found, seatOf, straps]
      rfl
    · intro p loaded
      have stands : t.host.profile = some p := by rw [writes]; exact loaded
      show (t.host.profile.bind fun p => headroomOf p s.feeder.peak) = _
      rw [stands, Option.bind_some, headroomOf]
      cases s.feeder.peak <;> rfl
  · have ended : endFrame s = { s with line := settleAfterFrame s.line } := by rw [endFrame_of_due inFrame past, none]
    have next : exec .frameEnd s = .next (onLine endFrame s) := rfl
    rw [next, onLine_of_sampled sampled endFrame, ended]
    rfl

end

end Sys2Proof.Machine
end

section
/-! PROOFS. The shares, the borrow and the targets that a valid completion writes (R98 to R105, R129 to R142), and its seat clash faults
(R76, R77). -/

set_option Elab.async false

namespace Sys2Proof.Machine

section
variable {s : State} {f : Frame} {n : Nat} {p : Profile} {o : Outlet}

/-- Without a session to fault, the clash examination only counts (R77). -/
theorem afterClashes_of_quiet (quiet : NoClashFault s f) : afterClashes f s = countedClashes f s := by
  refine forOutlets_keeps (fun t => t = countedClashes f s) _ (fun k t same => ?_) _ _ rfl
  subst same
  rcases faultClash_cases f k (countedClashes f s) with ⟨h, -⟩ | ⟨o, found, three, occupied, sound, -⟩
  · exact h
  · exfalso
    rw [countedClashes_getElem?] at found
    obtain ⟨u, foundU, rfl⟩ := Option.map_eq_some_iff.mp found
    have count : nextClashCount (clashBits f (s.host.straps.seatBase + k)).any u.clashCount = 3 := three
    rw [nextClashCount] at count
    by_cases clash : (clashBits f (s.host.straps.seatBase + k)).any = true
    · have below := quiet k u foundU occupied sound clash
      rw [if_pos clash] at count
      omega
    · rw [if_neg clash] at count
      cases count

/-- The shares and the borrow of a completion, at one outlet without a session. -/
theorem completedShare_of_vacant (vacant : o.session.state = .vacant) : completedShare p s n o = o := by
  simp [completedShare, updateBorrow, writeShare, vacant]

/-- The record of an outlet with a session, as a completion writes it (R103, R105, R130, R133). -/
theorem completedShare_of_occupied (occupied : o.session.state ≠ .vacant) : (completedShare p s n o).share =
    { o.share with
      bandUsed := (entryOf s.roster (seatOf s n)).band
      rank := rotationRank (s.roster.orderOf (entryOf s.roster (seatOf s n)).band) (seatOf s n)
      g := if inPair o.session.state = true then seatShare p.minCurrent (fillOf p s) s.roster (seatOf s n) else 0
      b := (completedShare p s n o).share.b } := by
  simp only [completedShare, updateBorrow, writeShare, if_neg occupied]
  rfl

theorem completedShare_session : (completedShare p s n o).session = o.session := by
  rw [completedShare, updateBorrow]
  split_ifs
  · rfl
  · rfl

/-- B of a completion before its clamp: force, growth, reduction or what is held (R130 to R132). -/
def freeBorrow (p : Profile) (s : State) (state : SessionState) (band : Band) (held : Nat) : Nat :=
  if 0 < s.shares.curtail ∨ s.feeder.sense = .lost ∨ inPair state = false ∨ band = .absent ∨ band = .unbanded then 0
  else match s.feeder.peak with
    | none => held
    | some k =>
      if k + p.growthMargin < p.importLimit then
        held + min (match band with | .late => 40 | .tight => 20 | .steady => 10 | _ => 0)
          ((p.importLimit - k - p.growthMargin) / s.roster.counts.demanding)
      else if p.importLimit < k then
        held / 2 - (k - p.importLimit + s.roster.counts.demanding - 1) / s.roster.counts.demanding
      else held

theorem nextBorrow_eq_freeBorrow (p : Profile) (s : State) (o : Outlet) :
    nextBorrow p s.shares.curtail s.feeder.sense s.roster.counts.demanding s.feeder.peak o =
      freeBorrow p s o.session.state o.share.bandUsed o.share.b := by
  have band : isBand o.share.bandUsed = false ↔ o.share.bandUsed = .absent ∨ o.share.bandUsed = .unbanded := by
    cases o.share.bandUsed <;> simp [isBand]
  have step : stepOfBand o.share.bandUsed = match o.share.bandUsed with | .late => 40 | .tight => 20 | .steady => 10 | _ => 0 := by
    cases o.share.bandUsed <;> rfl
  unfold nextBorrow freeBorrow
  by_cases curtailed : 0 < s.shares.curtail
  · simp [curtailed]
  by_cases lost : s.feeder.sense = .lost
  · simp [lost]
  by_cases pair : inPair o.session.state = false
  · simp [pair]
  by_cases banded : isBand o.share.bandUsed = false
  · simp [banded, band.mp banded]
  · rw [if_neg curtailed, if_neg lost, if_neg (by simpa using pair), if_neg (by simpa using banded), if_neg (by rw [← band]; tauto)]
    unfold grownBorrow cutBorrow ceilDiv
    rw [step] <;> rfl

theorem completedShare_borrow (occupied : o.session.state ≠ .vacant) : (completedShare p s n o).share.b =
    min (freeBorrow p s o.session.state (entryOf s.roster (seatOf s n)).band o.share.b)
      (o.session.vanMax - (completedShare p s n o).share.g) := by
  rw [← show nextBorrow p s.shares.curtail s.feeder.sense s.roster.counts.demanding s.feeder.peak
      { o with share := writeShare p (fillOf p s) s.roster (seatOf s n) o.session.state o.share } =
    freeBorrow p s o.session.state (entryOf s.roster (seatOf s n)).band o.share.b by
      rw [nextBorrow_eq_freeBorrow]
      simp [writeShare, occupied]]
  rw [completedShare, updateBorrow, if_neg (by exact occupied)]
  rfl

/-- Settles O47: without a clash fault the outlets of a completion are those found with their clash counts, each is written by
completedShare, and one recomputation that may raise targets follows. -/
theorem completionWritesSharesAndBorrow : Obligations.CompletionWritesSharesAndBorrow := by
  rintro s t f p w sampled inFrame past inProgress loaded quiet next rfl
  have ended : t = complete f { s with line := settleAfterFrame s.line } := by
    rw [← endFrame_of_frame inFrame past inProgress, ← onLine_of_sampled sampled endFrame]
    exact (Host.Outcome.next.inj next).symm
  have counted := afterClashes_of_quiet (s := { s with line := settleAfterFrame s.line }) quiet
  have before := beforeShares_eq f { s with line := settleAfterFrame s.line }
  rw [counted] at before
  generalize beforeTo : beforeShares f { s with line := settleAfterFrame s.line } = u at before
  have loadedU : u.host.profile = some p := by
    rw [before]
    dsimp only
    rw [countedClashes_host, raiseIf_profile]
    exact loaded
  have completed : t = writeSummary f s.feeder.peak (feederCompletion (shareCompletion u)) := by rw [ended, complete_eq, beforeTo]
  rw [shareCompletion_of_profile loadedU] at completed
  have roster : t.roster = u.roster := by rw [completed]; rfl
  have fill : waterFill p.seatCeiling p.minCurrent (s.shares.pool.getD 0) u.roster.counts.late u.roster.counts.tight
      u.roster.counts.steady = fillOf p u := by rw [fillOf, show u.shares.pool = s.shares.pool by rw [before]]
  have curtail : u.shares.curtail = s.shares.curtail := by rw [before]
  have sense : u.feeder.sense = s.feeder.sense := by rw [before]
  have peak : u.feeder.peak = s.feeder.peak := by rw [before]
  have joined : u.census.participation = .joined := by rw [before]
  have straps : u.host.straps = s.host.straps := by
    rw [before]
    dsimp only
    rw [countedClashes_host, raiseIf_eq]
  rw [roster, fill]
  refine ⟨by rw [completed]; rfl, by rw [completed, ← curtail]; rfl, fun law => ?_, ?_⟩
  · rw [completed]
    exact joined ▸ retarget_followsTable (law.positive loaded) _ _ _
  · rintro n seat o o' band free found found' rfl rfl
    obtain ⟨oc, outlets, session, share⟩ : ∃ oc, u.outlets[n]? = some oc ∧ oc.session = o.session ∧ oc.share = o.share := by
      rw [before]
      refine ⟨{ o with clashCount := nextClashCount (clashBits f (s.host.straps.seatBase + n)).any o.clashCount }, ?_, rfl, rfl⟩
      dsimp only
      rw [countedClashes_getElem?]
      dsimp only
      rw [found]
      rfl
    have given := found'
    rw [completed] at given
    simp only [writeSummary, feederCompletion, raise_outlets, retarget_getElem?, List.getElem?_map, List.getElem?_zipIdx, outlets,
      Option.map_some, Nat.zero_add] at given
    obtain rfl := Option.some.inj given
    have seat : s.host.straps.seatBase + n = seatOf u n := by rw [seatOf, straps]
    rw [giveTarget_offer, giveTarget_state_eq, giveTarget_share, completedShare_session, session, seat]
    refine ⟨rfl, rfl, fun vacant => ?_, fun occupied => ?_⟩
    · rw [completedShare_of_vacant (by rw [session]; exact vacant), share]
      exact ⟨rfl, rfl, rfl, rfl⟩
    · have occupiedC : oc.session.state ≠ .vacant := by rw [session]; exact occupied
      have written := completedShare_of_occupied (p := p) (s := u) (n := n) occupiedC
      have g : (completedShare p u n oc).share.g =
          if inPair o.session.state = true then seatShare p.minCurrent (fillOf p u) u.roster (seatOf u n) else 0 := by
        rw [written, session]
      refine ⟨by rw [written], by rw [written], g, fun byTable => ?_⟩
      have borrow := completedShare_borrow (p := p) (s := u) (n := n) occupiedC
      have free' : free = freeBorrow p u oc.session.state (entryOf u.roster (seatOf u n)).band oc.share.b := by
        rw [byTable, session, share]
        unfold freeBorrow
        rw [curtail, sense, peak] <;> rfl
      rw [free', borrow, session]

end

end Sys2Proof.Machine
end

section
/-! PROOFS. A fault of one outlet's session seen at that outlet (R9, R158), and the seat clash faults of a completion (R76, R77). -/

set_option Elab.async false

namespace Sys2Proof.Machine

/-- Outlet n is there and its record meets Q. -/
def HasOutlet (n : Nat) (Q : Outlet → Prop) (s : State) : Prop := ∃ o, s.outlets[n]? = some o ∧ Q o

section
variable {s t : State} {n : Nat} {o o' : Outlet} {Q Q' : Outlet → Prop}

theorem HasOutlet.of_each {R : Nat → Outlet → Outlet → Prop} (here : HasOutlet n Q s) (each : EachOutlet R s.outlets t.outlets)
    (step : ∀ o o', Q o → R n o o' → Q' o') : HasOutlet n Q' t := by
  obtain ⟨o, found, q⟩ := here
  have within : n < t.outlets.length := by
    rw [each.1]
    exact (List.getElem?_eq_some_iff.mp found).1
  have found' := List.getElem?_eq_getElem within
  exact ⟨_, found', step o _ q (each.2 n o _ found found')⟩

theorem HasOutlet.mono (here : HasOutlet n Q s) (weaker : ∀ o, Q o → Q' o) : HasOutlet n Q' s := by
  obtain ⟨o, found, q⟩ := here
  exact ⟨o, found, weaker o q⟩

theorem HasOutlet.of_outlets (here : HasOutlet n Q s) (same : t.outlets = s.outlets) : HasOutlet n Q t := by
  rw [HasOutlet, same]; exact here

/-- What a recomputation keeps of every record stands at an outlet. -/
theorem HasOutlet.recompute {mayRaise : Bool} (here : HasOutlet n Q s) (give : ∀ o t, Q o → Q (giveTarget mayRaise o t)) :
    HasOutlet n Q (recompute mayRaise s) :=
  here.of_each (eachOutlet_recompute (R := fun _ o o' => Q o → Q o') (fun _ _ => id) (fun _ => give) s) fun _ _ q step => step q

/-- A change of an outlet's own record, and then a recomputation. -/
theorem HasOutlet.modify {f : Outlet → Outlet} (here : HasOutlet n Q s) (own : ∀ o, Q o → Q' (f o)) :
    HasOutlet n Q' (modifyOutlet n f s) := by
  obtain ⟨o, found, q⟩ := here
  refine ⟨f o, ?_, own o q⟩
  rw [modifyOutlet_outlets, List.getElem?_modify, found]
  exact congrArg some (if_pos rfl)

/-- The record of a session that a fault of a kind has taken to FAULTED (R9, R158). -/
def FaultedFor (kind : SessionFault) (o : Outlet) : Prop :=
  o.session.state = .faulted ∧ o.session.faultKind = some kind ∧ o.session.offer = 0 ∧ o.share.target = 0 ∧
  o.supervision.overdrawCount = 0 ∧ o.supervision.stallCount = 0 ∧ o.supervision.unstallCount = 0 ∧
  o.supervision.releaseCount = 0

theorem faultedFor_faultOutlet (kind : SessionFault) (o : Outlet) : FaultedFor kind (faultOutlet kind o) := by
  refine ⟨?_, ?_, ?_, ?_, ?_, ?_, ?_, ?_⟩ <;> simp [faultOutlet]

theorem faultedFor_lowered {kind : SessionFault} (faulted : FaultedFor kind o) : lowerOffer o = o := by
  obtain ⟨state, -, offer, -⟩ := faulted
  rw [lowerOffer, if_neg (by rw [state]; exact fun both => nomatch both.2), if_neg (by rw [offer]; exact Nat.not_lt_zero _)]

/-- A recomputation that gives a record the target it holds, and finds no offer to lower, leaves it. -/
theorem giveTarget_of_settled {mayRaise : Bool} {target : Nat} (same : (if mayRaise then target else min target o.share.target) = o.share.target)
    (still : lowerOffer o = o) : giveTarget mayRaise o target = o := by
  rw [giveTarget, same]; exact still

theorem FaultedFor.target {kind : SessionFault} (faulted : FaultedFor kind o) : o.share.target = 0 := by
  obtain ⟨-, -, -, target, -⟩ := faulted
  exact target

theorem FaultedFor.giveTarget_false {kind : SessionFault} (faulted : FaultedFor kind o) (target : Nat) : giveTarget false o target = o :=
  giveTarget_of_settled (by rw [faulted.target]; exact Nat.min_zero _) (faultedFor_lowered faulted)

theorem FaultedFor.giveTarget_zero {kind : SessionFault} (faulted : FaultedFor kind o) : giveTarget true o 0 = o :=
  giveTarget_of_settled faulted.target.symm (faultedFor_lowered faulted)

/-- A session taken to FAULTED, with the change handed to the Share Engine (R9, R141). -/
theorem enterFaulted_hasOutlet (kind : SessionFault) (found : s.outlets[n]? = some o) :
    HasOutlet n (FaultedFor kind) (enterFaulted n kind s) := by
  have own : HasOutlet n (FaultedFor kind) (modifyOutlet n (faultOutlet kind) s) :=
    HasOutlet.modify (Q := fun _ => True) ⟨o, found, trivial⟩ fun o _ => faultedFor_faultOutlet kind o
  exact HasOutlet.recompute (s := raise (.faulted n) (modifyOutlet n (faultOutlet kind) s)) own fun o t faulted => by
    rw [faulted.giveTarget_false]; exact faulted

theorem enterFaulted_flagged (small : n < 4) (kind : SessionFault) (s : State) : Flagged (enterFaulted n kind s) (.faulted n) := by
  refine flagged_of_raised (events := s.host.events) (show 14 + 5 * n < 32 by omega) ?_
  rw [enterFaulted, recompute_host, raise_events, modifyOutlet_host]

/-! O48: the clash faults of a completion. -/

section
variable {f : Frame}

/-- A session whose clash count stands at 3 and which is to be faulted for it (R77). -/
def ClashStands (o : Outlet) : Prop := o.clashCount = 3 ∧ o.session.state ≠ .vacant ∧ o.session.state ≠ .faulted

theorem ClashStands.giveTarget {mayRaise : Bool} (stands : ClashStands o) (target : Nat) : ClashStands (giveTarget mayRaise o target) := by
  obtain ⟨three, occupied, sound⟩ := stands
  refine ⟨by rw [giveTarget_clashCount]; exact three, ?_, ?_⟩
  all_goals
    rw [giveTarget_state_eq]
    split_ifs
    · exact nofun
    · assumption

/-- Another outlet's clash fault leaves an outlet's record but for its target. -/
theorem HasOutlet.faultClash_of_ne {k : Nat} (here : HasOutlet n Q s) (other : k ≠ n) (give : ∀ o t, Q o → Q (giveTarget false o t)) :
    HasOutlet n Q (faultClash f k s) := by
  refine here.of_each (eachOutlet_faultClash (R := fun m o o' => m = n → Q o → Q o') (fun _ _ _ => id)
    (fun _ _ _ _ first second same q => second same (first same q)) (fun _ o t _ => give o t)
    (fun _ _ _ _ _ same => absurd same other)) fun o o' q step => step rfl q

/-- The fault of one outlet's clashes (R9, R77, R171). -/
theorem faultClash_of_stands (small : n < 4) (here : HasOutlet n ClashStands s) :
    HasOutlet n (FaultedFor .seatClash) (faultClash f n s) ∧ Flagged (faultClash f n s) (.faulted n) ∧
    (faultClash f n s).host.firstFault ≠ none ∧
    (s.host.firstFault = none → (faultClash f n s).host.firstFault = some
      ⟨.seatClash, some n, s.census.number, s.census.windowIndex, firstClashBit (clashBits f (seatOf s n)) (seatOf s n)⟩) := by
  obtain ⟨o, found, three, occupied, sound⟩ := here
  rcases faultClash_cases f n s with ⟨-, none⟩ | ⟨o', found', -, -, -, h⟩
  · rcases none o found with not | vacant | faulted
    · exact absurd three not
    · exact absurd vacant occupied
    · exact absurd faulted sound
  · have fault := (enterFaulted_hasOutlet .seatClash found).of_outlets
      (capture_outlets .seatClash (some n) (firstClashBit (clashBits f (seatOf s n)) (seatOf s n)) _)
    have flagged : Flagged (capture .seatClash (some n) (firstClashBit (clashBits f (seatOf s n)) (seatOf s n))
        (enterFaulted n .seatClash s)) (.faulted n) :=
      (isRaised_of_events (capture_events ..) _).trans (enterFaulted_flagged small .seatClash s)
    have stood : (enterFaulted n .seatClash s).host.firstFault = s.host.firstFault := by rw [enterFaulted, recompute_host]; rfl
    have frame := enterFaulted_frame n .seatClash s
    rw [h]
    refine ⟨fault, flagged, ?_, fun empty => ?_⟩
    · rw [capture_eq, stood]
      cases s.host.firstFault <;> exact nofun
    · rw [capture_of_empty _ _ _ (stood.trans empty), frame.census]

theorem faultClash_keepsFlagged {e : Event} (raised : Flagged s e) (k : Nat) : Flagged (faultClash f k s) e := by
  rcases faultClash_cases f k s with ⟨h, -⟩ | ⟨o, -, -, -, -, h⟩ <;> rw [h]
  · exact raised
  · have kept : Flagged (raise (.faulted k) (modifyOutlet k (faultOutlet .seatClash) s)) e := raise_keepsFlagged raised
    exact (isRaised_of_events (by rw [capture_events, enterFaulted, recompute_host]) e).trans kept

/-- What stands of outlet n's clash fault at the end of the clash examination (R9, R77). -/
theorem afterClashes_of_stands (small : n < 4) (here : HasOutlet n ClashStands (countedClashes f s)) :
    HasOutlet n (FaultedFor .seatClash) (afterClashes f s) ∧ Flagged (afterClashes f s) (.faulted n) ∧
    (afterClashes f s).host.firstFault ≠ none ∧
    (s.host.firstFault = none → n = 0 → (afterClashes f s).host.firstFault = some
      ⟨.seatClash, some n, f.number, s.census.windowIndex, firstClashBit (clashBits f (seatOf s n)) (seatOf s n)⟩) := by
  have within : n < s.outlets.length := by
    obtain ⟨o, found, -⟩ := here
    rw [countedClashes_getElem?] at found
    obtain ⟨u, found, -⟩ := Option.map_eq_some_iff.mp found
    exact (List.getElem?_eq_some_iff.mp found).1
  have census : (countedClashes f s).census = { s.census with missed := 0, number := f.number, frame := none } := by
    rw [countedClashes, raiseIf_eq]; rfl
  have store : (countedClashes f s).host.firstFault = s.host.firstFault := by rw [countedClashes_host, raiseIf_eq]
  have seat : seatOf (countedClashes f s) n = seatOf s n := by rw [seatOf, countedClashes_host, raiseIf_eq]; rfl
  refine forOutlets_at
    (fun t => HasOutlet n ClashStands t ∧ (n = 0 → t = countedClashes f s))
    (fun t => HasOutlet n (FaultedFor .seatClash) t ∧ Flagged t (.faulted n) ∧ t.host.firstFault ≠ none ∧
      (s.host.firstFault = none → n = 0 → t.host.firstFault = some
        ⟨.seatClash, some n, f.number, s.census.windowIndex, firstClashBit (clashBits f (seatOf s n)) (seatOf s n)⟩))
    (fun k t earlier pre => ?_) (fun t pre => ?_) (fun k t later post => ?_) ⟨here, fun _ => rfl⟩ within
  · obtain ⟨stands, -⟩ := pre
    exact ⟨stands.faultClash_of_ne (by omega) fun o target clash => clash.giveTarget target, by omega⟩
  · obtain ⟨stands, first⟩ := pre
    obtain ⟨faulted, flagged, filled, record⟩ := faultClash_of_stands (f := f) small stands
    refine ⟨faulted, flagged, filled, fun empty zero => ?_⟩
    rw [first zero] at record ⊢
    rw [record (store.trans empty), census, seat]
  · obtain ⟨faulted, flagged, filled, record⟩ := post
    have kept := faultClash_keepsFaults f k (FaultsKept.refl t)
    refine ⟨faulted.faultClash_of_ne (by omega) fun o target faulted => by rw [faulted.giveTarget_false]; exact faulted,
      faultClash_keepsFlagged flagged k, ?_, fun empty zero => kept.firstFault (record empty zero)⟩
    obtain ⟨r, stands⟩ := Option.ne_none_iff_exists'.mp filled
    rw [kept.firstFault stands]
    exact nofun

/-- A FAULTED record at the share completion: its shares and its borrow are written as 0, and it gets no target (R105, R130, R137). -/
theorem shareCompletion_of_faulted {p : Profile} {kind : SessionFault} (loaded : s.host.profile = some p)
    (here : HasOutlet n (FaultedFor kind) s) :
    HasOutlet n (fun o => FaultedFor kind o ∧ o.share.g = 0 ∧ o.share.b = 0) (shareCompletion s) := by
  obtain ⟨o, found, faulted⟩ := here
  have state : o.session.state = .faulted := faulted.1
  have occupied : o.session.state ≠ .vacant := by rw [state]; exact nofun
  have written := completedShare_of_occupied (p := p) (s := s) (n := n) occupied
  have borrow := completedShare_borrow (p := p) (s := s) (n := n) occupied
  have g : (completedShare p s n o).share.g = 0 := by rw [written, state]; rfl
  have b : (completedShare p s n o).share.b = 0 := by
    rw [borrow]
    unfold freeBorrow
    rw [if_pos (.inr (.inr (.inl (by rw [state]; rfl)))), Nat.zero_min]
  have still : FaultedFor kind (completedShare p s n o) := by
    obtain ⟨-, faultKind, offer, target, counts⟩ := faulted
    have supervision : (completedShare p s n o).supervision = o.supervision := by
      rw [completedShare, updateBorrow, if_neg (by exact occupied)]
    rw [FaultedFor, completedShare_session, written, supervision]
    exact ⟨state, faultKind, offer, target, counts⟩
  have places : ((s.outlets.zipIdx.map fun on => completedShare p s on.2 on.1))[n]? = some (completedShare p s n o) := by
    rw [List.getElem?_map, List.getElem?_zipIdx, found, Nat.zero_add]
    rfl
  have zero : (cappedTargets p s.census.participation (s.shares.curtail - 1)
      (s.outlets.zipIdx.map fun on => completedShare p s on.2 on.1)).getD n 0 = 0 := by
    have le := cappedTarget_le p s.census.participation (s.shares.curtail - 1) places
    have none : tableTarget p s.census.participation (s.shares.curtail - 1) (completedShare p s n o) = 0 := by
      rw [tableTarget, if_pos (.inr (.inr (.inr (.inr still.1))))]
    rw [none] at le
    exact Nat.le_zero.mp le
  refine ⟨completedShare p s n o, ?_, still, g, b⟩
  rw [shareCompletion_of_profile loaded]
  dsimp only
  rw [retarget_getElem?, places, Option.map_some, zero, still.giveTarget_zero]

/-- A completion whose census leaves outlet n's count at 3: the session's fault as it stands in the end (R9, R77). -/
theorem complete_of_stands (small : n < 4) (loaded : s.host.profile ≠ none) (here : HasOutlet n ClashStands (countedClashes f s)) :
    HasOutlet n (fun o => FaultedFor .seatClash o ∧ o.share.g = 0 ∧ o.share.b = 0) (complete f s) ∧
    Flagged (complete f s) (.faulted n) ∧ (complete f s).host.firstFault ≠ none ∧
    (s.host.firstFault = none → n = 0 → (complete f s).host.firstFault = some
      ⟨.seatClash, some n, f.number, s.census.windowIndex, firstClashBit (clashBits f (seatOf s n)) (seatOf s n)⟩) := by
  obtain ⟨faulted, flagged, filled, record⟩ := afterClashes_of_stands small here
  have store : (complete f s).host.firstFault = (afterClashes f s).host.firstFault := by rw [complete_writes]
  obtain ⟨p, loaded⟩ := Option.ne_none_iff_exists'.mp loaded
  have loadedB : (beforeShares f s).host.profile = some p := by
    rw [beforeShares_eq]
    dsimp only
    rw [(afterClashes_frame f s).profile]
    exact loaded
  have faultedB : HasOutlet n (FaultedFor .seatClash) (beforeShares f s) := faulted.of_outlets (by rw [beforeShares_eq])
  refine ⟨?_, ?_, by rw [store]; exact filled, by rw [store]; exact record⟩
  · exact (shareCompletion_of_faulted loadedB faultedB).of_outlets (by rw [complete_eq]; rfl)
  · rw [Flagged, complete_raised (by simp only [eventBit]; omega), beforeShares_raised, isRaised_raiseIf_of_ne (by simp only [eventBit]; omega)]
    exact flagged

/-- A completion gives no VACANT outlet a session. -/
theorem complete_keepsVacant (here : HasOutlet n (fun o => o.session.state = .vacant) s) :
    HasOutlet n (fun o => o.session.state = .vacant) (complete f s) := by
  refine here.of_each (eachOutlet_complete (R := fun _ o o' => o.session.state = .vacant → o'.session.state = .vacant) (fun _ _ => id)
    (fun _ _ _ _ first second => second ∘ first) (fun mayRaise _ o target vacant => ?_) (fun _ _ _ => id)
    (fun _ o occupied _ vacant => absurd vacant occupied) (fun _ _ _ => id)) fun _ _ vacant step => step vacant
  rw [giveTarget_state_eq, vacant]
  rfl

/-- Settles O48: the counts are those of countedClashes, and the fault of a count of 3 stands from its own turn to the end. -/
theorem seatClashFaultsTheSession : Obligations.SeatClashFaultsTheSession := by
  intro s f sampled inFrame past inProgress
  have ended : onLine endFrame s = complete f { s with line := settleAfterFrame s.line } := by
    rw [onLine_of_sampled sampled endFrame, endFrame_of_frame inFrame past inProgress]
  have next : exec .frameEnd s = .next (complete f { s with line := settleAfterFrame s.line }) := congrArg Host.Outcome.next ended
  refine ⟨fun t done => ?_, ?_⟩
  · obtain rfl := Host.Outcome.next.inj (next.symm.trans done)
    have kept : EachOutlet (fun _ o o' => o'.clashCount = o.clashCount) (countedClashes f { s with line := settleAfterFrame s.line }).outlets
        (complete f { s with line := settleAfterFrame s.line }).outlets :=
      eachOutlet_complete_of_counted (fun _ _ => rfl) (fun _ _ _ _ first second => second.trans first)
        (fun _ _ _ _ => giveTarget_clashCount _ _ _) (fun _ _ _ _ => by simp [faultOutlet]) (fun _ _ _ => rfl)
    have length : (countedClashes f { s with line := settleAfterFrame s.line }).outlets.length = s.outlets.length := by
      rw [countedClashes, countClashes]; simp
    refine ⟨kept.1.trans length, fun n o o' found found' => ?_, ?_⟩
    · have counted := countedClashes_getElem? f { s with line := settleAfterFrame s.line } n
      dsimp only at counted
      rw [found] at counted
      exact kept.2 n _ o' counted found'
    · have clash := complete_clash (f := f) (s := { s with line := settleAfterFrame s.line })
      rw [clash, Bool.or_eq_true]
      refine or_congr Iff.rfl ?_
      simp only [anyClash, List.any_eq_true, List.mem_range]
      rfl
  · rintro n seat o found small rfl
    refine ⟨fun loaded occupied sound _ clash two => ?_, fun none => ?_⟩
    · have three : nextClashCount (clashBits f (s.host.straps.seatBase + n)).any o.clashCount = 3 := by
        rw [nextClashCount, if_pos clash]
        omega
      have stands : HasOutlet n ClashStands (countedClashes f { s with line := settleAfterFrame s.line }) := by
        refine ⟨{ o with clashCount := nextClashCount (clashBits f (s.host.straps.seatBase + n)).any o.clashCount }, ?_, three, occupied, sound⟩
        rw [countedClashes_getElem?]
        dsimp only
        rw [found]
        rfl
      obtain ⟨⟨o', found', ⟨state, kind, offer, target, overdraw, -, -, release⟩, g, b⟩, flagged, filled, record⟩ :=
        complete_of_stands (s := { s with line := settleAfterFrame s.line }) small loaded stands
      have taken : becomesFaulted n s (onLine endFrame s) = true := by
        rw [becomesFaulted, ended, sessionState_of_found found, sessionState_of_found found', state]
        simpa using sound
      have row : exec (.seatClashFault n) s = .next (complete f { s with line := settleAfterFrame s.line }) := by
        show Host.Outcome.next (onLine (onlyWhere (becomesFaulted n) endFrame) s) = _
        rw [onLine_of_sampled sampled] at taken ended ⊢
        rw [onlyWhere, if_pos taken, ended]
      exact ⟨_, o', row, next, found', state, kind, offer, target, g, b, overdraw, release, flagged, filled, record⟩
    · show Host.Outcome.next (onLine (onlyWhere (becomesFaulted n) endFrame) s) = _
      have not : becomesFaulted n s (endFrame s) = false := by
        rw [onLine_of_sampled sampled] at ended
        rw [becomesFaulted, sessionState_of_found found]
        rcases none with vacant | faulted
        · obtain ⟨o', found', still⟩ := complete_keepsVacant (f := f) (s := { s with line := settleAfterFrame s.line }) ⟨o, found, vacant⟩
          rw [ended, sessionState_of_found found', still, vacant]
          rfl
        · rw [faulted]
          rfl
      rw [onLine_of_sampled sampled, onlyWhere, not]
      rfl

end

end

end Sys2Proof.Machine
end

section
/-! PROOFS. A window boundary seen from one outlet: what comes before the outlet's ramp, the ramp, and what comes after it (R143, R151). -/

set_option Elab.async false

namespace Sys2Proof.Machine

/-- The changes of a window boundary beside the ramp of outlet n. -/
def BesideRamp (n m : Nat) (kind : RecordKind) : Prop := kind = .unstalled ∨ kind = .ramped ∧ m ≠ n

/-- The changes of a window boundary after the ramp of outlet n: those at the other outlets. -/
def OthersTurn (n m : Nat) (kind : RecordKind) : Prop := (kind = .unstalled ∨ kind = .ramped) ∧ m ≠ n

/-- The changes of a frame zero after the ramp of outlet n: targets may rise in ISLANDED (R141). -/
def AfterRamp (n m : Nat) (kind : RecordKind) : Prop := kind = .raised ∨ BesideRamp n m kind

section
variable {s t : State} {n : Nat} {o u v : Outlet}

theorem afterRamp_steps (steps : OutletSteps (BesideRamp n) s t) : OutletSteps (AfterRamp n) s t :=
  steps.mono fun _ _ => .inr

theorem superviseOutlet_beside {m : Nat} (other : m ≠ n) (s : State) : OutletSteps (BesideRamp n) s (superviseOutlet m s) :=
  superviseOutlet_steps (.inl rfl) (.inr ⟨rfl, other⟩) s

theorem superviseOutlet_others {m : Nat} (other : m ≠ n) (s : State) : OutletSteps (OthersTurn n) s (superviseOutlet m s) := by
  refine OutletSteps.mono (allowed := fun k kind => k = m ∧ (kind = .unstalled ∨ kind = .ramped)) ?_
    fun k kind ok => ⟨ok.2, ok.1 ▸ other⟩
  exact superviseOutlet_steps ⟨rfl, .inl rfl⟩ ⟨rfl, .inr rfl⟩ s

theorem ramp_others {m : Nat} (other : m ≠ n) (s : State) : OutletSteps (OthersTurn n) s (ramp m s) :=
  ramp_steps ⟨.inr rfl, other⟩ s

theorem OthersTurn.beside {m : Nat} {kind : RecordKind} (ok : OthersTurn n m kind) : BesideRamp n m kind := by
  obtain ⟨unstalled | ramped, other⟩ := ok
  · exact .inl unstalled
  · exact .inr ⟨ramped, other⟩

theorem othersTurn_beside (steps : OutletSteps (OthersTurn n) s t) : OutletSteps (BesideRamp n) s t := steps.mono fun _ _ => OthersTurn.beside

theorem judgeOutlet_frame (m : Nat) (s : State) : OutletFrame s (judgeOutlet m s) :=
  (((modifyOutlet_frame m enterHistory s).trans (judgeOverdraw_frame m _)).trans (judgeResponse_frame m _)).trans
    (judgeRelease_frame m _ _)

/-- A full window end at the outlets, seen from outlet n: its judgement and its ramp come once, with the other outlets' turns before them and
after them. What every turn and a judgement keep holds where the ramp comes. -/
theorem outletsFullWindow_around {P : State → Prop} (metered : P (mapOutlets meterFullWindow s)) (turn : ∀ m t, P t → P (superviseOutlet m t))
    (judge : ∀ t, P t → P (judgeOutlet n t)) (within : n < s.outlets.length) : ∃ w, OutletSteps (BesideRamp n) s w ∧ P w ∧
    w.host.profile = s.host.profile ∧ OutletSteps (OthersTurn n) (ramp n w) (outletsFullWindow s) := by
  have meter : OutletSteps (BesideRamp n) s (mapOutlets meterFullWindow s) := mapOutlets_plainSteps fun _ => .meterFull
  refine forOutlets_at (fun t => OutletSteps (BesideRamp n) s t ∧ P t ∧ t.host.profile = s.host.profile)
    (fun t => ∃ w, OutletSteps (BesideRamp n) s w ∧ P w ∧ w.host.profile = s.host.profile ∧ OutletSteps (OthersTurn n) (ramp n w) t)
    (fun m t earlier pre => ?_) (fun t pre => ?_) (fun m t later post => ?_) ⟨meter, metered, rfl⟩ within
  · obtain ⟨steps, law, profile⟩ := pre
    exact ⟨steps.trans (superviseOutlet_beside (by omega) t), turn m t law, (superviseOutlet_frame m t).profile.trans profile⟩
  · obtain ⟨steps, law, profile⟩ := pre
    exact ⟨judgeOutlet n t, steps.trans (judgeOutlet_steps (.inl rfl) t), judge t law, (judgeOutlet_frame n t).profile.trans profile, .refl _⟩
  · obtain ⟨w, before, law, profile, after⟩ := post
    exact ⟨w, before, law, profile, after.trans (superviseOutlet_others (by omega) t)⟩

/-- A full window end, seen from outlet n. -/
theorem endFullWindow_around {P : State → Prop} (feederFirst : Bool) (start : P s) (feeder : ∀ t, P t → P (feederFullWindow t))
    (meter : ∀ t, P t → P (mapOutlets meterFullWindow t)) (turn : ∀ m t, P t → P (superviseOutlet m t))
    (judge : ∀ t, P t → P (judgeOutlet n t)) (within : n < s.outlets.length) : ∃ w, OutletSteps (BesideRamp n) s w ∧ P w ∧
    w.host.profile = s.host.profile ∧ OutletSteps (OthersTurn n) (ramp n w) (endFullWindow feederFirst s) := by
  cases feederFirst with
  | false =>
    obtain ⟨w, before, law, profile, after⟩ := outletsFullWindow_around (meter s start) turn judge within
    exact ⟨w, before, law, profile, (after.trans (feederFullWindow_steps _)).andAside.serve⟩
  | true =>
    have feederSteps : OutletSteps (BesideRamp n) s (feederFullWindow s) := feederFullWindow_steps s
    obtain ⟨w, before, law, profile, after⟩ := outletsFullWindow_around (s := feederFullWindow s) (meter _ (feeder s start)) turn judge
      (by rw [feederSteps.length]; exact within)
    have stands : (feederFullWindow s).host.profile = s.host.profile := by
      obtain ⟨-, -, stands⟩ := feederFullWindow_frame s
      exact stands
    exact ⟨w, feederSteps.trans before, law, profile.trans stands, after.andAside.serve⟩

/-- A cut window at the outlets, seen from outlet n. -/
theorem cutWindow_around (within : n < s.outlets.length) : ∃ w, OutletSteps (BesideRamp n) s w ∧
    w.host.profile = s.host.profile ∧ OutletSteps (OthersTurn n) (ramp n w) (cutWindow s) := by
  have metered : OutletSteps (BesideRamp n) s (mapOutlets meterCutWindow (feederCutWindow s)) :=
    (mapOutlets_plainSteps fun _ => .meterCut).afterAside
  have turns := forOutlets_at (f := ramp) (n := n) (count := s.outlets.length) (s := mapOutlets meterCutWindow (feederCutWindow s))
    (fun t => OutletSteps (BesideRamp n) s t ∧ t.host.profile = s.host.profile)
    (fun t => ∃ w, OutletSteps (BesideRamp n) s w ∧ w.host.profile = s.host.profile ∧ OutletSteps (OthersTurn n) (ramp n w) t)
    (fun m t earlier pre => ?_) (fun t pre => ⟨t, pre.1, pre.2, .refl _⟩) (fun m t later post => ?_) ⟨metered, rfl⟩ within
  · obtain ⟨w, before, profile, after⟩ := turns
    exact ⟨w, before, profile, after.andAside⟩
  · obtain ⟨steps, profile⟩ := pre
    exact ⟨steps.trans (ramp_steps (.inr ⟨rfl, by omega⟩) t), (ramp_frame m t).profile.trans profile⟩
  · obtain ⟨w, before, profile, after⟩ := post
    exact ⟨w, before, profile, after.trans (ramp_others (by omega) t)⟩

/-- An offer before its ramp: it stands, or was lowered to a target, to which no ramp then raises it. -/
def OfferHeld (o u : Outlet) : Prop :=
  u.session.offer = o.session.offer ∨ u.session.offer ≤ o.session.offer ∧ u.share.target ≤ u.session.offer

/-- An offer after its ramp: where it is higher than it was, it stands within one step of the ramp, and the window maximum with it. -/
def OfferRamped (profile : Option Profile) (o v : Outlet) : Prop :=
  v.session.offer ≤ o.session.offer ∨
    ∃ p, profile = some p ∧ v.session.offer ≤ rampTop p o.session.offer ∧ v.session.offer ≤ v.supervision.windowMax

theorem OfferHeld.le (held : OfferHeld o u) : u.session.offer ≤ o.session.offer := by
  rcases held with same | ⟨le, -⟩
  · exact same.le
  · exact le

/-- The operations of a boundary beside the ramp leave an offer and its target, or set both to 0. -/
theorem RecordOp.offer_beside {profile : Option Profile} {kind : RecordKind} (op : RecordOp profile u kind v)
    (beside : kind = .plain ∨ kind = .unstalled) :
    (v.session.offer = u.session.offer ∧ v.share.target = u.share.target ∧ u.supervision.windowMax ≤ v.supervision.windowMax ∨
      v.session.offer = u.session.offer ∧ v.share.target = u.share.target ∧ v.session.offer ≤ v.supervision.windowMax) ∨
    v.session.offer = 0 ∧ v.share.target = 0 := by
  cases op with
  | history => exact .inl (.inr ⟨rfl, rfl, le_rfl⟩)
  | faulted => exact .inr ⟨rfl, rfl⟩
  | stalled => exact .inl (.inl (by simp [stallOutlet]))
  | shared share target => exact .inl (.inl ⟨rfl, target, le_rfl⟩)
  | snapshot theta => exact .inl (.inl (by unfold snapshotSession; split_ifs <;> exact ⟨rfl, rfl, le_rfl⟩))
  | ticked => exact .inl (.inl (by rw [tickRecord_eq]; split <;> exact ⟨rfl, rfl, le_rfl⟩))
  | ramped | opened | amended | closed | charged | counted | completed | toppedUp => rcases beside with h | h <;> cases h
  | _ => exact .inl (.inl ⟨rfl, rfl, le_rfl⟩)

theorem OfferHeld.op {profile : Option Profile} {kind : RecordKind} (held : OfferHeld o u) (op : RecordOp profile u kind v)
    (beside : kind = .plain ∨ kind = .unstalled) : OfferHeld o v := by
  rcases op.offer_beside beside with (⟨offer, target, -⟩ | ⟨offer, target, -⟩) | ⟨offer, target⟩
  · rwa [OfferHeld, offer, target]
  · rwa [OfferHeld, offer, target]
  · exact .inr ⟨by rw [offer]; exact Nat.zero_le _, by rw [offer, target]⟩

theorem OfferHeld.lowered (held : OfferHeld o u) (target : Nat) : OfferHeld o (giveTarget false u target) := by
  have offer := giveTarget_offer u false target
  have lower := giveTarget_false_target u target
  rcases held with same | ⟨le, settled⟩
  · by_cases within : u.session.offer ≤ (giveTarget false u target).share.target
    · exact .inl (by rw [offer, Nat.min_eq_left within, same])
    · exact .inr (by omega)
  · exact .inr (by omega)

theorem OfferHeld.of_giveTarget (mayRaise : Bool) (o : Outlet) (target : Nat) : OfferHeld o (giveTarget mayRaise o target) := by
  have offer := giveTarget_offer o mayRaise target
  by_cases within : o.session.offer ≤ (giveTarget mayRaise o target).share.target
  · exact .inl (by rw [offer, Nat.min_eq_left within])
  · exact .inr (by omega)

theorem OfferRamped.op {profile found : Option Profile} {kind : RecordKind} (ramped : OfferRamped found o u)
    (op : RecordOp profile u kind v) (beside : kind = .plain ∨ kind = .unstalled) : OfferRamped found o v := by
  rcases op.offer_beside beside with (⟨offer, -, windowMax⟩ | ⟨offer, -, windowMax⟩) | ⟨offer, -⟩
  · rw [OfferRamped, offer]
    exact ramped.imp_right fun ⟨p, loaded, step, max⟩ => ⟨p, loaded, step, max.trans windowMax⟩
  · rw [OfferRamped, offer]
    exact ramped.imp_right fun ⟨p, loaded, step, max⟩ => ⟨p, loaded, step, offer ▸ windowMax⟩
  · exact .inl (by rw [offer]; exact Nat.zero_le _)

theorem OfferRamped.given {found : Option Profile} (ramped : OfferRamped found o u) (mayRaise : Bool) (target : Nat) :
    OfferRamped found o (giveTarget mayRaise u target) := by
  have offer := giveTarget_offer u mayRaise target
  have windowMax : (giveTarget mayRaise u target).supervision.windowMax = u.supervision.windowMax := by
    rcases giveTarget_supervision u mayRaise target with h | h <;> rw [h]
  rcases ramped with le | ⟨p, loaded, step, max⟩
  · exact .inl (by omega)
  · exact .inr ⟨p, loaded, by omega, by omega⟩

/-- What the ramp of an outlet makes of its own record: the ramped one, with its target lowered where the session starts to charge (R5, R143). -/
theorem ramp_at {p : Profile} (loaded : s.host.profile = some p) (found : s.outlets[n]? = some u) (found' : (ramp n s).outlets[n]? = some v) :
    (startsCharging p u = false ∧ v = rampOutlet p u) ∨
      startsCharging p u = true ∧ v = giveTarget false (rampOutlet p u)
        (cappedTarget p s.census.participation s.shares.curtail (s.outlets.modify n (rampOutlet p)) n) := by
  have own : (modifyOutlet n (rampOutlet p) s).outlets[n]? = some (rampOutlet p u) := by
    rw [modifyOutlet_getElem?, found, if_pos rfl]; rfl
  unfold Machine.ramp at found'
  rw [loaded, found] at found'
  dsimp only at found'
  split_ifs at found' with starts
  · rw [recompute_of_profile (p := p) false (by exact loaded), retarget_getElem?, own] at found'
    exact .inr ⟨starts, (Option.some.inj found').symm⟩
  · exact .inl ⟨by simpa using starts, Option.some.inj (found'.symm.trans own)⟩

/-- The ramp of an outlet takes an offer that was held to one ramped (R143, R151). -/
theorem OfferHeld.ramp (held : OfferHeld o u) (found : s.outlets[n]? = some u) (found' : (ramp n s).outlets[n]? = some v) :
    OfferRamped s.host.profile o v := by
  cases loaded : s.host.profile with
  | none =>
    rw [Machine.ramp, loaded] at found'
    obtain rfl := Option.some.inj (found.symm.trans found')
    exact .inl held.le
  | some p =>
    have ramped : OfferRamped (some p) o (rampOutlet p u) := by
      by_cases settled : u.share.target ≤ u.session.offer
      · rw [rampOutlet, if_pos settled]
        exact .inl held.le
      · have same : u.session.offer = o.session.offer := by
          rcases held with same | ⟨-, below⟩
          · exact same
          · exact absurd below settled
        have offer := rampOutlet_offer p u (by omega)
        have windowMax := rampOutlet_windowMax p u
        rw [if_neg settled, rampedOffer_eq_min p (by omega)] at windowMax
        refine .inr ⟨p, rfl, ?_, ?_⟩
        · rw [offer, same]; exact Nat.min_le_right _ _
        · rw [offer, windowMax]; exact le_max_right _ _
    rcases ramp_at loaded found found' with ⟨-, rfl⟩ | ⟨-, rfl⟩
    · exact ramped
    · exact ramped.given false _

/-- The kinds beside a ramp of outlet n, at outlet n itself. -/
theorem BesideRamp.own {kind : RecordKind} (ok : kind = .plain ∨ BesideRamp n n kind) : kind = .plain ∨ kind = .unstalled := by
  rcases ok with plain | unstalled | ⟨-, other⟩
  · exact .inl plain
  · exact .inr unstalled
  · exact absurd rfl other

theorem OfferHeld.steps (held : OfferHeld o u) (steps : OutletSteps (BesideRamp n) s t) (found : s.outlets[n]? = some u)
    (found' : t.outlets[n]? = some v) : OfferHeld o v := by
  refine steps.relates (R := fun a b => OfferHeld o a → OfferHeld o b) (fun _ => id)
    (fun _ _ _ _ _ ok op before held => (before held).op op (BesideRamp.own ok))
    (fun _ _ _ mayRaise _ _ target raises _ before held => ?_) found found' held
  cases mayRaise with
  | true => rcases raises rfl with h | ⟨h, -⟩ <;> cases h
  | false => exact (before held).lowered target

theorem OfferRamped.steps {profile : Option Profile} (ramped : OfferRamped profile o u) (steps : OutletSteps (AfterRamp n) s t)
    (found : s.outlets[n]? = some u) (found' : t.outlets[n]? = some v) : OfferRamped profile o v := by
  refine steps.relates (R := fun a b => OfferRamped profile o a → OfferRamped profile o b) (fun _ => id)
    (fun _ _ _ _ _ ok op before ramped => (before ramped).op op (BesideRamp.own (n := n) ?_))
    (fun _ _ _ mayRaise _ _ target _ _ before ramped => (before ramped).given mayRaise target) found found' ramped
  rcases ok with plain | raised | beside
  · exact .inl plain
  · subst raised
    cases op
  · exact .inr beside

/-- A boundary seen from outlet n, with the offer held before its ramp: the offer after it. -/
theorem offerRamped_around {w : State} (held : OfferHeld o u) (found : s.outlets[n]? = some u) (before : OutletSteps (BesideRamp n) s w)
    (profile : w.host.profile = s.host.profile) (after : OutletSteps (AfterRamp n) (ramp n w) t) (found' : t.outlets[n]? = some v) :
    OfferRamped s.host.profile o v := by
  have within : n < w.outlets.length := by
    rw [before.length]
    exact (List.getElem?_eq_some_iff.mp found).1
  have middle := List.getElem?_eq_getElem within
  have ramps : OutletSteps (fun _ _ => True) w (ramp n w) := ramp_steps trivial w
  have rampWithin : n < (ramp n w).outlets.length := by
    rw [ramps.length]
    exact within
  have ramped := (held.steps before found middle).ramp middle (List.getElem?_eq_getElem rampWithin)
  rw [profile] at ramped
  exact ramped.steps after (List.getElem?_eq_getElem rampWithin) found'

theorem endFullWindow_offerRamped (feederFirst : Bool) (found : s.outlets[n]? = some o)
    (found' : (endFullWindow feederFirst s).outlets[n]? = some v) : OfferRamped s.host.profile o v := by
  obtain ⟨w, before, -, profile, after⟩ := endFullWindow_around (P := fun _ => True) feederFirst trivial (fun _ => id) (fun _ => id)
    (fun _ _ => id) (fun _ => id) (List.getElem?_eq_some_iff.mp found).1
  exact offerRamped_around (.inl rfl) found before profile (afterRamp_steps (othersTurn_beside after)) found'

/-- A record at a snapshot point (R26 to R29). -/
def snappedOutlet (p : Profile) (o : Outlet) : Outlet := { o with session := snapshotSession p.tightThreshold o.session }

/-- The outlets of a frame as prepared: each with its snapshot, and in ISLANDED with the targets of the fallback (R29, R37, R72). -/
theorem prepareFrame_outlets_of_profile {p : Profile} (loaded : s.host.profile = some p) (part : s.census.participation ≠ .offline) :
    (prepareFrame s).outlets =
      if s.census.participation = .islanded then retarget p .islanded s.shares.curtail true (s.outlets.map (snappedOutlet p))
      else s.outlets.map (snappedOutlet p) := by
  have snap : (snapshot s).outlets = s.outlets.map (snappedOutlet p) := by rw [snapshot, loaded]; rfl
  dsimp only [prepareFrame]
  rw [if_pos ((takesPart_iff s).mpr part)]
  simp only [snapshot_census]
  split_ifs with islanded
  · rw [recompute_of_profile (p := p) true (by simpa using loaded)]
    simp [snap, islanded]
  · exact snap

theorem prepareFrame_outlets_of_none (none : s.host.profile = none) : (prepareFrame s).outlets = s.outlets := by
  have snap : (snapshot s).outlets = s.outlets := by rw [snapshot, none]
  dsimp only [prepareFrame]
  split_ifs
  · rw [recompute_of_none true (by simpa using none)]
    exact snap
  · exact snap
  · rfl

theorem prepareFrame_of_offline (offline : s.census.participation = .offline) : prepareFrame s = s := by
  rw [prepareFrame, if_neg]
  rw [takesPart_iff]
  exact not_not.mpr offline

theorem snapshotSession_offer (theta : Nat) (r : Session) : (snapshotSession theta r).offer = r.offer := by
  unfold snapshotSession; split_ifs <;> rfl

/-- A prepared frame holds an offer or lowers it to the fallback target (R72, R138). -/
theorem prepareFrame_offerHeld (found : s.outlets[n]? = some o) (found' : (prepareFrame s).outlets[n]? = some v) : OfferHeld o v := by
  cases loaded : s.host.profile with
  | none =>
    rw [prepareFrame_outlets_of_none loaded, found] at found'
    exact .inl (Option.some.inj found' ▸ rfl)
  | some p =>
    have snapped : OfferHeld o (snappedOutlet p o) := .inl (snapshotSession_offer _ _)
    by_cases offline : s.census.participation = .offline
    · rw [prepareFrame_of_offline offline, found] at found'
      exact .inl (Option.some.inj found' ▸ rfl)
    · rw [prepareFrame_outlets_of_profile loaded offline] at found'
      split_ifs at found' with islanded
      · rw [retarget_getElem?, List.getElem?_map, found] at found'
        obtain rfl := Option.some.inj found'
        have held := OfferHeld.of_giveTarget true (snappedOutlet p o)
          ((cappedTargets p .islanded s.shares.curtail (s.outlets.map (snappedOutlet p))).getD n 0)
        rw [OfferHeld, show (snappedOutlet p o).session.offer = o.session.offer from snapshotSession_offer _ _] at held
        exact held
      · rw [List.getElem?_map, found] at found'
        exact Option.some.inj found' ▸ snapped

theorem frameZero_offerRamped (boundaryFirst : Bool) (found : s.outlets[n]? = some o)
    (found' : (frameZero boundaryFirst s).outlets[n]? = some v) : OfferRamped s.host.profile o v := by
  obtain ⟨t, outlets, host, -, order⟩ := frameZero_cases boundaryFirst s
  have within : n < t.outlets.length := by rw [outlets]; exact (List.getElem?_eq_some_iff.mp found).1
  rw [← outlets] at found
  rw [← host]
  rcases order with order | order <;> rw [order] at found'
  · obtain ⟨w, before, profile, after⟩ := cutWindow_around within
    have prepared : OutletSteps (AfterRamp n) (cutWindow t) (prepareFrame (cutWindow t)) := prepareFrame_steps fun _ _ => .inl rfl
    exact offerRamped_around (.inl rfl) found before profile ((afterRamp_steps (othersTurn_beside after)).trans prepared) found'
  · have prepared : OutletSteps (AfterRamp n) t (prepareFrame t) := prepareFrame_steps fun _ _ => .inl rfl
    have within' : n < (prepareFrame t).outlets.length := by rw [prepared.length]; exact within
    obtain ⟨w, before, profile, after⟩ := cutWindow_around within'
    have middle := List.getElem?_eq_getElem within'
    rw [← prepareFrame_profile (s := t)]
    exact offerRamped_around (prepareFrame_offerHeld found middle) middle before profile (afterRamp_steps (othersTurn_beside after)) found'

/-- An operation other than the ramp raises no offer. -/
theorem RecordOp.offer_le {profile : Option Profile} {kind : RecordKind} (op : RecordOp profile u kind v) (other : kind ≠ .ramped) :
    v.session.offer ≤ u.session.offer := by
  cases op with
  | ramped => exact absurd rfl other
  | opened | closed | toppedUp | faulted => exact Nat.zero_le _
  | amended p need departure vanMax loaded occupied sound =>
    rcases amendOutlet_cases p need departure vanMax occupied sound with ⟨-, -, h⟩ | ⟨-, -, h⟩ | ⟨-, -, h⟩ | ⟨-, -, h⟩ <;> rw [h]
    exacts [Nat.zero_le _, le_rfl, le_rfl, Nat.zero_le _]
  | stalled => simp [stallOutlet]
  | snapshot theta => exact (snapshotSession_offer theta u.session).le
  | ticked => rw [tickRecord_eq]; split <;> exact le_rfl
  | completed =>
    by_cases vacant : u.session.state = .vacant
    · rw [completeSession_of_vacant vacant]
    · rw [completeSession_eq vacant]
  | _ => exact le_rfl

/-- An event without a ramp raises no offer. -/
theorem OutletSteps.offer_le {allowed : Nat → RecordKind → Prop} (steps : OutletSteps allowed s t) (noRamp : ¬ allowed n .ramped)
    (found : s.outlets[n]? = some o) (found' : t.outlets[n]? = some v) : v.session.offer ≤ o.session.offer := by
  refine steps.relates (R := fun a b => b.session.offer ≤ a.session.offer) (fun _ => le_rfl)
    (fun _ _ _ kind _ ok op before => (op.offer_le ?_).trans before) (fun _ _ _ mayRaise _ u target _ _ before => ?_) found found'
  · rintro rfl
    rcases ok with h | h
    · cases h
    · exact noRamp h
  · have offer := giveTarget_offer u mayRaise target
    omega

/-- Settles O34: where no ramp is allowed no operation raises an offer, and a boundary ramps it once. -/
theorem offerRisesByTheRamp : Obligations.OfferRisesByTheRamp := by
  intro c s t n o o' step found found' rises
  cases reset : isReset c with
  | true =>
    rcases exec_reset_cases reset step with ⟨outlets, -⟩ | ⟨straps, held, ignore, rfl, -⟩
    · rw [outlets, found] at found'
      obtain rfl := Option.some.inj found'
      exact absurd rises (lt_irrefl _)
    · rw [afterReset_cleared (List.mem_of_getElem? found')] at rises
      exact absurd rises (Nat.not_lt_zero _)
  | false =>
    have boundary : IsBoundaryEvent c s t := by
      by_contra noRamp
      exact absurd rises ((commandSteps_of_exec reset step).offer_le noRamp found found').not_gt
    have ofRamped (ramped : OfferRamped s.host.profile o o') : ∃ p, s.host.profile = some p ∧
        o'.session.offer ≤ rampTop p o.session.offer ∧ o'.session.offer ≤ o'.supervision.windowMax :=
      ramped.resolve_left rises.not_ge
    rcases boundary with ⟨boundary, noEdge, feederFirst, rfl⟩ | ⟨samples, boundaryFirst, rfl, notFrame, rfl⟩
    · exact ⟨boundary, fun _ _ edge => absurd edge (noEdge _ _), ofRamped (endFullWindow_offerRamped feederFirst found found')⟩
    · refine ⟨rfl, fun _ _ _ => ⟨notFrame, ?_⟩, ofRamped (frameZero_offerRamped boundaryFirst found found')⟩
      rw [frameZero_line]
      rfl

end

end Sys2Proof.Machine
end

section
/-! PROOFS. The law of the post (R140, R143, obligation O36). A record's law is cut in two: what every recomputation brings about from weak
premises, and that a CHARGING session draws. A session that leaves STALLED can be CHARGING with offer 0 until the ramp of its own turn, so the
second half is followed outlet by outlet across a full window end. -/

set_option Elab.async false

namespace Sys2Proof.Machine

/-- What a record meets before a recomputation. -/
structure WeakLaw (p : Profile) (o : Outlet) : Prop where
  order : o.session.state ≠ .vacant → p.minCurrent ≤ o.session.vanMax ∧ o.session.vanMax ≤ p.seatCeiling
  target : o.share.target = 0 ∨ p.minCurrent ≤ o.share.target
  offer : o.session.offer = 0 ∨ p.minCurrent ≤ o.session.offer
  paused : o.session.state = .paused → o.session.offer = 0

/-- What a record meets after a recomputation: the law of the post but that a CHARGING session draws. -/
structure SoftLaw (p : Profile) (o : Outlet) : Prop where
  order : o.session.state ≠ .vacant → p.minCurrent ≤ o.session.vanMax ∧ o.session.vanMax ≤ p.seatCeiling
  target : o.share.target = 0 ∨ (p.minCurrent ≤ o.share.target ∧ o.share.target ≤ o.session.vanMax)
  offer : o.session.offer = 0 ∨ p.minCurrent ≤ o.session.offer
  within : o.session.offer ≤ o.share.target
  resting : o.session.state = .vacant ∨ o.session.state = .topped ∨ o.session.state = .faulted → o.share.target = 0
  paused : o.session.state = .paused → o.session.offer = 0
  charging : o.session.state = .charging → o.share.target ≠ 0

/-- A CHARGING session has an offer. -/
def Draws (o : Outlet) : Prop := o.session.state = .charging → o.session.offer ≠ 0

/-- The law of the post but that CHARGING sessions draw. -/
def SoftPost (p : Profile) (os : List Outlet) : Prop :=
  profileInRange p = true ∧ (∀ o ∈ os, SoftLaw p o) ∧ (os.map fun o => o.share.target).sum ≤ p.postLimit

section
variable {p : Profile} {o o' : Outlet} {s t : State} {n : Nat}

theorem offerLaw_iff : OfferLaw p o ↔ SoftLaw p o ∧ Draws o := by
  constructor
  · rintro ⟨order, target, offer, within, resting, paused, draws⟩
    exact ⟨⟨order, target, offer, within, resting, paused, fun charging zero => draws charging (by omega)⟩, draws⟩
  · rintro ⟨law, draws⟩
    exact ⟨law.order, law.target, law.offer, law.within, law.resting, law.paused, draws⟩

theorem SoftLaw.weak (law : SoftLaw p o) : WeakLaw p o :=
  ⟨law.order, law.target.imp_right fun ⟨least, _⟩ => least, law.offer, law.paused⟩

theorem postLaw_iff (loaded : s.host.profile = some p) : PostLaw s ↔ SoftPost p s.outlets ∧ ∀ o ∈ s.outlets, Draws o := by
  simp only [PostLaw, loaded, SoftPost, offerLaw_iff, forall₂_and]
  tauto

/-! What a recomputation brings about. -/

theorem sum_targets_le {os os' : List Outlet} (each : EachOutlet (fun _ o o' => o'.share.target ≤ o.share.target) os os') :
    (os'.map fun o => o.share.target).sum ≤ (os.map fun o => o.share.target).sum := by
  refine List.Forall₂.sum_le_sum (List.forall₂_iff_get.mpr ⟨by simp [each.1], fun i left right => ?_⟩)
  simp only [List.length_map] at left right
  simp only [List.get_eq_getElem, List.getElem_map]
  exact each.2 i _ _ (List.getElem?_eq_getElem right) (List.getElem?_eq_getElem left)

/-- A raw target is 0 or between I_min and the session's van max (R137 to R139). -/
theorem tableTarget_range (inRange : profileInRange p = true)
    (order : o.session.state ≠ .vacant → p.minCurrent ≤ o.session.vanMax ∧ o.session.vanMax ≤ p.seatCeiling) (part : Participation)
    (curtail : Nat) : tableTarget p part curtail o = 0 ∨
      (p.minCurrent ≤ tableTarget p part curtail o ∧ tableTarget p part curtail o ≤ o.session.vanMax) := by
  obtain ⟨-, -, -, -, -, -, -, -, -, -, -, -, -, fallback, -⟩ := (profileInRange_iff p).mp inRange
  unfold tableTarget
  split_ifs with rest stalled joined low banded uncurtailed late
  · exact .inl rfl
  · exact .inr ⟨le_rfl, (order (by rw [stalled]; exact nofun)).1⟩
  · exact .inl rfl
  · exact .inr ⟨by omega, Nat.min_le_left _ _⟩
  · exact .inl rfl
  · have occupied : o.session.state ≠ .vacant := fun vacant => rest (.inr (.inr (.inl vacant)))
    have bounds := order occupied
    rcases fallback with zero | ⟨least, -⟩
    · exact .inl (by rw [zero, Nat.min_zero])
    · exact .inr ⟨by omega, Nat.min_le_left _ _⟩
  · have occupied : o.session.state ≠ .vacant := fun vacant => rest (.inr (.inr (.inl vacant)))
    exact .inr ⟨le_rfl, (order occupied).1⟩
  · exact .inl rfl

/-- The target that a recomputation makes is 0 or between I_min and the session's van max (R137 to R140). -/
theorem cappedTarget_range {os : List Outlet} (inRange : profileInRange p = true) (law : WeakLaw p o) (found : os[n]? = some o)
    (part : Participation) (curtail : Nat) : cappedTarget p part curtail os n = 0 ∨
      (p.minCurrent ≤ cappedTarget p part curtail os n ∧ cappedTarget p part curtail os n ≤ o.session.vanMax) := by
  have le := cappedTarget_le p part curtail found
  have raw : (os.map (rawTarget p part curtail)).getD n 0 = tableTarget p part curtail o := by
    rw [List.getD_eq_getElem?_getD, List.getElem?_map, found, ← rawTarget_eq_tableTarget]
    rfl
  have cases := postCap_cases (m := p.minCurrent) (limit := p.postLimit) (order := cutOrder os) (ts := os.map (rawTarget p part curtail)) n
  rw [raw] at cases
  rcases tableTarget_range inRange law.order part curtail with zero | ⟨least, most⟩
  · exact .inl (by omega)
  · rcases cases with zero | kept
    · exact .inl zero
    · refine .inr ⟨?_, by omega⟩
      rw [Nat.min_eq_right least] at kept
      exact kept

/-- A record with a new target that is one of the tables. -/
theorem softLaw_giveTarget {target : Nat} (law : WeakLaw p o) (mayRaise : Bool)
    (range : target = 0 ∨ (p.minCurrent ≤ target ∧ target ≤ o.session.vanMax))
    (resting : o.session.state = .vacant ∨ o.session.state = .topped ∨ o.session.state = .faulted → target = 0) :
    SoftLaw p (giveTarget mayRaise o target) := by
  have offer := giveTarget_offer o mayRaise target
  have state := giveTarget_state_eq o mayRaise target
  have given : (giveTarget mayRaise o target).share.target = if mayRaise then target else min target o.share.target := by
    rw [giveTarget_share]
  have vanMax : (giveTarget mayRaise o target).session.vanMax = o.session.vanMax := by rw [giveTarget_session]
  have le : (giveTarget mayRaise o target).share.target ≤ target := by
    rw [given]; split <;> omega
  have range' : (giveTarget mayRaise o target).share.target = 0 ∨ p.minCurrent ≤ (giveTarget mayRaise o target).share.target := by
    have held := law.target
    rw [given]; split <;> omega
  have offered := law.offer
  have moved : (giveTarget mayRaise o target).session.state = o.session.state ∨
      o.session.state = .charging ∧ (giveTarget mayRaise o target).share.target = 0 ∧
        (giveTarget mayRaise o target).session.state = .paused := by
    by_cases both : o.session.state = .charging ∧ (giveTarget mayRaise o target).share.target = 0
    · exact .inr ⟨both.1, both.2, by rw [state, if_pos both]⟩
    · exact .inl (by rw [state, if_neg both])
  refine ⟨fun occupied => ?_, ?_, by omega, by omega, fun rest => ?_, fun paused => ?_, fun charging zero => ?_⟩
  · rw [vanMax]
    refine law.order fun vacant => occupied ?_
    rcases moved with same | ⟨charging, -⟩
    · rw [same, vacant]
    · rw [vacant] at charging; cases charging
  · rw [vanMax]
    rcases range' with zero | least
    · exact .inl zero
    · exact .inr ⟨least, by omega⟩
  · rcases moved with same | ⟨-, zero, -⟩
    · have := resting (by rw [← same]; exact rest)
      omega
    · exact zero
  · rcases moved with same | ⟨-, zero, -⟩
    · have := law.paused (by rw [← same]; exact paused)
      omega
    · omega
  · rcases moved with same | ⟨-, -, paused⟩
    · have was : o.session.state = .charging := same.symm.trans charging
      rw [state, if_pos ⟨was, zero⟩] at charging
      cases charging
    · rw [paused] at charging; cases charging

/-- Records that meet the weak law meet all but the drawing half of the law of the post after a recomputation (R140, R141). -/
theorem softPost_retarget {os : List Outlet} (inRange : profileInRange p = true) (weak : ∀ o ∈ os, WeakLaw p o) (part : Participation)
    (curtail : Nat) (mayRaise : Bool) : SoftPost p (retarget p part curtail mayRaise os) := by
  refine ⟨inRange, fun o' mem => ?_, ?_⟩
  · obtain ⟨n, found'⟩ := List.mem_iff_getElem?.mp mem
    have within : n < os.length := by
      rw [← retarget_length p part curtail mayRaise os]
      exact (List.getElem?_eq_some_iff.mp found').1
    have found := List.getElem?_eq_getElem within
    rw [retarget_getElem?, found] at found'
    obtain rfl := Option.some.inj found'
    have law := weak _ (List.getElem_mem within)
    refine softLaw_giveTarget law mayRaise (cappedTarget_range inRange law found part curtail) fun rest => ?_
    have le := cappedTarget_le p part curtail found
    have zero : tableTarget p part curtail os[n] = 0 := by rw [← rawTarget_eq_tableTarget, rawTarget_of_noTarget p part curtail rest]
    rw [zero] at le
    exact Nat.le_zero.mp le
  · have raised : EachOutlet (fun _ o o' => o'.share.target ≤ o.share.target) (retarget p part curtail true os)
        (retarget p part curtail mayRaise os) := by
      refine ⟨by rw [retarget_length, retarget_length], fun n o o' found found' => ?_⟩
      rw [retarget_getElem?] at found found'
      obtain ⟨u, foundU, rfl⟩ := Option.map_eq_some_iff.mp found
      rw [foundU] at found'
      obtain rfl := Option.some.inj found'
      rw [giveTarget_share, giveTarget_share]
      cases mayRaise
      · exact Nat.min_le_left _ _
      · exact le_rfl
    refine (sum_targets_le raised).trans ?_
    rw [retarget_targets]
    exact postCap_sum_le (rawTargets_covered p part curtail os)

/-- A new target leaves a session that draws drawing. -/
theorem Draws.giveTarget (draws : Draws o) (mayRaise : Bool) (target : Nat) : Draws (giveTarget mayRaise o target) := by
  intro charging
  have offer := giveTarget_offer o mayRaise target
  rw [giveTarget_state_eq] at charging
  split_ifs at charging with both
  have some := draws charging
  have target : (Machine.giveTarget mayRaise o target).share.target ≠ 0 := fun zero => both ⟨charging, zero⟩
  omega

/-! What the operations keep of it. -/

theorem SoftLaw.of_same (law : SoftLaw p o) (state : o'.session.state = o.session.state) (vanMax : o'.session.vanMax = o.session.vanMax)
    (offer : o'.session.offer = o.session.offer) (target : o'.share.target = o.share.target) : SoftLaw p o' := by
  constructor
  · rw [state, vanMax]; exact law.order
  · rw [target, vanMax]; exact law.target
  · rw [offer]; exact law.offer
  · rw [offer, target]; exact law.within
  · rw [state, target]; exact law.resting
  · rw [state, offer]; exact law.paused
  · rw [state, target]; exact law.charging

/-- A record without an offer and a target, in a state that needs neither. -/
theorem SoftLaw.of_empty (order : o.session.state ≠ .vacant → p.minCurrent ≤ o.session.vanMax ∧ o.session.vanMax ≤ p.seatCeiling)
    (target : o.share.target = 0) (offer : o.session.offer = 0) (idle : o.session.state ≠ .charging) : SoftLaw p o :=
  ⟨order, .inl target, .inl offer, by omega, fun _ => target, fun _ => offer, fun charging => absurd charging idle⟩

theorem rampedOffer_pos (positive : 0 < p.minCurrent) {offer target : Nat} (some : 0 < target) : 0 < rampedOffer p offer target := by
  unfold rampedOffer; split_ifs <;> omega

/-- The ramp at one outlet: nothing, the start of charging, or an offer raised in its state (R143). -/
theorem rampOutlet_state_cases (p : Profile) (o : Outlet) :
    (o.share.target ≤ o.session.offer ∧ rampOutlet p o = o) ∨
    (o.session.offer < o.share.target ∧ o.session.state = .paused ∧ o.session.offer = 0 ∧
      (rampOutlet p o).session.state = .charging ∧ 0 < (rampOutlet p o).session.offer) ∨
    (o.session.offer < o.share.target ∧ (o.session.state = .paused → o.session.offer ≠ 0 ∨ rampedOffer p 0 o.share.target = 0) ∧
      (rampOutlet p o).session.state = o.session.state) := by
  unfold rampOutlet
  split_ifs with settled starts
  · exact .inl ⟨settled, rfl⟩
  · simp only [startsCharging, Bool.and_eq_true, beq_iff_eq, decide_eq_true_eq] at starts
    obtain ⟨⟨paused, zero⟩, some⟩ := starts
    exact .inr (.inl ⟨by omega, paused, zero, rfl, some⟩)
  · refine .inr (.inr ⟨by omega, fun paused => ?_, rfl⟩)
    simp only [startsCharging, Bool.and_eq_true, beq_iff_eq, decide_eq_true_eq, not_and, Nat.not_lt, Nat.le_zero] at starts
    by_cases zero : o.session.offer = 0
    · exact .inr (zero ▸ starts ⟨paused, zero⟩)
    · exact .inl zero

theorem softLaw_rampOutlet (positive : 0 < p.minCurrent) (law : SoftLaw p o) : SoftLaw p (rampOutlet p o) := by
  rcases rampOutlet_state_cases p o with ⟨-, same⟩ | ⟨above, paused, zero, charging, some⟩ | ⟨above, stays, state⟩
  · rw [same]; exact law
  · have offer := rampOutlet_offer p o law.within
    have vanMax := rampOutlet_vanMax p o
    have share := rampOutlet_share p o
    have target := law.target
    have top : p.minCurrent ≤ rampTop p o.session.offer := by rw [rampTop, if_pos zero]; exact le_max_left _ _
    refine ⟨fun _ => ?_, by rw [share, vanMax]; exact target, by omega, by rw [share]; omega, fun rest => ?_,
      fun paused => (by rw [charging] at paused; cases paused), fun _ => by rw [share]; omega⟩
    · rw [vanMax]; exact law.order (by rw [paused]; exact nofun)
    · rw [charging] at rest; rcases rest with h | h | h <;> cases h
  · have offer := rampOutlet_offer p o law.within
    have vanMax := rampOutlet_vanMax p o
    have share := rampOutlet_share p o
    have target := law.target
    have offered := law.offer
    have top : p.minCurrent ≤ rampTop p o.session.offer := by
      unfold rampTop; split <;> omega
    refine ⟨by rw [state, vanMax]; exact law.order, by rw [share, vanMax]; exact target, by omega, by rw [share]; omega,
      by rw [state, share]; exact law.resting, fun paused => ?_, by rw [state, share]; exact law.charging⟩
    rw [state] at paused
    rcases stays paused with some | none
    · exact absurd (law.paused paused) some
    · exact absurd none (rampedOffer_pos positive (by omega)).ne'

/-- The kinds of change that leave the law of the post but for its drawing half; the two others come with a recomputation. -/
def IsCalm (kind : RecordKind) : Prop := kind ≠ .amended ∧ kind ≠ .unstalled

theorem RecordOp.keepsSoft {profile : Option Profile} {kind : RecordKind} (op : RecordOp profile o kind o') (calm : IsCalm kind)
    (loaded : profile = some p) (inRange : profileInRange p = true) (law : SoftLaw p o) : SoftLaw p o' := by
  obtain ⟨-, -, -, -, -, ordered, least, -⟩ := (profileInRange_iff p).mp inRange
  cases op with
  | amended => exact absurd rfl calm.1
  | unstalled => exact absurd rfl calm.2
  | faulted kind occupied =>
    refine .of_empty (fun _ => ?_) rfl rfl nofun
    have vanMax : (faultOutlet kind o).session.vanMax = o.session.vanMax := by simp [faultOutlet]
    rw [vanMax]
    exact law.order occupied
  | stalled charging =>
    have target := law.charging charging
    have session : (stallOutlet o).session.offer = o.session.offer ∧ (stallOutlet o).session.vanMax = o.session.vanMax ∧
        (stallOutlet o).share.target = o.share.target := by simp [stallOutlet]
    obtain ⟨offer, vanMax, share⟩ := session
    refine ⟨fun _ => ?_, ?_, by rw [offer]; exact law.offer, by rw [offer, share]; exact law.within, fun rest => ?_, nofun, nofun⟩
    · rw [vanMax]; exact law.order (by rw [charging]; exact nofun)
    · rw [share, vanMax]; exact law.target
    · rcases rest with h | h | h <;> cases h
  | shared share target => exact law.of_same rfl rfl rfl target
  | snapshot theta =>
    exact law.of_same (snapshotSession_state _ _) (by unfold snapshotSession; split_ifs <;> rfl) (snapshotSession_offer _ _) rfl
  | ticked => rw [tickRecord_eq]; split <;> exact law.of_same rfl rfl rfl rfl
  | ramped q same =>
    obtain rfl := Option.some.inj (loaded.symm.trans same)
    exact softLaw_rampOutlet (by omega) law
  | opened q number need departure vanMax tag same vacant =>
    obtain rfl := Option.some.inj (loaded.symm.trans same)
    have idle : (openedSession p number need departure vanMax tag).state ≠ .charging := by
      unfold openedSession; dsimp only; split <;> exact nofun
    refine .of_empty (fun _ => ?_) (law.resting (.inl vacant)) rfl idle
    show p.minCurrent ≤ clampVanMax p vanMax ∧ clampVanMax p vanMax ≤ p.seatCeiling
    unfold clampVanMax
    omega
  | closed => exact .of_empty (fun occupied => absurd rfl occupied) rfl rfl nofun
  | completed =>
    by_cases vacant : o.session.state = .vacant
    · rw [completeSession_of_vacant vacant]; exact law
    · rw [completeSession_eq vacant]; exact law.of_same rfl rfl rfl rfl
  | toppedUp last =>
    have occupied : o.session.state ≠ .vacant := fun vacant => by rw [topsAfter, vacant] at last; cases last
    refine .of_empty (fun _ => ?_) rfl rfl nofun
    have vanMax : (topOutlet { o with session := completeSession o.session }).session.vanMax = o.session.vanMax := by
      simp [topOutlet, completeSession_eq occupied]
    rw [vanMax]
    exact law.order occupied
  | _ => exact law.of_same rfl rfl rfl rfl

/-- No operation but the end of STALLED takes the offer of a CHARGING session. -/
theorem RecordOp.keepsDraws {profile : Option Profile} {kind : RecordKind} (op : RecordOp profile o kind o') (other : kind ≠ .unstalled)
    (draws : Draws o) : Draws o' := by
  cases op with
  | unstalled => exact absurd rfl other
  | faulted | closed | toppedUp | stalled => exact nofun
  | snapshot theta =>
    rw [Draws, snapshotSession_state, snapshotSession_offer]; exact draws
  | ticked => rw [tickRecord_eq]; split <;> exact draws
  | ramped q =>
    rcases rampOutlet_state_cases q o with ⟨-, same⟩ | ⟨-, -, -, -, some⟩ | ⟨above, -, state⟩
    · rw [same]; exact draws
    · exact fun _ => some.ne'
    · intro charging
      rw [state] at charging
      have offer := rampOutlet_offer q o above.le
      have raised := (rampedOffer_bounds q o.session.offer o.share.target).1
      rw [rampedOffer_eq_min q above.le] at raised
      have some := draws charging
      omega
  | opened q number need =>
    intro charging
    have idle : (openedSession q number need _ _ _).state = .charging := charging
    unfold openedSession at idle
    dsimp only at idle
    split at idle <;> cases idle
  | amended q need departure vanMax loaded occupied sound =>
    rcases amendOutlet_cases q need departure vanMax occupied sound with ⟨-, -, h⟩ | ⟨-, -, h⟩ | ⟨-, -, h⟩ | ⟨-, -, h⟩ <;> rw [h]
    exacts [nofun, draws, draws, nofun]
  | completed =>
    have kept : (completeSession o.session).state = o.session.state ∧ (completeSession o.session).offer = o.session.offer := by
      unfold completeSession countDelivered; split <;> exact ⟨rfl, rfl⟩
    rw [Draws, kept.1, kept.2]
    exact draws
  | _ => exact fun charging => draws charging

/-! Events of calm changes. -/

/-- Changes that come with no AMEND and no end of STALLED keep all but the drawing half of the law of the post. -/
theorem OutletSteps.keepsSoft {allowed : Nat → RecordKind → Prop} (calm : ∀ n kind, allowed n kind → IsCalm kind)
    (steps : OutletSteps allowed s t) (loaded : s.host.profile = some p) (law : SoftPost p s.outlets) :
    t.host.profile = some p ∧ SoftPost p t.outlets := by
  induction steps with
  | refl => exact ⟨loaded, law⟩
  | @tail u v _ step ih =>
    obtain ⟨loadedU, inRange, soft, sum⟩ := ih
    cases step with
    | aside outlets stands =>
      rw [outlets]
      exact ⟨(congrArg Prod.fst stands).trans loadedU, inRange, soft, sum⟩
    | loaded q none => rw [loadedU] at none; cases none
    | changed stands length each =>
      have op (n : Nat) (o o' : Outlet) (found : u.outlets[n]? = some o) (found' : v.outlets[n]? = some o') :
          SoftLaw p o' ∧ o'.share.target ≤ o.share.target := by
        rcases each n o o' found found' with rfl | ⟨kind, ok, op⟩
        · exact ⟨soft _ (List.mem_of_getElem? found), le_rfl⟩
        · refine ⟨op.keepsSoft ?_ loadedU inRange (soft o (List.mem_of_getElem? found)), op.target_le⟩
          rcases ok with rfl | ok
          · exact ⟨nofun, nofun⟩
          · exact calm n kind ok
      refine ⟨(congrArg Prod.fst stands).trans loadedU, inRange, fun o' mem => ?_,
        (sum_targets_le ⟨length, fun n o o' found found' => (op n o o' found found').2⟩).trans sum⟩
      obtain ⟨n, found'⟩ := List.mem_iff_getElem?.mp mem
      have within : n < u.outlets.length := by rw [← length]; exact (List.getElem?_eq_some_iff.mp found').1
      exact (op n _ o' (List.getElem?_eq_getElem within) found').1
    | recomputed mayRaise =>
      rw [recompute_host, recompute_of_profile mayRaise loadedU]
      exact ⟨loadedU, softPost_retarget inRange (fun o mem => (soft o mem).weak) _ _ _⟩

/-- An event without an end of STALLED at an outlet leaves its session drawing. -/
theorem OutletSteps.keepsDraws {allowed : Nat → RecordKind → Prop} (steps : OutletSteps allowed s t) (other : ¬ allowed n .unstalled)
    (found : s.outlets[n]? = some o) (found' : t.outlets[n]? = some o') (draws : Draws o) : Draws o' := by
  refine steps.relates (R := fun u v => Draws u → Draws v) (fun _ => id) (fun _ _ _ kind _ ok op before d => op.keepsDraws ?_ (before d))
    (fun _ _ _ mayRaise _ _ target _ _ before d => (before d).giveTarget mayRaise target) found found' draws
  rintro rfl
  rcases ok with h | h
  · cases h
  · exact other h

/-- No operation but OPEN under a profile gives a VACANT outlet a session, a target or an offer. -/
theorem RecordOp.keepsEmpty {profile : Option Profile} {kind : RecordKind} (op : RecordOp profile o kind o')
    (shut : profile = none ∨ kind ≠ .opened)
    (empty : o.session.state = .vacant ∧ o.share.target = 0 ∧ o.session.offer = 0) :
    o'.session.state = .vacant ∧ o'.share.target = 0 ∧ o'.session.offer = 0 := by
  obtain ⟨vacant, target, offer⟩ := empty
  cases op with
  | faulted kind occupied => exact absurd vacant occupied
  | stalled charging => rw [vacant] at charging; cases charging
  | unstalled stalled => rw [vacant] at stalled; cases stalled
  | ramped q =>
    rw [rampOutlet, if_pos (by omega)]
    exact ⟨vacant, target, offer⟩
  | opened q number need departure vanMax tag loaded =>
    rcases shut with none | other
    · rw [none] at loaded; cases loaded
    · exact absurd rfl other
  | amended q need departure vanMax loaded occupied => exact absurd vacant occupied
  | closed => exact ⟨rfl, rfl, rfl⟩
  | shared share same => exact ⟨vacant, same.trans target, offer⟩
  | snapshot theta => exact ⟨(snapshotSession_state _ _).trans vacant, target, (snapshotSession_offer _ _).trans offer⟩
  | ticked => rw [tickRecord_eq]; split <;> exact ⟨vacant, target, offer⟩
  | completed => rw [completeSession_of_vacant vacant]; exact ⟨vacant, target, offer⟩
  | toppedUp last => rw [topsAfter, vacant] at last; cases last
  | _ => exact ⟨vacant, target, offer⟩

theorem postLaw_of_none (none : s.host.profile = none) :
    PostLaw s ↔ ∀ o ∈ s.outlets, o.session.state = .vacant ∧ o.share.target = 0 ∧ o.session.offer = 0 := by
  simp only [PostLaw, none]

/-- Outlets without a session, a target and an offer meet the law of the post under any profile in its ranges. -/
theorem postLaw_of_empty (loaded : s.host.profile = some p) (inRange : profileInRange p = true)
    (empty : ∀ o ∈ s.outlets, o.session.state = .vacant ∧ o.share.target = 0 ∧ o.session.offer = 0) : PostLaw s := by
  refine (postLaw_iff loaded).mpr ⟨⟨inRange, fun o mem => ?_, ?_⟩, fun o mem charging => ?_⟩
  · obtain ⟨vacant, target, offer⟩ := empty o mem
    exact .of_empty (fun occupied => absurd vacant occupied) target offer (by rw [vacant]; exact nofun)
  · have zero : (s.outlets.map fun o => o.share.target).sum = 0 := List.sum_eq_zero fun t mem => by
      obtain ⟨o, present, rfl⟩ := List.mem_map.mp mem
      obtain ⟨-, zero, -⟩ := empty o present
      exact zero
    rw [zero]
    exact Nat.zero_le _
  · rw [(empty o mem).1] at charging; cases charging

/-- An event of calm changes keeps the law of the post (R140, R143). -/
theorem OutletSteps.keepsPost {allowed : Nat → RecordKind → Prop} (calm : ∀ n kind, allowed n kind → IsCalm kind)
    (steps : OutletSteps allowed s t) (law : PostLaw s) : PostLaw t := by
  induction steps with
  | refl => exact law
  | @tail u v _ step ih =>
    cases loaded : u.host.profile with
    | some p =>
      obtain ⟨soft, draws⟩ := (postLaw_iff loaded).mp ih
      have single : OutletSteps allowed u v := .single step
      obtain ⟨loaded', soft'⟩ := single.keepsSoft calm loaded soft
      refine (postLaw_iff loaded').mpr ⟨soft', fun o' mem => ?_⟩
      obtain ⟨n, found'⟩ := List.mem_iff_getElem?.mp mem
      have within : n < u.outlets.length := by rw [← single.length]; exact (List.getElem?_eq_some_iff.mp found').1
      exact single.keepsDraws (fun ok => (calm n _ ok).2 rfl) (List.getElem?_eq_getElem within) found' (draws _ (List.getElem_mem within))
    | none =>
      have empty := (postLaw_of_none loaded).mp ih
      cases step with
      | aside outlets stands =>
        rw [postLaw_of_none ((congrArg Prod.fst stands).trans loaded), outlets]
        exact empty
      | loaded q _ inRange loaded' outlets => exact postLaw_of_empty loaded' inRange (by rw [outlets]; exact empty)
      | changed stands length each =>
        refine (postLaw_of_none ((congrArg Prod.fst stands).trans loaded)).mpr fun o' mem => ?_
        obtain ⟨n, found'⟩ := List.mem_iff_getElem?.mp mem
        have within : n < u.outlets.length := by rw [← length]; exact (List.getElem?_eq_some_iff.mp found').1
        have before := empty _ (List.getElem_mem within)
        rcases each n _ o' (List.getElem?_eq_getElem within) found' with rfl | ⟨kind, -, op⟩
        · exact before
        · rw [loaded] at op
          exact op.keepsEmpty (.inl rfl) before
      | recomputed mayRaise => rw [recompute_of_none mayRaise loaded]; exact ih

end

end Sys2Proof.Machine
end

section
/-! PROOFS. The law of the post across AMEND and across a full window end, and with them across every command (R140, R143, obligation O36). -/

set_option Elab.async false

namespace Sys2Proof.Machine

section
variable {p : Profile} {o o' : Outlet} {s t : State} {n : Nat}

theorem postLaw_of_same (outlets : t.outlets = s.outlets) (profile : t.host.profile = s.host.profile) : PostLaw t ↔ PostLaw s := by
  unfold PostLaw
  rw [outlets, profile]

/-- A recomputation brings the law of the post about (R140, R141). -/
theorem postLaw_recompute (loaded : s.host.profile = some p) (inRange : profileInRange p = true) (weak : ∀ o ∈ s.outlets, WeakLaw p o)
    (draws : ∀ o ∈ s.outlets, Draws o) (mayRaise : Bool) : PostLaw (recompute mayRaise s) := by
  have loaded' : (recompute mayRaise s).host.profile = some p := by rw [recompute_host]; exact loaded
  refine (postLaw_iff loaded').mpr ?_
  rw [recompute_of_profile mayRaise loaded]
  refine ⟨softPost_retarget inRange weak _ _ _, fun o' mem => ?_⟩
  obtain ⟨n, found'⟩ := List.mem_iff_getElem?.mp mem
  rw [retarget_getElem?] at found'
  obtain ⟨o, found, rfl⟩ := Option.map_eq_some_iff.mp found'
  exact (draws o (List.mem_of_getElem? found)).giveTarget mayRaise _

/-! AMEND. -/

theorem weakLaw_amendOutlet (inRange : profileInRange p = true) {need departure vanMax : Nat} (occupied : o.session.state ≠ .vacant)
    (sound : o.session.state ≠ .faulted) (law : SoftLaw p o) : WeakLaw p (amendOutlet p need departure vanMax o) := by
  obtain ⟨-, -, -, -, -, ordered, least, -⟩ := (profileInRange_iff p).mp inRange
  have order : p.minCurrent ≤ (amendedRecord p need departure vanMax o).session.vanMax ∧
      (amendedRecord p need departure vanMax o).session.vanMax ≤ p.seatCeiling := by
    have held := law.order occupied
    have value : (amendedRecord p need departure vanMax o).session.vanMax =
      if vanMax = keepCode then o.session.vanMax else clampVanMax p vanMax := rfl
    rw [value]
    unfold clampVanMax
    split <;> omega
  have weak := law.weak
  have amended : WeakLaw p (amendedRecord p need departure vanMax o) := ⟨fun _ => order, weak.target, weak.offer, weak.paused⟩
  rcases amendOutlet_cases p need departure vanMax occupied sound with ⟨-, -, h⟩ | ⟨-, -, h⟩ | ⟨-, -, h⟩ | ⟨-, -, h⟩ <;> rw [h]
  · have vanMax : (topOutlet (amendedRecord p need departure vanMax o)).session.vanMax =
        (amendedRecord p need departure vanMax o).session.vanMax := by simp [topOutlet]
    exact ⟨fun _ => by rw [vanMax]; exact order, .inl rfl, .inl rfl, nofun⟩
  · exact amended
  · exact amended
  · exact ⟨fun _ => order, weak.target, .inl rfl, fun _ => rfl⟩

theorem mem_modifyOutlet {f : Outlet → Outlet} {Q : Outlet → Prop} (others : ∀ o ∈ s.outlets, Q o)
    (own : ∀ o, s.outlets[n]? = some o → Q (f o)) : ∀ o' ∈ (modifyOutlet n f s).outlets, Q o' := by
  intro o' mem
  obtain ⟨m, found'⟩ := List.mem_iff_getElem?.mp mem
  rw [modifyOutlet_getElem?] at found'
  split at found'
  · next same =>
    subst same
    obtain ⟨o, found, rfl⟩ := Option.map_eq_some_iff.mp found'
    exact own o found
  · exact others o' (List.mem_of_getElem? found')

theorem amendRequest_keepsPost (body : List Byte) (law : PostLaw s) : PostLaw (amendRequest body s) := by
  have refused (status : Status) : PostLaw (respond 0x21#8 status [] s) := (postLaw_of_same rfl rfl).mpr law
  unfold amendRequest
  split
  · exact refused _
  · next o found =>
    split_ifs with vacant faulted
    · exact refused _
    · exact refused _
    · split
      · exact refused _
      · next p loaded =>
        obtain ⟨⟨inRange, soft, -⟩, draws⟩ := (postLaw_iff loaded).mp law
        have own {o' : Outlet} (found' : s.outlets[byteAt body 0]? = some o') : o' = o := Option.some.inj (found'.symm.trans found)
        have op : RecordOp (some p) o .amended (amendOutlet p (wordAt body 1) (wordAt body 3) (wordAt body 5) o) :=
          .amended p _ _ _ rfl vacant faulted (wordAt_le _ _)
        refine (postLaw_of_same (by rfl) (by rfl)).mpr (postLaw_recompute (p := p) ?_ inRange ?_ ?_ false)
        · rw [raiseIf_profile, raiseIf_profile]
          exact loaded
        · rw [raiseIf_outlets, raiseIf_outlets]
          exact mem_modifyOutlet (fun o mem => (soft o mem).weak) fun o' found' =>
            weakLaw_amendOutlet inRange vacant faulted (soft o (List.mem_of_getElem? found))
        · rw [raiseIf_outlets, raiseIf_outlets]
          exact mem_modifyOutlet draws fun o' found' => op.keepsDraws nofun (draws o (List.mem_of_getElem? found))

/-! The full window end. -/

/-- Under the profile, the law of the post but its drawing half. -/
def SoftState (p : Profile) (s : State) : Prop := s.host.profile = some p ∧ SoftPost p s.outlets

/-- No kind of change beside the plain ones. -/
def PlainOnly (_ : Nat) (_ : RecordKind) : Prop := False

theorem SoftState.plain (law : SoftState p s) (steps : OutletSteps PlainOnly s t) : SoftState p t :=
  steps.keepsSoft (fun _ _ none => none.elim) law.1 law.2

theorem SoftState.ramp (law : SoftState p s) (n : Nat) : SoftState p (ramp n s) :=
  OutletSteps.keepsSoft (allowed := fun _ kind => kind = .ramped) (fun _ _ ramped => by rw [ramped]; exact ⟨nofun, nofun⟩)
    (ramp_steps rfl s) law.1 law.2

/-- The end of STALLED at an outlet, and the recomputation that comes with it (R8, R141). -/
theorem SoftState.leaveStalled (law : SoftState p s) (found : s.outlets[n]? = some o) (stalled : o.session.state = .stalled) :
    SoftState p (leaveStalled n s) := by
  obtain ⟨loaded, inRange, soft, -⟩ := law
  have loaded' : (modifyOutlet n unstallOutlet s).host.profile = some p := loaded
  have weak : ∀ o ∈ (modifyOutlet n unstallOutlet s).outlets, WeakLaw p o := by
    refine mem_modifyOutlet (fun o mem => (soft o mem).weak) fun o' found' => ?_
    obtain rfl := Option.some.inj (found.symm.trans found')
    have held := (soft o (List.mem_of_getElem? found)).weak
    exact ⟨fun _ => held.order (by rw [stalled]; exact nofun), held.target, held.offer, nofun⟩
  rw [SoftState, Machine.leaveStalled, recompute_host, recompute_of_profile false loaded']
  exact ⟨loaded, softPost_retarget inRange weak _ _ _⟩

theorem SoftState.judgeResponse (law : SoftState p s) (n : Nat) : SoftState p (judgeResponse n s) := by
  rcases judgeResponse_cases n s with h | ⟨o, found, charging, h⟩ | ⟨o, found, stalled, h⟩ <;> rw [h]
  · exact law
  · exact law.plain (judgeStall_steps found charging)
  · unfold judgeUnstall
    split_ifs
    · exact law.leaveStalled found stalled
    · exact law.plain (modifyOutlet_plainSteps fun o' found' => by
        obtain rfl := Option.some.inj (found.symm.trans found')
        exact .unstallCounted _ (by omega))
    · exact law.plain (modifyOutlet_plainSteps fun _ _ => .unstallCounted 0 (by omega))

/-- Judging release touches the supervision record alone (R156). -/
theorem judgeRelease_records (n : Nat) (found : SessionState) (s : State) :
    EachOutlet (fun _ o o' => o'.session = o.session ∧ o'.share = o.share ∧ o'.meter = o.meter) s.outlets
      (judgeRelease n found s).outlets := by
  have stood : EachOutlet (fun _ o o' => o'.session = o.session ∧ o'.share = o.share ∧ o'.meter = o.meter) s.outlets s.outlets :=
    .refl (fun _ _ => ⟨rfl, rfl, rfl⟩) _
  unfold judgeRelease
  split
  · exact stood
  · split_ifs
    · rw [capture_outlets]
      exact eachOutlet_modify (fun _ _ => ⟨rfl, rfl, rfl⟩) fun _ _ => ⟨rfl, rfl, rfl⟩
    · exact eachOutlet_modify (fun _ _ => ⟨rfl, rfl, rfl⟩) fun _ _ => ⟨rfl, rfl, rfl⟩
    · exact eachOutlet_modify (fun _ _ => ⟨rfl, rfl, rfl⟩) fun _ _ => ⟨rfl, rfl, rfl⟩
    · exact stood

theorem SoftState.judgeRelease (law : SoftState p s) (n : Nat) (found : SessionState) : SoftState p (judgeRelease n found s) := by
  obtain ⟨loaded, inRange, soft, sum⟩ := law
  have each := judgeRelease_records n found s
  refine ⟨(judgeRelease_frame n found s).profile.trans loaded, inRange, fun o' mem => ?_,
    (sum_targets_le (each.mono fun _ _ _ same => (congrArg Share.target same.2.1).le)).trans sum⟩
  obtain ⟨m, found'⟩ := List.mem_iff_getElem?.mp mem
  have within : m < s.outlets.length := by rw [← each.1]; exact (List.getElem?_eq_some_iff.mp found').1
  obtain ⟨session, share, -⟩ := each.2 m _ o' (List.getElem?_eq_getElem within) found'
  exact (soft _ (List.getElem_mem within)).of_same (by rw [session]) (by rw [session]) (by rw [session]) (by rw [share])

theorem SoftState.judgeOutlet (law : SoftState p s) (n : Nat) : SoftState p (judgeOutlet n s) := by
  have history : SoftState p (modifyOutlet n enterHistory s) := law.plain (modifyOutlet_plainSteps fun _ _ => .history)
  exact ((history.plain (judgeOverdraw_steps n _)).judgeResponse n).judgeRelease n _

theorem endFullWindow_profile (feederFirst : Bool) (s : State) : (endFullWindow feederFirst s).host.profile = s.host.profile := by
  have feeder (u : State) : (feederFullWindow u).host.profile = u.host.profile := by
    obtain ⟨-, -, profile⟩ := feederFullWindow_frame u
    exact profile
  have outlets (u : State) : (outletsFullWindow u).host.profile = u.host.profile := (outletsFullWindow_frame u).profile
  cases feederFirst
  · exact (congrArg HostLink.profile (serve_host _)).trans ((feeder _).trans (outlets s))
  · exact (congrArg HostLink.profile (serve_host _)).trans ((outlets _).trans (feeder s))

/-- A full window end gives a VACANT outlet nothing. -/
theorem endFullWindow_keepsEmpty (feederFirst : Bool) (found : s.outlets[n]? = some o)
    (found' : (endFullWindow feederFirst s).outlets[n]? = some o')
    (empty : o.session.state = .vacant ∧ o.share.target = 0 ∧ o.session.offer = 0) :
    o'.session.state = .vacant ∧ o'.share.target = 0 ∧ o'.session.offer = 0 := by
  have steps : OutletSteps (fun _ kind => kind = .unstalled ∨ kind = .ramped) s (endFullWindow feederFirst s) :=
    endFullWindow_steps (fun _ => .inl rfl) (fun _ => .inr rfl) feederFirst s
  refine steps.relates (R := fun u v => (u.session.state = .vacant ∧ u.share.target = 0 ∧ u.session.offer = 0) →
      v.session.state = .vacant ∧ v.share.target = 0 ∧ v.session.offer = 0) (fun _ => id)
    (fun _ _ _ kind _ ok op before empty => op.keepsEmpty (.inr ?_) (before empty))
    (fun p part curtail mayRaise _ u target raises le before empty => ?_) found found' empty
  · rintro rfl
    rcases ok with h | h | h <;> cases h
  · obtain ⟨vacant, zero, offer⟩ := before empty
    cases mayRaise with
    | true => rcases raises rfl with h | h <;> cases h
    | false =>
      refine ⟨by rw [giveTarget_state_eq, vacant]; rfl, by rw [giveTarget_false_target, zero, Nat.min_zero], ?_⟩
      have lowered := giveTarget_offer u false target
      omega

/-- The ramp makes a CHARGING session with a target draw (R143). -/
theorem draws_rampOutlet (positive : 0 < p.minCurrent) (law : SoftLaw p o) : Draws (rampOutlet p o) := by
  intro charging
  have within := law.within
  rcases rampOutlet_state_cases p o with ⟨settled, same⟩ | ⟨-, -, -, -, some⟩ | ⟨above, -, state⟩
  · rw [same] at charging ⊢
    have target := law.charging charging
    omega
  · exact some.ne'
  · have offer := rampOutlet_offer p o within
    have top : 0 < rampTop p o.session.offer := by unfold rampTop; split <;> omega
    omega

/-- A full window end keeps the law of the post: the ramp of an outlet's own turn makes a session that left STALLED with a target draw. -/
theorem endFullWindow_keepsPost (feederFirst : Bool) (law : PostLaw s) : PostLaw (endFullWindow feederFirst s) := by
  have profile := endFullWindow_profile feederFirst s
  have length : (endFullWindow feederFirst s).outlets.length = s.outlets.length :=
    (endFullWindow_steps (allowed := fun _ _ => True) (fun _ => trivial) (fun _ => trivial) feederFirst s).length
  have before {n : Nat} {o' : Outlet} (found' : (endFullWindow feederFirst s).outlets[n]? = some o') : n < s.outlets.length := by
    rw [← length]
    exact (List.getElem?_eq_some_iff.mp found').1
  cases loaded : s.host.profile with
  | none =>
    have empty := (postLaw_of_none loaded).mp law
    refine (postLaw_of_none (profile.trans loaded)).mpr fun o' mem => ?_
    obtain ⟨n, found'⟩ := List.mem_iff_getElem?.mp mem
    exact endFullWindow_keepsEmpty feederFirst (List.getElem?_eq_getElem (before found')) found' (empty _ (List.getElem_mem _))
  | some p =>
    obtain ⟨soft, draws⟩ := (postLaw_iff loaded).mp law
    have positive : 0 < p.minCurrent := law.positive loaded
    have start : SoftState p s := ⟨loaded, soft⟩
    have turn (m : Nat) (t : State) (law : SoftState p t) : SoftState p (superviseOutlet m t) := (law.judgeOutlet m).ramp m
    have feeder (t : State) (law : SoftState p t) : SoftState p (feederFullWindow t) := law.plain (feederFullWindow_steps t)
    have meter (t : State) (law : SoftState p t) : SoftState p (mapOutlets meterFullWindow t) :=
      law.plain (mapOutlets_plainSteps fun _ => .meterFull)
    have after : SoftState p (endFullWindow feederFirst s) := by
      have outlets (t : State) (law : SoftState p t) : SoftState p (outletsFullWindow t) :=
        forOutlets_keeps (SoftState p) superviseOutlet turn _ _ (meter t law)
      unfold endFullWindow
      cases feederFirst
      · exact (feeder _ (outlets s start)).plain (OutletSteps.serve aside_steps)
      · exact (outlets _ (feeder s start)).plain (OutletSteps.serve aside_steps)
    refine (postLaw_iff after.1).mpr ⟨after.2, fun o' mem => ?_⟩
    obtain ⟨n, found'⟩ := List.mem_iff_getElem?.mp mem
    obtain ⟨w, -, softW, -, later⟩ := endFullWindow_around (P := SoftState p) feederFirst start feeder meter turn
      (fun t law => law.judgeOutlet n) (before found')
    have rampedSteps : OutletSteps (fun _ kind => kind = .ramped) w (ramp n w) := ramp_steps rfl w
    have withinRamp : n < (ramp n w).outlets.length := by
      rw [← later.length]
      exact (List.getElem?_eq_some_iff.mp found').1
    have within : n < w.outlets.length := by
      rw [← rampedSteps.length]
      exact withinRamp
    have found := List.getElem?_eq_getElem within
    refine later.keepsDraws (fun ok => ok.2 rfl) (List.getElem?_eq_getElem withinRamp) found' ?_
    obtain ⟨loadedW, -, lawful, -⟩ := softW
    have ramped := draws_rampOutlet positive (lawful _ (List.getElem_mem within))
    rcases ramp_at loadedW found (List.getElem?_eq_getElem withinRamp) with ⟨-, h⟩ | ⟨-, h⟩ <;> rw [h]
    · exact ramped
    · exact ramped.giveTarget false _

/-- Settles O36: a full window end and an AMEND take their own way, every other command brings calm changes alone; that an offer stands within
its target gives the bounds on the offers. -/
theorem postLawIsKept : Obligations.PostLawIsKept := by
  refine ⟨fun c s t law step => ?_, fun s p law loaded => ?_⟩
  · cases reset : isReset c with
    | true =>
      rcases exec_reset_cases reset step with ⟨outlets, profile, -⟩ | ⟨straps, held, ignore, rfl, -⟩
      · exact (postLaw_of_same outlets profile).mpr law
      · refine (postLaw_of_none rfl).mpr fun o mem => ?_
        rw [afterReset_cleared mem]
        exact ⟨rfl, rfl, rfl⟩
    | false =>
      by_cases amended : ∃ body, t = amendRequest body s
      · obtain ⟨body, rfl⟩ := amended
        exact amendRequest_keepsPost body law
      · by_cases window : ∃ feederFirst, t = endFullWindow feederFirst s
        · obtain ⟨feederFirst, rfl⟩ := window
          exact endFullWindow_keepsPost feederFirst law
        · refine OutletSteps.keepsPost (fun n kind ok => ⟨?_, ?_⟩) (commandSteps_of_exec reset step) law
          · rintro rfl
            exact amended ok.2
          · rintro rfl
            exact window ok
  · obtain ⟨⟨-, soft, sum⟩, -⟩ := (postLaw_iff loaded).mp law
    refine ⟨(List.sum_le_sum fun o mem => (soft o mem).within).trans sum, fun o mem => ?_⟩
    have lawful := soft o mem
    rcases lawful.offer with zero | least
    · exact .inl zero
    · have target := lawful.target
      have within := lawful.within
      have positive := law.positive loaded
      exact .inr ⟨least, by omega⟩

end

end Sys2Proof.Machine
end

section
/-! PROOFS. A cut window at one outlet (R64, R143, R151): the other outlets' ramps can lower its target to the one the tables give, and its own
ramp takes its offer one step toward the target. -/

set_option Elab.async false

namespace Sys2Proof.Machine

/-- The tables read the same of two records. -/
def SameView (_ : Nat) (o o' : Outlet) : Prop := capView o' = capView o

theorem SameView.refl (n : Nat) (o : Outlet) : SameView n o o := rfl

theorem SameView.trans (n : Nat) (o u v : Outlet) (first : SameView n o u) (second : SameView n u v) : SameView n o v :=
  Eq.trans (b := capView u) second first

/-- The tables of R137 to R140 read the same of two states: profile, participation, curtail count and what they read of each record. -/
def SameTables (s t : State) : Prop :=
  t.host.profile = s.host.profile ∧ t.census.participation = s.census.participation ∧ t.shares.curtail = s.shares.curtail ∧
  EachOutlet SameView s.outlets t.outlets

/-- An outlet's record on the way of an offer toward `top`: the target not raised, and not lowered where the tables give as much; the offer the
lesser of the target and `top`; and the state with the offer. -/
def Toward (o : Outlet) (top table : Nat) (u : Outlet) : Prop :=
  u.share.target ≤ o.share.target ∧ u.session.offer = min u.share.target top ∧ PairFollowsOffer o u ∧
  (o.share.target ≤ table → u.share.target = o.share.target)

section
variable {p : Profile} {s t : State} {n k : Nat} {o u : Outlet} {Q Q' : Outlet → Prop}

theorem SameTables.refl (s : State) : SameTables s s := ⟨rfl, rfl, rfl, EachOutlet.refl SameView.refl _⟩

/-- The targets that a recomputation makes are those of the tables as they were. -/
theorem SameTables.cappedTarget (same : SameTables s t) (p : Profile) (n : Nat) :
    cappedTarget p t.census.participation t.shares.curtail t.outlets n =
      Machine.cappedTarget p s.census.participation s.shares.curtail s.outlets n := by
  obtain ⟨-, part, curtail, views⟩ := same
  rw [part, curtail, Machine.cappedTarget, Machine.cappedTarget, cappedTargets_of_views views.1 views.2]

theorem SameTables.of_outlets {v : State} (same : SameTables s t) (profile : v.host.profile = t.host.profile)
    (part : v.census.participation = t.census.participation) (curtail : v.shares.curtail = t.shares.curtail)
    (views : EachOutlet SameView t.outlets v.outlets) : SameTables s v := by
  obtain ⟨profile', part', curtail', views'⟩ := same
  exact ⟨profile.trans profile', part.trans part', curtail.trans curtail', views'.trans SameView.trans views⟩

theorem SameTables.modify {f : Outlet → Outlet} (same : SameTables s t) (own : ∀ o, t.outlets[k]? = some o → capView (f o) = capView o) :
    SameTables s (modifyOutlet k f t) :=
  same.of_outlets rfl rfl rfl (eachOutlet_modify SameView.refl own)

theorem SameTables.recompute (same : SameTables s t) (mayRaise : Bool) : SameTables s (recompute mayRaise t) :=
  same.of_outlets (by rw [recompute_host]) (by rw [recompute_census]) (by rw [recompute_shares])
    (eachOutlet_recompute (R := SameView) SameView.refl (fun _ o target => giveTarget_capView mayRaise o target) t)

theorem rampOutlet_capView (p : Profile) (o : Outlet) : capView (rampOutlet p o) = capView o := by
  have state : inPair (rampOutlet p o).session.state = inPair o.session.state ∧
      (inPair o.session.state = false → (rampOutlet p o).session.state = o.session.state) := by
    rcases rampOutlet_state_cases p o with ⟨-, same⟩ | ⟨-, paused, -, charging, -⟩ | ⟨-, -, same⟩
    · rw [same]; exact ⟨rfl, fun _ => rfl⟩
    · rw [charging, paused]; exact ⟨rfl, nofun⟩
    · rw [same]; exact ⟨rfl, fun _ => rfl⟩
  have band : (rampOutlet p o).session.band = o.session.band := by unfold rampOutlet; split_ifs <;> rfl
  simp only [capView, state.1, rampOutlet_vanMax, band, rampOutlet_share, CapView.mk.injEq, and_true]
  split
  · rfl
  · next outside => exact state.2 (by simpa using outside)

theorem SameTables.ramp (same : SameTables s t) (k : Nat) : SameTables s (ramp k t) := by
  unfold Machine.ramp
  split
  · have ramped (p : Profile) : SameTables s (modifyOutlet k (rampOutlet p) t) := same.modify fun o _ => rampOutlet_capView p o
    split_ifs
    · exact (ramped _).recompute false
    · exact ramped _
  · exact same

/-- A recomputation gives an outlet the target of the tables. -/
theorem HasOutlet.recompute_of_tables {mayRaise : Bool} (here : HasOutlet n Q t) (same : SameTables s t) (loaded : s.host.profile = some p)
    (give : ∀ u, Q u → Q' (giveTarget mayRaise u (cappedTarget p s.census.participation s.shares.curtail s.outlets n))) :
    HasOutlet n Q' (Machine.recompute mayRaise t) := by
  obtain ⟨u, found, q⟩ := here
  refine ⟨_, ?_, give u q⟩
  rw [recompute_of_profile mayRaise (same.1.trans loaded)]
  dsimp only
  rw [retarget_getElem?, found, ← same.cappedTarget p n]
  rfl

/-- The ramp of another outlet can lower the target, and with it the offer. -/
theorem HasOutlet.ramp_of_ne (here : HasOutlet n Q t) (same : SameTables s t) (loaded : s.host.profile = some p) (other : k ≠ n)
    (give : ∀ u, Q u → Q (giveTarget false u (cappedTarget p s.census.participation s.shares.curtail s.outlets n))) :
    HasOutlet n Q (ramp k t) := by
  have beside : HasOutlet n Q (modifyOutlet k (rampOutlet p) t) := by
    obtain ⟨u, found, q⟩ := here
    exact ⟨u, by rw [modifyOutlet_getElem?, if_neg other, found], q⟩
  have tables : SameTables s (modifyOutlet k (rampOutlet p) t) := same.modify fun o _ => rampOutlet_capView p o
  unfold Machine.ramp
  rw [same.1.trans loaded]
  split
  · next q v loadedQ found =>
    obtain rfl := Option.some.inj loadedQ
    split_ifs
    · exact beside.recompute_of_tables tables loaded give
    · exact beside
  · exact here

/-- The ramp of the outlet itself. -/
theorem HasOutlet.ramp_own (here : HasOutlet n Q t) (same : SameTables s t) (loaded : s.host.profile = some p)
    (own : ∀ u, Q u → Q' (rampOutlet p u))
    (give : ∀ u, Q' u → Q' (giveTarget false u (cappedTarget p s.census.participation s.shares.curtail s.outlets n))) :
    HasOutlet n Q' (ramp n t) := by
  obtain ⟨u, found, q⟩ := here
  have ramps : OutletSteps (fun _ _ => True) t (ramp n t) := ramp_steps trivial t
  have within : n < (ramp n t).outlets.length := by
    rw [ramps.length]
    exact (List.getElem?_eq_some_iff.mp found).1
  have found' := List.getElem?_eq_getElem within
  have tables : SameTables s (modifyOutlet n (rampOutlet p) t) := same.modify fun o _ => rampOutlet_capView p o
  refine ⟨_, found', ?_⟩
  rcases ramp_at (same.1.trans loaded) found found' with ⟨-, h⟩ | ⟨-, h⟩ <;> rw [h]
  · exact own u q
  · have table := tables.cappedTarget p n
    simp only [modifyOutlet_census, modifyOutlet_shares, modifyOutlet_outlets] at table
    rw [table]
    exact give _ (own u q)

/-- A cut window at an outlet, under a profile: the record with its count cut goes through its turn (R64, R148, R152). -/
theorem cutWindow_hasOutlet (loaded : s.host.profile = some p) (found : s.outlets[n]? = some o) (start : Q (meterCutWindow o))
    (before : ∀ u, Q u → Q (giveTarget false u (cappedTarget p s.census.participation s.shares.curtail s.outlets n)))
    (own : ∀ u, Q u → Q' (rampOutlet p u))
    (after : ∀ u, Q' u → Q' (giveTarget false u (cappedTarget p s.census.participation s.shares.curtail s.outlets n))) :
    HasOutlet n Q' (cutWindow s) ∧ SameTables s (cutWindow s) := by
  have metered : HasOutlet n Q (mapOutlets meterCutWindow (feederCutWindow s)) := by
    refine ⟨_, ?_, start⟩
    rw [mapOutlets_getElem?]
    show (s.outlets[n]?).map meterCutWindow = _
    rw [found]
    rfl
  have tables : SameTables s (mapOutlets meterCutWindow (feederCutWindow s)) :=
    ⟨rfl, rfl, rfl, eachOutlet_map (R := SameView) (f := meterCutWindow) (fun _ _ => rfl) s.outlets⟩
  have turns := forOutlets_at (f := ramp) (n := n) (count := s.outlets.length) (s := mapOutlets meterCutWindow (feederCutWindow s))
    (fun t => HasOutlet n Q t ∧ SameTables s t) (fun t => HasOutlet n Q' t ∧ SameTables s t)
    (fun k t earlier pre => ⟨pre.1.ramp_of_ne pre.2 loaded (by omega) before, pre.2.ramp k⟩)
    (fun t pre => ⟨pre.1.ramp_own pre.2 loaded own after, pre.2.ramp n⟩)
    (fun k t later post => ⟨post.1.ramp_of_ne post.2 loaded (by omega) after, post.2.ramp k⟩)
    ⟨metered, tables⟩ (List.getElem?_eq_some_iff.mp found).1
  exact turns

/-! The way of an offer. -/

theorem pairFollowsOffer_iff {o u : Outlet} : PairFollowsOffer o u ↔
    (inPair o.session.state = true → u.session.state = if u.session.offer = 0 then .paused else .charging) ∧
    (inPair o.session.state = false → u.session.state = o.session.state) := by
  unfold PairFollowsOffer
  cases inPair o.session.state <;> simp

/-- A new target takes the state along with the offer it lowers (R6, R142). -/
theorem PairFollowsOffer.given (pair : PairFollowsOffer o u) (mayRaise : Bool) (target : Nat) :
    PairFollowsOffer o (giveTarget mayRaise u target) := by
  have offer := giveTarget_offer u mayRaise target
  have state := giveTarget_state_eq u mayRaise target
  obtain ⟨inside, outside⟩ := pairFollowsOffer_iff.mp pair
  refine pairFollowsOffer_iff.mpr ⟨fun member => ?_, fun other => ?_⟩
  · have was := inside member
    by_cases zero : u.session.offer = 0
    · rw [if_pos zero] at was
      rw [state, was, if_neg (fun both => nomatch both.1), if_pos (by omega)]
    · rw [if_neg zero] at was
      rw [state, was]
      by_cases none : (giveTarget mayRaise u target).share.target = 0
      · rw [if_pos ⟨rfl, none⟩, if_pos (by omega)]
      · rw [if_neg (fun both => none both.2), if_neg (by omega)]
  · rw [state, outside other, if_neg]
    rintro ⟨charging, -⟩
    rw [charging] at other
    cases other

theorem Toward.lowered {top table : Nat} (way : Toward o top table u) : Toward o top table (giveTarget false u table) := by
  obtain ⟨le, offer, pair, settled⟩ := way
  have target := giveTarget_false_target u table
  have offer' := giveTarget_offer u false table
  refine ⟨by omega, by omega, pair.given false table, fun within => ?_⟩
  have := settled within
  omega

theorem Toward.ramped {table : Nat} (positive : 0 < p.minCurrent) (way : Toward o o.session.offer table u) :
    Toward o (rampTop p o.session.offer) table (rampOutlet p u) := by
  obtain ⟨le, offer, pair, settled⟩ := way
  obtain ⟨inside, outside⟩ := pairFollowsOffer_iff.mp pair
  have ramped := rampOutlet_offer p u (by omega)
  have share := rampOutlet_share p u
  have offer' : (rampOutlet p u).session.offer = min u.share.target (rampTop p o.session.offer) := by
    rw [ramped]
    have rise : ∀ a, a ≤ rampTop p a := fun a => by unfold rampTop; split <;> omega
    rcases Nat.le_total o.session.offer u.share.target with below | above
    · rw [show u.session.offer = o.session.offer by omega]
    · have own := rise u.session.offer
      have found := rise o.session.offer
      omega
  refine ⟨by rw [share]; exact le, by rw [share]; exact offer', pairFollowsOffer_iff.mpr ⟨fun member => ?_, fun other => ?_⟩,
    by rw [share]; exact settled⟩
  · have top : 0 < rampTop p o.session.offer := by unfold rampTop; split <;> omega
    have state := inside member
    rcases rampOutlet_state_cases p u with ⟨-, same⟩ | ⟨-, -, -, charging, some⟩ | ⟨above, stays, same⟩
    · rw [same]; exact state
    · rw [charging, if_neg some.ne']
    · rw [same, state, offer']
      by_cases zero : u.session.offer = 0
      · rw [if_pos zero] at state
        rcases stays state with some | none
        · exact absurd zero some
        · exact absurd none (rampedOffer_pos positive (by omega)).ne'
      · rw [if_neg zero, if_neg (by omega)]
  · rcases rampOutlet_state_cases p u with ⟨-, same⟩ | ⟨-, paused, -⟩ | ⟨-, -, same⟩
    · rw [same]; exact outside other
    · rw [outside other] at paused
      rw [paused] at other
      cases other
    · rw [same]; exact outside other

/-- A lawful record is on its way toward its own offer. -/
theorem toward_of_lawful {o' : Outlet} (law : OfferLaw p o) (session : o'.session = o.session) (share : o'.share = o.share) (table : Nat) :
    Toward o o.session.offer table o' := by
  obtain ⟨-, -, -, within, -, paused, charging⟩ := law
  refine ⟨by rw [share], by rw [session, share]; omega, pairFollowsOffer_iff.mpr ⟨fun member => ?_, fun _ => by rw [session]⟩,
    fun _ => by rw [share]⟩
  rw [session]
  cases state : o.session.state <;> rw [state] at member
  case paused => rw [if_pos (paused state)]
  case charging => rw [if_neg (charging state)]
  all_goals cases member

end

end Sys2Proof.Machine
end

section
/-! PROOFS. Frame zero (R47, R60, R64, R67, R72, R144): what it leaves, the ramp and the targets of its boundary, and the census it begins. -/

set_option Elab.async false

namespace Sys2Proof.Machine

section
variable {p : Profile} {s t : State} {n : Nat} {o o' : Outlet} {R : Nat → Outlet → Outlet → Prop}

theorem ramp_host (k : Nat) (s : State) : (ramp k s).host = s.host := by
  unfold ramp
  split
  · split_ifs
    · rw [recompute_host]; rfl
    · rfl
  · rfl

/-- A cut window changes the window clock, the feeder's window and the outlets' records alone (R64, R114, R148). -/
theorem cutWindow_eq (s : State) : cutWindow s = { s with
    census.windowIndex := 0
    census.windowMs := 0
    feeder := startWindow s.feeder
    outlets := (cutWindow s).outlets } := by
  have host : (outletsCutWindow (feederCutWindow s)).host = s.host :=
    forOutlets_field State.host ramp (fun k t => ramp_host k t) _ (mapOutlets meterCutWindow (feederCutWindow s))
  have frame := outletsCutWindow_frame (feederCutWindow s)
  unfold cutWindow
  dsimp only
  rw [frame.line, frame.census, frame.roster, frame.feeder, frame.shares, frame.minuteMs, frame.pending, host]
  rfl

/-- A prepared frame changes the census and the outlets' records alone (R67, R72). -/
theorem prepareFrame_eq (s : State) : prepareFrame s = { s with
    census := (prepareFrame s).census
    outlets := (prepareFrame s).outlets } := by
  have host : (prepareFrame s).host = s.host := by dsimp only [prepareFrame]; split_ifs <;> simp
  have line : (prepareFrame s).line = s.line := by dsimp only [prepareFrame]; split_ifs <;> simp
  have roster : (prepareFrame s).roster = s.roster := by dsimp only [prepareFrame]; split_ifs <;> simp
  have feeder : (prepareFrame s).feeder = s.feeder := by dsimp only [prepareFrame]; split_ifs <;> simp
  have shares : (prepareFrame s).shares = s.shares := by dsimp only [prepareFrame]; split_ifs <;> simp
  have minuteMs : (prepareFrame s).minuteMs = s.minuteMs := by dsimp only [prepareFrame]; split_ifs <;> simp
  have pending : (prepareFrame s).pending = s.pending := by dsimp only [prepareFrame]; split_ifs <;> simp
  rw [← host, ← line, ← roster, ← feeder, ← shares, ← minuteMs, ← pending]

/-- The state of a frame zero before its window is cut and its frame prepared (R47, R60). -/
def zeroStart (s : State) : State := { s with line := startFrame s.line, census.timerMs := 2000, census.frame := none }

theorem frameZero_eq (boundaryFirst : Bool) (s : State) : frameZero boundaryFirst s =
    if boundaryFirst = true ∨ s.census.participation ≠ .islanded then prepareFrame (cutWindow (zeroStart s))
    else cutWindow (prepareFrame (zeroStart s)) := by
  have cond : (boundaryFirst || !((zeroStart s).census.participation == .islanded)) = true ↔
      boundaryFirst = true ∨ s.census.participation ≠ .islanded := by
    rw [Bool.or_eq_true, Bool.not_eq_true', beq_eq_false_iff_ne]
    rfl
  by_cases first : boundaryFirst = true ∨ s.census.participation ≠ .islanded
  · rw [if_pos first]
    exact if_pos (cond.mpr first)
  · rw [if_neg first]
    exact if_neg (first ∘ cond.mp)

/-- The state at which a frame zero prepares its frame (R144). -/
def zeroFramed (boundaryFirst : Bool) (s : State) : State :=
  if boundaryFirst = true ∨ s.census.participation ≠ .islanded then cutWindow (zeroStart s) else zeroStart s

/-- The census of a frame zero: the timer loaded, window 0 begun and a frame in progress where the part takes part (R60, R64, R67). -/
theorem frameZero_census (boundaryFirst : Bool) (s : State) : (frameZero boundaryFirst s).census = { s.census with
    timerMs := 2000
    windowIndex := 0
    windowMs := 0
    reachedFrameZero := s.census.reachedFrameZero || s.census.participation != .offline
    frame := if s.census.participation = .offline then none else some (newFrame (snapshot (zeroFramed boundaryFirst s))) } := by
  rw [frameZero_eq, zeroFramed]
  by_cases offline : s.census.participation = .offline <;> split <;>
    simp [prepareFrame_census, cutWindow_census, zeroStart, offline]

/-- A frame zero leaves everything but the line, the census, the feeder's window and the outlets' records (R47, R64, R114). -/
theorem frameZero_writes (boundaryFirst : Bool) (s : State) : frameZero boundaryFirst s = { s with
    line := startFrame s.line
    census := (frameZero boundaryFirst s).census
    feeder := startWindow s.feeder
    outlets := (frameZero boundaryFirst s).outlets } := by
  rw [frameZero_eq]
  split
  · have cut := cutWindow_eq (zeroStart s)
    generalize cutWindow (zeroStart s) = w at cut
    conv_lhs => rw [prepareFrame_eq]
    rw [cut]
    rfl
  · have framed := prepareFrame_eq (zeroStart s)
    generalize prepareFrame (zeroStart s) = w at framed
    conv_lhs => rw [cutWindow_eq]
    rw [framed, cutWindow_census]
    rfl

/-! What each operation of a frame zero keeps of every record, the frame zero keeps. -/

theorem eachOutlet_ramp (refl : ∀ n o, R n o o) (trans : ∀ n o u v, R n o u → R n u v → R n o v) (give : ∀ n o t, R n o (giveTarget false o t))
    (own : ∀ n p o, s.host.profile = some p → R n o (rampOutlet p o)) (k : Nat) : EachOutlet R s.outlets (ramp k s).outlets := by
  unfold ramp
  split
  · next p o loaded found =>
    have ramped : EachOutlet R s.outlets (modifyOutlet k (rampOutlet p) s).outlets := eachOutlet_modify refl fun o _ => own k p o loaded
    split_ifs
    · exact ramped.trans trans (eachOutlet_recompute refl give _)
    · exact ramped
  · exact .refl refl _

theorem eachOutlet_cutWindow (refl : ∀ n o, R n o o) (trans : ∀ n o u v, R n o u → R n u v → R n o v)
    (give : ∀ n o t, R n o (giveTarget false o t)) (own : ∀ n p o, s.host.profile = some p → R n o (rampOutlet p o)) :
    EachOutlet R (s.outlets.map meterCutWindow) (cutWindow s).outlets := by
  have turns := forOutlets_keeps
    (fun t => t.host = s.host ∧ EachOutlet R (s.outlets.map meterCutWindow) t.outlets) ramp
    (fun k t ⟨host, each⟩ => ⟨(ramp_host k t).trans host,
      each.trans trans (eachOutlet_ramp refl trans give (fun n p o loaded => own n p o (host ▸ loaded)) k)⟩)
    s.outlets.length (mapOutlets meterCutWindow (feederCutWindow s)) ⟨rfl, .refl refl _⟩
  exact turns.2

theorem eachOutlet_prepareFrame (refl : ∀ n o, R n o o) (trans : ∀ n o u v, R n o u → R n u v → R n o v)
    (give : ∀ n o t, R n o (giveTarget true o t)) (snap : ∀ n p o, s.host.profile = some p → R n o (snappedOutlet p o)) :
    EachOutlet R s.outlets (prepareFrame s).outlets := by
  cases loaded : s.host.profile with
  | none => rw [prepareFrame_outlets_of_none loaded]; exact .refl refl _
  | some p =>
    by_cases offline : s.census.participation = .offline
    · rw [prepareFrame_of_offline offline]; exact .refl refl _
    · have snapped : EachOutlet R s.outlets (s.outlets.map (snappedOutlet p)) := eachOutlet_map (fun n o => snap n p o loaded) _
      rw [prepareFrame_outlets_of_profile loaded offline]
      split_ifs
      · exact snapped.trans trans (eachOutlet_retarget give _ _ _ _)
      · exact snapped

/-- What the cut of the count and every operation of a frame zero keep of a record, the frame zero keeps. -/
theorem eachOutlet_frameZero (boundaryFirst : Bool) (refl : ∀ n o, R n o o) (trans : ∀ n o u v, R n o u → R n u v → R n o v)
    (give : ∀ mayRaise n o t, R n o (giveTarget mayRaise o t)) (own : ∀ n p o, s.host.profile = some p → R n o (rampOutlet p o))
    (snap : ∀ n p o, s.host.profile = some p → R n o (snappedOutlet p o)) (cut : ∀ n o, R n o (meterCutWindow o)) :
    EachOutlet R s.outlets (frameZero boundaryFirst s).outlets := by
  have window (t : State) (host : t.host = s.host) : EachOutlet R t.outlets (cutWindow t).outlets :=
    (eachOutlet_map cut _).trans trans (eachOutlet_cutWindow refl trans (give false) fun n p o loaded => own n p o (host ▸ loaded))
  have prepare (t : State) (host : t.host = s.host) : EachOutlet R t.outlets (prepareFrame t).outlets :=
    eachOutlet_prepareFrame refl trans (give true) fun n p o loaded => snap n p o (host ▸ loaded)
  rw [frameZero_eq]
  split
  · exact (window (zeroStart s) rfl).trans trans (prepare _ (by rw [cutWindow_eq]; rfl))
  · exact (prepare (zeroStart s) rfl).trans trans (window _ (by rw [prepareFrame_eq]; rfl))

/-! The record of one outlet at a frame zero. -/

/-- What a frame zero leaves of a record: all but the window count, the target, the state, the offer, laxity and band, the window maximum and
the stall count. -/
def ZeroKept (o o' : Outlet) : Prop :=
  o'.meter = { o.meter with windowCount := o'.meter.windowCount } ∧ o'.setpointDuty = o.setpointDuty ∧ o'.clashCount = o.clashCount ∧
  o'.share = { o.share with target := o'.share.target } ∧
  o'.session = { o.session with
    state := o'.session.state, offer := o'.session.offer, laxity := o'.session.laxity, band := o'.session.band } ∧
  o'.supervision = { o.supervision with windowMax := o'.supervision.windowMax, stallCount := o'.supervision.stallCount }

theorem ZeroKept.refl (o : Outlet) : ZeroKept o o := ⟨rfl, rfl, rfl, rfl, rfl, rfl⟩

theorem ZeroKept.trans {o u v : Outlet} (first : ZeroKept o u) (second : ZeroKept u v) : ZeroKept o v := by
  obtain ⟨meter, duty, clash, share, session, supervision⟩ := first
  obtain ⟨meter', duty', clash', share', session', supervision'⟩ := second
  exact ⟨by rw [meter', meter], duty'.trans duty, clash'.trans clash, by rw [share', share], by rw [session', session],
    by rw [supervision', supervision]⟩

theorem ZeroKept.giveTarget (mayRaise : Bool) (o : Outlet) (target : Nat) : ZeroKept o (giveTarget mayRaise o target) := by
  have session : (Machine.giveTarget mayRaise o target).session = { o.session with
      state := (Machine.giveTarget mayRaise o target).session.state
      offer := (Machine.giveTarget mayRaise o target).session.offer
      laxity := (Machine.giveTarget mayRaise o target).session.laxity
      band := (Machine.giveTarget mayRaise o target).session.band } := by
    rw [giveTarget_session]
  refine ⟨by rw [giveTarget_meter], giveTarget_setpointDuty _ _ _, giveTarget_clashCount _ _ _, by rw [giveTarget_share], session, ?_⟩
  rcases giveTarget_supervision o mayRaise target with h | h <;> rw [h]

theorem ZeroKept.rampOutlet (p : Profile) (o : Outlet) : ZeroKept o (rampOutlet p o) := by
  unfold Machine.rampOutlet
  split_ifs <;> exact ⟨rfl, rfl, rfl, rfl, rfl, rfl⟩

theorem ZeroKept.snapped (p : Profile) (o : Outlet) : ZeroKept o (snappedOutlet p o) := by
  unfold snappedOutlet snapshotSession
  split_ifs <;> exact ⟨rfl, rfl, rfl, rfl, rfl, rfl⟩

theorem frameZero_zeroKept (boundaryFirst : Bool) (s : State) :
    EachOutlet (fun _ => ZeroKept) s.outlets (frameZero boundaryFirst s).outlets :=
  eachOutlet_frameZero boundaryFirst (fun _ => .refl) (fun _ _ _ _ => .trans) (fun mayRaise _ o target => .giveTarget mayRaise o target)
    (fun _ p o _ => .rampOutlet p o) (fun _ p o _ => .snapped p o) (fun _ _ => ⟨rfl, rfl, rfl, rfl, rfl, rfl⟩)

/-- A frame zero discards every window count (R148). -/
theorem frameZero_windowCount (boundaryFirst : Bool) (s : State) : ∀ o ∈ (frameZero boundaryFirst s).outlets, o.meter.windowCount = 0 := by
  have window (t : State) : ∀ o ∈ (cutWindow t).outlets, o.meter.windowCount = 0 := by
    have each : EachOutlet (fun _ o o' => o'.meter = o.meter) (t.outlets.map meterCutWindow) (cutWindow t).outlets :=
      eachOutlet_cutWindow (fun _ _ => rfl) (fun _ _ _ _ first second => second.trans first) (fun _ _ _ => giveTarget_meter _ _ _)
        fun _ p o _ => by unfold rampOutlet; split_ifs <;> rfl
    intro o' mem
    obtain ⟨n, found'⟩ := List.mem_iff_getElem?.mp mem
    have within : n < (t.outlets.map meterCutWindow).length := by rw [← each.1]; exact (List.getElem?_eq_some_iff.mp found').1
    rw [each.2 n _ o' (List.getElem?_eq_getElem within) found', List.getElem_map]
    rfl
  rw [frameZero_eq]
  split
  · have each : EachOutlet (fun _ o o' => o'.meter = o.meter) (cutWindow (zeroStart s)).outlets (prepareFrame (cutWindow (zeroStart s))).outlets :=
      eachOutlet_prepareFrame (fun _ _ => rfl) (fun _ _ _ _ first second => second.trans first) (fun _ _ _ => giveTarget_meter _ _ _)
        fun _ _ _ _ => rfl
    intro o' mem
    obtain ⟨n, found'⟩ := List.mem_iff_getElem?.mp mem
    have within : n < (cutWindow (zeroStart s)).outlets.length := by rw [← each.1]; exact (List.getElem?_eq_some_iff.mp found').1
    rw [each.2 n _ o' (List.getElem?_eq_getElem within) found']
    exact window (zeroStart s) _ (List.getElem_mem within)
  · exact window _

end

end Sys2Proof.Machine
end

section
/-! PROOFS. Frame zero at the offers, the targets and the latches (R24, R32, R72, R143, R144, R151), and with them obligation O51. -/

set_option Elab.async false

namespace Sys2Proof.Machine

section
variable {p : Profile} {s t : State} {n : Nat} {o o' u v : Outlet}

/-! The window maximum. -/

theorem giveTarget_windowMax (mayRaise : Bool) (o : Outlet) (target : Nat) :
    (giveTarget mayRaise o target).supervision.windowMax = o.supervision.windowMax := by
  rcases giveTarget_supervision o mayRaise target with h | h <;> rw [h]

theorem le_rampOutlet_windowMax (p : Profile) (o : Outlet) : o.supervision.windowMax ≤ (rampOutlet p o).supervision.windowMax := by
  rw [rampOutlet_windowMax]
  split
  · exact le_rfl
  · exact le_max_left _ _

/-- A cut window takes the window maximum no higher than one step of the ramp of the offer found (R143, R151). -/
theorem cutWindow_windowMax (loaded : s.host.profile = some p) (found : s.outlets[n]? = some u) (held : OfferHeld o u)
    (same : u.supervision.windowMax = o.supervision.windowMax) :
    HasOutlet n (fun v => v.supervision.windowMax ≤ max o.supervision.windowMax (rampTop p o.session.offer)) (cutWindow s) := by
  refine (cutWindow_hasOutlet (Q := fun u => OfferHeld o u ∧ u.supervision.windowMax = o.supervision.windowMax) loaded found ⟨held, same⟩
    (fun u pre => ⟨pre.1.lowered _, (giveTarget_windowMax _ _ _).trans pre.2⟩) (fun u pre => ?_)
    (fun v bound => by rw [giveTarget_windowMax]; exact bound)).1
  obtain ⟨held, same⟩ := pre
  rw [rampOutlet_windowMax]
  split_ifs with settled
  · omega
  · have offer : u.session.offer = o.session.offer := held.resolve_right fun low => settled low.2
    rw [rampedOffer_eq_min p (by omega), offer]
    omega

/-- A prepared frame leaves the window maximum (R151). -/
theorem prepareFrame_windowMax (s : State) :
    EachOutlet (fun _ o o' => o'.supervision.windowMax = o.supervision.windowMax) s.outlets (prepareFrame s).outlets :=
  eachOutlet_prepareFrame (fun _ _ => rfl) (fun _ _ _ _ first second => second.trans first) (fun _ o t => giveTarget_windowMax true o t)
    fun _ _ _ _ => rfl

theorem frameZero_le_windowMax (boundaryFirst : Bool) (s : State) :
    EachOutlet (fun _ o o' => o.supervision.windowMax ≤ o'.supervision.windowMax) s.outlets (frameZero boundaryFirst s).outlets :=
  eachOutlet_frameZero boundaryFirst (fun _ _ => le_rfl) (fun _ _ _ _ first second => first.trans second)
    (fun mayRaise _ o t => (giveTarget_windowMax mayRaise o t).ge) (fun _ p o _ => le_rampOutlet_windowMax p o) (fun _ _ _ _ => le_rfl)
    fun _ _ => le_rfl

/-- Without a profile no offer is ramped, and the window maximum stands. -/
theorem frameZero_windowMax_of_none (boundaryFirst : Bool) (none : s.host.profile = none) :
    EachOutlet (fun _ o o' => o'.supervision.windowMax = o.supervision.windowMax) s.outlets (frameZero boundaryFirst s).outlets :=
  eachOutlet_frameZero boundaryFirst (fun _ _ => rfl) (fun _ _ _ _ first second => second.trans first)
    (fun mayRaise _ o t => giveTarget_windowMax mayRaise o t) (fun _ p _ loaded => by rw [none] at loaded; cases loaded) (fun _ _ _ _ => rfl)
    fun _ _ => rfl

theorem HasOutlet.at {Q : Outlet → Prop} (here : HasOutlet n Q s) (found : s.outlets[n]? = some o) : Q o := by
  obtain ⟨u, found', q⟩ := here
  exact Option.some.inj (found'.symm.trans found) ▸ q

/-- A frame zero takes the window maximum no higher than one step of the ramp of the offer found (R143, R151). -/
theorem frameZero_windowMax_le (boundaryFirst : Bool) (loaded : s.host.profile = some p) (found : s.outlets[n]? = some o)
    (found' : (frameZero boundaryFirst s).outlets[n]? = some o') :
    o'.supervision.windowMax ≤ max o.supervision.windowMax (rampTop p o.session.offer) := by
  rw [frameZero_eq] at found'
  split at found'
  · have cut := cutWindow_windowMax (s := zeroStart s) loaded found (.inl rfl) rfl
    exact (cut.of_each (prepareFrame_windowMax _) (Q' := fun v => v.supervision.windowMax ≤ _) fun _ _ bound same => by
      rw [same]; exact bound).at found'
  · have each := prepareFrame_windowMax (zeroStart s)
    have within : n < (prepareFrame (zeroStart s)).outlets.length := by
      rw [each.1]
      exact (List.getElem?_eq_some_iff.mp found).1
    have middle := List.getElem?_eq_getElem within
    have loaded' : (prepareFrame (zeroStart s)).host.profile = some p := prepareFrame_profile.trans loaded
    exact (cutWindow_windowMax loaded' middle (prepareFrame_offerHeld (s := zeroStart s) found middle) (each.2 n o _ found middle)).at found'

/-! The latches. -/

theorem cutWindow_views (s : State) : EachOutlet SameView s.outlets (cutWindow s).outlets :=
  (eachOutlet_map (R := SameView) (f := meterCutWindow) (fun _ _ => rfl) _).trans SameView.trans
    (eachOutlet_cutWindow SameView.refl SameView.trans (fun _ o target => giveTarget_capView false o target)
      fun _ p o _ => rampOutlet_capView p o)

/-- After the snapshot point a prepared frame leaves what the tables read of each record. -/
theorem prepareFrame_views (part : s.census.participation ≠ .offline) :
    EachOutlet SameView (snapshot s).outlets (prepareFrame s).outlets := by
  dsimp only [prepareFrame]
  rw [if_pos ((takesPart_iff s).mpr part)]
  split_ifs
  · exact eachOutlet_recompute (R := SameView) SameView.refl (fun _ o target => giveTarget_capView true o target)
      { snapshot s with census := _ }
  · exact .refl SameView.refl _

/-- A seat's latch is that of any record of which the tables read the same (R24, R32). -/
theorem latchOf_of_view (view : capView o' = capView o) :
    ((latchOf o.session).present = true ↔ o'.session.state ≠ .vacant) ∧
    (latchOf o.session).band = if inPair o'.session.state = true then o'.session.band else .unbanded := by
  simp only [capView, CapView.mk.injEq] at view
  obtain ⟨state, -, band, -, -⟩ := view
  rw [band]
  unfold latchOf
  cases stateO : o.session.state <;> cases stateO' : o'.session.state <;> simp_all [inPair]

/-- The frame of a frame zero latches each outlet by its state and the band just stored (R24, R32, R72). -/
theorem frameZero_views (boundaryFirst : Bool) (part : s.census.participation ≠ .offline) :
    EachOutlet SameView (snapshot (zeroFramed boundaryFirst s)).outlets (frameZero boundaryFirst s).outlets := by
  rw [frameZero_eq, zeroFramed]
  split
  · refine prepareFrame_views ?_
    rw [cutWindow_census]
    exact part
  · exact (prepareFrame_views (s := zeroStart s) part).trans SameView.trans (cutWindow_views _)

/-! The offers and the targets. -/

/-- The record's target, offer, state and supervision stand. -/
def CoreKept (o o' : Outlet) : Prop :=
  o'.session.offer = o.session.offer ∧ o'.session.state = o.session.state ∧ o'.share = o.share ∧ o'.supervision = o.supervision

theorem coreKept_snapped (p : Profile) (o : Outlet) : CoreKept o (snappedOutlet p o) :=
  ⟨snapshotSession_offer _ _, snapshotSession_state _ _, rfl, rfl⟩

theorem Toward.of_core {top table : Nat} (way : Toward o top table u) (core : CoreKept u v) : Toward o top table v := by
  obtain ⟨offer, state, share, -⟩ := core
  unfold Toward PairFollowsOffer
  rw [offer, state, share]
  exact way

/-- Outside ISLANDED a prepared frame takes laxity and band alone. -/
theorem prepareFrame_core (notIslanded : s.census.participation ≠ .islanded) :
    EachOutlet (fun _ => CoreKept) s.outlets (prepareFrame s).outlets := by
  have refl : EachOutlet (fun _ => CoreKept) s.outlets s.outlets := .refl (fun _ _ => ⟨rfl, rfl, rfl, rfl⟩) _
  cases loaded : s.host.profile with
  | none => rw [prepareFrame_outlets_of_none loaded]; exact refl
  | some p =>
    by_cases offline : s.census.participation = .offline
    · rw [prepareFrame_of_offline offline]; exact refl
    · rw [prepareFrame_outlets_of_profile loaded offline, if_neg notIslanded]
      exact eachOutlet_map (fun _ o => coreKept_snapped p o) _

theorem PairFollowsOffer.trans (first : PairFollowsOffer o u) (second : PairFollowsOffer u v) : PairFollowsOffer o v := by
  obtain ⟨inside, outside⟩ := pairFollowsOffer_iff.mp first
  obtain ⟨inside', outside'⟩ := pairFollowsOffer_iff.mp second
  refine pairFollowsOffer_iff.mpr ⟨fun member => inside' ?_, fun other => ?_⟩
  · rw [inside member]
    split <;> rfl
  · have same := outside other
    rw [outside' (by rw [same]; exact other), same]

/-- The way of an offer with the window maximum beside it: untouched before the ramp. -/
def BeforeRamp (o : Outlet) (table : Nat) (u : Outlet) : Prop :=
  Toward o o.session.offer table u ∧ u.supervision.windowMax = o.supervision.windowMax

/-- The way of an offer with the window maximum beside it: raised with the offer where no target was lowered. -/
def AfterOwnRamp (p : Profile) (o : Outlet) (table : Nat) (v : Outlet) : Prop :=
  Toward o (rampTop p o.session.offer) table v ∧ (o.share.target ≤ table → v.supervision.windowMax =
    if o.session.offer < v.session.offer then max o.supervision.windowMax v.session.offer else o.supervision.windowMax)

theorem BeforeRamp.lowered {table : Nat} (before : BeforeRamp o table u) : BeforeRamp o table (giveTarget false u table) :=
  ⟨before.1.lowered, (giveTarget_windowMax _ _ _).trans before.2⟩

theorem AfterOwnRamp.lowered {table : Nat} (after : AfterOwnRamp p o table v) : AfterOwnRamp p o table (giveTarget false v table) := by
  obtain ⟨way, windowMax⟩ := after
  have lowered := way.lowered
  refine ⟨lowered, fun settled => ?_⟩
  obtain ⟨-, offer, -, target⟩ := way
  obtain ⟨-, offer', -, target'⟩ := lowered
  rw [giveTarget_windowMax, windowMax settled, offer, offer', target settled, target' settled]

/-- Under a profile in its ranges a step of the ramp is a step. -/
theorem lt_rampTop (inRange : profileInRange p = true) (offer : Nat) : offer < rampTop p offer := by
  obtain ⟨-, -, -, -, -, -, least, -, -, -, -, -, -, -, -, -, ramp, -⟩ := (profileInRange_iff p).mp inRange
  unfold rampTop
  split <;> omega

theorem positive_of_inRange (inRange : profileInRange p = true) : 0 < p.minCurrent := by
  obtain ⟨-, -, -, -, -, -, least, -⟩ := (profileInRange_iff p).mp inRange
  omega

theorem BeforeRamp.ramped {table : Nat} (inRange : profileInRange p = true) (within : o.session.offer ≤ o.share.target)
    (before : BeforeRamp o table u) : AfterOwnRamp p o table (rampOutlet p u) := by
  obtain ⟨way, windowMax⟩ := before
  have ramped := way.ramped (positive_of_inRange inRange)
  refine ⟨ramped, fun settled => ?_⟩
  obtain ⟨-, offer, -, target⟩ := way
  obtain ⟨-, offer', -, target'⟩ := ramped
  have same := target settled
  have same' := target' settled
  have rise := lt_rampTop inRange o.session.offer
  rw [rampOutlet_windowMax, windowMax]
  by_cases reached : u.share.target ≤ u.session.offer
  · rw [if_pos reached, if_neg (by omega)]
  · have held : u.session.offer = o.session.offer := by omega
    rw [if_neg reached, rampedOffer_eq_min p (by omega), held]
    have value : (rampOutlet p u).session.offer = min u.share.target (rampTop p o.session.offer) := by omega
    rw [← value, if_pos (by omega)]

/-- The cut window at an outlet of a lawful post (R64, R143, R151). -/
theorem cutWindow_afterOwnRamp (law : PostLaw s) (loaded : s.host.profile = some p) (found : s.outlets[n]? = some o) :
    HasOutlet n (AfterOwnRamp p o (cappedTarget p s.census.participation s.shares.curtail s.outlets n)) (cutWindow s) ∧
      SameTables s (cutWindow s) := by
  obtain ⟨⟨inRange, soft, -⟩, draws⟩ := (postLaw_iff loaded).mp law
  have lawful : OfferLaw p o := offerLaw_iff.mpr ⟨soft o (List.mem_of_getElem? found), draws o (List.mem_of_getElem? found)⟩
  have within : o.session.offer ≤ o.share.target := (soft o (List.mem_of_getElem? found)).within
  exact cutWindow_hasOutlet (Q := BeforeRamp o _) loaded found ⟨toward_of_lawful lawful rfl rfl _, rfl⟩ (fun _ before => before.lowered)
    (fun _ before => before.ramped inRange within) fun _ after => after.lowered

theorem targetsSettled_at (settled : TargetsSettled p s) (found : s.outlets[n]? = some o) :
    o.share.target ≤ cappedTarget p s.census.participation s.shares.curtail s.outlets n :=
  settled (o, n) (List.mem_iff_getElem?.mpr ⟨n, by rw [List.getElem?_zipIdx, found, Nat.zero_add]; rfl⟩)

/-- Outside ISLANDED a frame zero is one step of the ramp (R143). -/
theorem frameZero_ramped (boundaryFirst : Bool) (law : PostLaw s) (loaded : s.host.profile = some p)
    (notIslanded : s.census.participation ≠ .islanded) : RampedTo p s (frameZero boundaryFirst s) ∧
    (TargetsSettled p s → ∀ (n : Nat) (o o' : Outlet), s.outlets[n]? = some o → (frameZero boundaryFirst s).outlets[n]? = some o' →
      o'.supervision.windowMax =
        (if o.session.offer < o'.session.offer then max o.supervision.windowMax o'.session.offer else o.supervision.windowMax)) := by
  have after {n : Nat} {o o' : Outlet} (found : s.outlets[n]? = some o) (found' : (frameZero boundaryFirst s).outlets[n]? = some o') :
      AfterOwnRamp p o (cappedTarget p s.census.participation s.shares.curtail s.outlets n) o' := by
    have cut := (cutWindow_afterOwnRamp (s := zeroStart s) ((postLaw_of_same rfl rfl).mpr law) loaded found).1
    rw [frameZero_eq, if_pos (.inr notIslanded)] at found'
    have core := prepareFrame_core (s := cutWindow (zeroStart s)) (by rw [cutWindow_census]; exact notIslanded)
    refine (cut.of_each core fun u v after core => ⟨after.1.of_core core, fun settled => ?_⟩).at found'
    obtain ⟨offer, -, -, supervision⟩ := core
    rw [supervision, offer]
    exact after.2 settled
  refine ⟨fun n o o' found found' => ?_, fun settled n o o' found found' => (after found found').2 (targetsSettled_at settled found)⟩
  obtain ⟨le, offer, pair, target⟩ := (after found found').1
  exact ⟨le, offer, pair, fun settled => target (targetsSettled_at settled found)⟩

/-- In ISLANDED with the boundary first: the ramp goes toward the target held, and the fallback lowers or raises the target after it
(R138, R144). -/
theorem frameZero_boundaryFirst (law : PostLaw s) (loaded : s.host.profile = some p) (islanded : s.census.participation = .islanded) :
    TargetsFollowTable p .islanded s.shares.curtail (frameZero true s).outlets ∧
    ∀ (n : Nat) (o o' : Outlet), s.outlets[n]? = some o → (frameZero true s).outlets[n]? = some o' →
      o'.session.offer ≤ rampTop p o.session.offer ∧ PairFollowsOffer o o' ∧
      (TargetsSettled p s → o'.session.offer = min o'.share.target (min o.share.target (rampTop p o.session.offer))) := by
  have writes := cutWindow_eq (zeroStart s)
  have loadedW : (cutWindow (zeroStart s)).host.profile = some p := by rw [writes]; exact loaded
  have islandedW : (cutWindow (zeroStart s)).census.participation = .islanded := by rw [writes]; exact islanded
  have curtailW : (cutWindow (zeroStart s)).shares.curtail = s.shares.curtail := by rw [writes]; rfl
  have outlets : (frameZero true s).outlets = retarget p .islanded s.shares.curtail true
      ((cutWindow (zeroStart s)).outlets.map (snappedOutlet p)) := by
    rw [frameZero_eq, if_pos (.inl rfl), prepareFrame_outlets_of_profile loadedW (by rw [islandedW]; exact nofun), if_pos islandedW, curtailW]
  rw [outlets]
  refine ⟨retarget_followsTable (law.positive loaded) _ _ _, fun n o o' found found' => ?_⟩
  obtain ⟨w, foundW, way, -⟩ := (cutWindow_afterOwnRamp (s := zeroStart s) ((postLaw_of_same rfl rfl).mpr law) loaded found).1
  have snapped := way.of_core (coreKept_snapped p w)
  rw [retarget_getElem?, List.getElem?_map, foundW] at found'
  obtain rfl := Option.some.inj found'
  obtain ⟨-, offer, pair, target⟩ := snapped
  have given := giveTarget_offer (snappedOutlet p w) true
    ((cappedTargets p .islanded s.shares.curtail ((cutWindow (zeroStart s)).outlets.map (snappedOutlet p))).getD n 0)
  dsimp only
  refine ⟨by omega, pair.given true _, fun settled => ?_⟩
  have stood : (snappedOutlet p w).share.target = o.share.target := target (targetsSettled_at settled found)
  omega

/-- In ISLANDED with the boundary last: the ramp goes toward the new target of the fallback (R138, R144). -/
theorem frameZero_boundaryLast (law : PostLaw s) (loaded : s.host.profile = some p) (islanded : s.census.participation = .islanded) :
    TargetsFollowTable p .islanded s.shares.curtail (frameZero false s).outlets ∧
    ∀ (n : Nat) (o o' : Outlet), s.outlets[n]? = some o → (frameZero false s).outlets[n]? = some o' →
      o'.session.offer = min o'.share.target (rampTop p o.session.offer) ∧ PairFollowsOffer o o' := by
  have positive := law.positive loaded
  obtain ⟨⟨inRange, soft, -⟩, draws⟩ := (postLaw_iff loaded).mp law
  have zero : frameZero false s = cutWindow (prepareFrame (zeroStart s)) := by
    rw [frameZero_eq, if_neg]
    rintro (h | h)
    · cases h
    · exact h islanded
  have framed := prepareFrame_eq (zeroStart s)
  have outlets : (prepareFrame (zeroStart s)).outlets = retarget p .islanded s.shares.curtail true (s.outlets.map (snappedOutlet p)) := by
    rw [prepareFrame_outlets_of_profile (s := zeroStart s) loaded (by exact islanded ▸ nofun), if_pos (by exact islanded)]
    rfl
  have lawF : PostLaw (prepareFrame (zeroStart s)) :=
    OutletSteps.keepsPost (allowed := fun _ kind => kind = .raised) (fun _ _ raised => by rw [raised]; exact ⟨nofun, nofun⟩)
      (prepareFrame_steps fun _ _ => rfl) ((postLaw_of_same (t := zeroStart s) rfl rfl).mpr law)
  have loadedF : (prepareFrame (zeroStart s)).host.profile = some p := prepareFrame_profile.trans loaded
  have partF : (prepareFrame (zeroStart s)).census.participation = .islanded := by rw [prepareFrame_participation]; exact islanded
  have curtailF : (prepareFrame (zeroStart s)).shares.curtail = s.shares.curtail := by rw [framed]; rfl
  have targetsF : (prepareFrame (zeroStart s)).outlets.map (fun o => o.share.target) =
      cappedTargets p .islanded s.shares.curtail (prepareFrame (zeroStart s)).outlets := by
    rw [outlets, retarget_targets, retarget_capped]
  have tableAt {n : Nat} {u : Outlet} (found : (prepareFrame (zeroStart s)).outlets[n]? = some u) :
      cappedTarget p .islanded s.shares.curtail (prepareFrame (zeroStart s)).outlets n = u.share.target := by
    rw [cappedTarget, ← targetsF, List.getD_eq_getElem?_getD, List.getElem?_map, found]
    rfl
  have after {n : Nat} {u v : Outlet} (found : (prepareFrame (zeroStart s)).outlets[n]? = some u)
      (found' : (cutWindow (prepareFrame (zeroStart s))).outlets[n]? = some v) :
      Toward u (rampTop p u.session.offer) u.share.target v := by
    have cut := (cutWindow_afterOwnRamp lawF loadedF found).1
    rw [partF, curtailF, tableAt found] at cut
    exact (cut.at found').1
  have views := cutWindow_views (prepareFrame (zeroStart s))
  rw [zero]
  refine ⟨targetsFollowTable_of_capped positive ?_, fun n o o' found found' => ?_⟩
  · rw [cappedTargets_of_views views.1 views.2, ← targetsF]
    refine List.ext_getElem? fun n => ?_
    rw [List.getElem?_map, List.getElem?_map]
    cases foundU : (prepareFrame (zeroStart s)).outlets[n]? with
    | none =>
      have beyond : (cutWindow (prepareFrame (zeroStart s))).outlets.length ≤ n := views.1 ▸ List.getElem?_eq_none_iff.mp foundU
      rw [List.getElem?_eq_none_iff.mpr beyond]
    | some u =>
      have within : n < (cutWindow (prepareFrame (zeroStart s))).outlets.length :=
        views.1 ▸ (List.getElem?_eq_some_iff.mp foundU).1
      obtain ⟨-, -, -, target⟩ := after foundU (List.getElem?_eq_getElem within)
      rw [List.getElem?_eq_getElem within]
      exact congrArg some (target le_rfl)
  · have lawful : OfferLaw p o := offerLaw_iff.mpr ⟨soft o (List.mem_of_getElem? found), draws o (List.mem_of_getElem? found)⟩
    have middle : (prepareFrame (zeroStart s)).outlets[n]? = some (giveTarget true (snappedOutlet p o)
        ((cappedTargets p .islanded s.shares.curtail (s.outlets.map (snappedOutlet p))).getD n 0)) := by
      rw [outlets, retarget_getElem?, List.getElem?_map, found]
      rfl
    obtain ⟨-, offer, pair, target⟩ := after middle found'
    have same := target le_rfl
    have snapped := (toward_of_lawful lawful rfl rfl 0).of_core (coreKept_snapped p o)
    obtain ⟨-, -, pairO, -⟩ := snapped
    have pairU := pairO.given true ((cappedTargets p .islanded s.shares.curtail (s.outlets.map (snappedOutlet p))).getD n 0)
    have given := giveTarget_offer (snappedOutlet p o) true
      ((cappedTargets p .islanded s.shares.curtail (s.outlets.map (snappedOutlet p))).getD n 0)
    rw [show (snappedOutlet p o).session.offer = o.session.offer from snapshotSession_offer _ _] at given
    generalize giveTarget true (snappedOutlet p o)
      ((cappedTargets p .islanded s.shares.curtail (s.outlets.map (snappedOutlet p))).getD n 0) = u at *
    refine ⟨?_, pairU.trans pair⟩
    have rise := lt_rampTop inRange
    have own := rise o.session.offer
    have step := rise u.session.offer
    rcases Nat.le_total o.session.offer u.share.target with below | above
    · rw [show u.session.offer = o.session.offer by omega] at offer
      omega
    · omega

/-- In ISLANDED a frame zero makes the fallback targets, and no offer stands above them or more than a step above the one found
(R138, R144). -/
theorem frameZero_islanded (boundaryFirst : Bool) (law : PostLaw s) (loaded : s.host.profile = some p)
    (islanded : s.census.participation = .islanded) :
    TargetsFollowTable p .islanded s.shares.curtail (frameZero boundaryFirst s).outlets ∧
    ∀ (n : Nat) (o o' : Outlet), s.outlets[n]? = some o → (frameZero boundaryFirst s).outlets[n]? = some o' →
      o'.session.offer ≤ rampTop p o.session.offer ∧ PairFollowsOffer o o' ∧
      (boundaryFirst = false → o'.session.offer = min o'.share.target (rampTop p o.session.offer)) ∧
      (boundaryFirst = true → TargetsSettled p s →
        o'.session.offer = min o'.share.target (min o.share.target (rampTop p o.session.offer))) := by
  cases boundaryFirst with
  | true =>
    obtain ⟨table, each⟩ := frameZero_boundaryFirst law loaded islanded
    refine ⟨table, fun n o o' found found' => ?_⟩
    obtain ⟨top, pair, settled⟩ := each n o o' found found'
    exact ⟨top, pair, nofun, fun _ => settled⟩
  | false =>
    obtain ⟨table, each⟩ := frameZero_boundaryLast law loaded islanded
    refine ⟨table, fun n o o' found found' => ?_⟩
    obtain ⟨offer, pair⟩ := each n o o' found found'
    exact ⟨by omega, pair, fun _ => offer, nofun⟩

/-- No offer stands above its target in a lawful post. -/
theorem PostLaw.within (law : PostLaw s) (loaded : s.host.profile = some p) (found : s.outlets[n]? = some o) :
    o.session.offer ≤ o.share.target := by
  obtain ⟨⟨-, soft, -⟩, -⟩ := (postLaw_iff loaded).mp law
  exact (soft o (List.mem_of_getElem? found)).within

theorem frameZero_keepsPost (boundaryFirst : Bool) (law : PostLaw s) : PostLaw (frameZero boundaryFirst s) :=
  OutletSteps.keepsPost (allowed := fun _ kind => kind = .raised ∨ kind = .ramped)
    (fun _ _ ok => by rcases ok with rfl | rfl <;> exact ⟨nofun, nofun⟩)
    (frameZero_steps boundaryFirst (fun _ => .inr rfl) fun _ _ => .inl rfl) law

/-- Settles O51: the writes of a frame zero, the ramp of its cut window, and the frame that it prepares. -/
theorem startPulseEndsInFrameZero : Obligations.StartPulseEndsInFrameZero := by
  intro s r samples boundaryFirst sampled pulse run classifiable low high
  have writes := frameZero_writes boundaryFirst s
  have census := frameZero_census boundaryFirst s
  have kept := frameZero_zeroKept boundaryFirst s
  have profile : (frameZero boundaryFirst s).host.profile = s.host.profile := by rw [writes]
  refine ⟨_, exec_trailingEdge_start boundaryFirst sampled pulse run classifiable low high, frameZero_line _ _, by rw [census], by rw [census],
    by rw [census], by rw [census], by rw [census], by rw [census], by rw [census], by rw [writes]; rfl, by rw [writes], by rw [writes],
    by rw [writes], by rw [census], by rw [census], by rw [writes], by rw [writes], kept.1, ?_, ?_, ?_, ?_, ?_, ?_⟩
  · intro n o o' found found'
    obtain ⟨meter, duty, clash, share, session, supervision⟩ := kept.2 n o o' found found'
    rw [frameZero_windowCount boundaryFirst s o' (List.mem_of_getElem? found')] at meter
    exact ⟨meter, duty, clash, share, session, supervision⟩
  · intro n o o' found found'
    refine ⟨(frameZero_le_windowMax boundaryFirst s).2 n o o' found found', fun rises => ?_, fun none =>
      (frameZero_windowMax_of_none boundaryFirst none).2 n o o' found found', fun p loaded =>
      frameZero_windowMax_le boundaryFirst loaded found found'⟩
    obtain ⟨-, -, -, max⟩ := (frameZero_offerRamped boundaryFirst found found').resolve_left rises.not_ge
    exact max
  · exact fun p loaded law notIslanded => frameZero_ramped boundaryFirst law loaded notIslanded
  · intro p loaded law islanded
    obtain ⟨table, each⟩ := frameZero_islanded boundaryFirst law loaded islanded
    refine ⟨table, fun n o o' found found' => ?_⟩
    obtain ⟨top, pair, last, first⟩ := each n o o' found found'
    exact ⟨(frameZero_keepsPost boundaryFirst law).within (profile.trans loaded) found', top, pair, last, first⟩
  · intro offline
    rw [census, offline]
    rfl
  · intro part
    have views := frameZero_views (s := s) boundaryFirst part
    have number : (snapshot (zeroFramed boundaryFirst s)).census.number = s.census.number := by
      rw [snapshot_census, zeroFramed]
      split
      · rw [cutWindow_census]; rfl
      · rfl
    refine ⟨(snapshot (zeroFramed boundaryFirst s)).outlets.map fun o => latchOf o.session, ?_, ?_, ?_⟩
    · rw [census]
      dsimp only
      rw [if_neg part, ← number]
      rfl
    · rw [List.length_map, views.1]
    · intro n o' x found' latched
      rw [List.getElem?_map] at latched
      obtain ⟨o, found, rfl⟩ := Option.map_eq_some_iff.mp latched
      exact latchOf_of_view (views.2 n o o' found found')

end

end Sys2Proof.Machine
end

section
/-! PROOFS. The outlets' turns of a full window end (R152), seen from one outlet: the turns of the others can only lower its target and its
offer, and its own turn comes once. -/

set_option Elab.async false

namespace Sys2Proof.Machine

/-- A record of which recomputations and orders on borrow have lowered what they may: target, offer and B; a CHARGING session that lost its
target is PAUSED with its stall count at 0; and nothing else (R135, R141, R142, R158). -/
structure Lowered (o u : Outlet) : Prop where
  meter : u.meter = o.meter
  duty : u.setpointDuty = o.setpointDuty
  clash : u.clashCount = o.clashCount
  session : u.session = { o.session with state := u.session.state, offer := u.session.offer }
  share : u.share = { o.share with b := u.share.b, target := u.share.target }
  supervision : u.supervision = { o.supervision with stallCount := u.supervision.stallCount }
  borrow : u.share.b ≤ o.share.b
  target : u.share.target ≤ o.share.target
  held : OfferHeld o u
  within : o.session.offer ≤ o.share.target → u.session.offer ≤ u.share.target
  state : u.session.state = o.session.state ∧ u.supervision.stallCount = o.supervision.stallCount ∨
    o.session.state = .charging ∧ u.session.state = .paused ∧ u.share.target = 0 ∧ u.session.offer = 0 ∧ u.supervision.stallCount = 0

section
variable {s t : State} {n k : Nat} {o u v : Outlet} {R : Nat → Outlet → Outlet → Prop}

theorem OfferHeld.trans (first : OfferHeld o u) (second : OfferHeld u v) (lower : v.share.target ≤ u.share.target) : OfferHeld o v := by
  rcases first with same | ⟨le, below⟩ <;> rcases second with same' | ⟨le', below'⟩
  · exact .inl (same'.trans same)
  · exact .inr (by omega)
  · exact .inr (by omega)
  · exact .inr (by omega)

theorem Lowered.refl (o : Outlet) : Lowered o o :=
  ⟨rfl, rfl, rfl, rfl, rfl, rfl, le_rfl, le_rfl, .inl rfl, id, .inl ⟨rfl, rfl⟩⟩

theorem Lowered.trans (first : Lowered o u) (second : Lowered u v) : Lowered o v where
  meter := second.meter.trans first.meter
  duty := second.duty.trans first.duty
  clash := second.clash.trans first.clash
  session := by rw [second.session, first.session]
  share := by rw [second.share, first.share]
  supervision := by rw [second.supervision, first.supervision]
  borrow := second.borrow.trans first.borrow
  target := second.target.trans first.target
  held := first.held.trans second.held second.target
  within := second.within ∘ first.within
  state := by
    have lower := second.target
    have offers := second.held.le
    rcases first.state with ⟨same, count⟩ | ⟨charging, paused, target, offer, count⟩ <;>
      rcases second.state with ⟨same', count'⟩ | ⟨charging', paused', target', offer', count'⟩
    · exact .inl ⟨same'.trans same, count'.trans count⟩
    · exact .inr ⟨same ▸ charging', paused', target', offer', count'⟩
    · exact .inr ⟨charging, same'.trans paused, by omega, by omega, count'.trans count⟩
    · rw [paused] at charging'
      cases charging'

theorem Lowered.given (o : Outlet) (target : Nat) : Lowered o (giveTarget false o target) where
  meter := giveTarget_meter _ _ _
  duty := giveTarget_setpointDuty _ _ _
  clash := giveTarget_clashCount _ _ _
  session := by rw [giveTarget_session]
  share := by rw [giveTarget_share]
  supervision := by rcases giveTarget_supervision o false target with h | h <;> rw [h]
  borrow := by rw [giveTarget_share]
  target := by rw [giveTarget_false_target]; exact Nat.min_le_right _ _
  held := .of_giveTarget false o target
  within := fun _ => by rw [giveTarget_offer]; exact Nat.min_le_right _ _
  state := by
    unfold giveTarget
    rcases lowerOffer_cases { o with share.target := if false = true then target else min target o.share.target } with
      ⟨h, -⟩ | ⟨h, -⟩ | ⟨h, zero, charging⟩ <;> rw [h]
    · exact .inl ⟨rfl, rfl⟩
    · exact .inl ⟨rfl, rfl⟩
    · exact .inr ⟨charging, rfl, zero, rfl, rfl⟩

/-- The window's count is handed over whether or not target and offer were lowered before. -/
theorem Lowered.metered (lowered : Lowered o u) : Lowered (meterFullWindow o) (meterFullWindow u) where
  meter := by simp only [meterFullWindow, lowered.meter]
  duty := lowered.duty
  clash := lowered.clash
  session := lowered.session
  share := lowered.share
  supervision := lowered.supervision
  borrow := lowered.borrow
  target := lowered.target
  held := lowered.held
  within := lowered.within
  state := lowered.state

/-- A session outside CHARGING keeps its state. -/
theorem Lowered.state_of_ne (lowered : Lowered o u) (other : o.session.state ≠ .charging) :
    u.session.state = o.session.state ∧ u.supervision.stallCount = o.supervision.stallCount :=
  lowered.state.resolve_right fun ⟨charging, _⟩ => other charging

theorem Lowered.inPair (lowered : Lowered o u) : inPair u.session.state = inPair o.session.state := by
  rcases lowered.state with ⟨same, -⟩ | ⟨charging, paused, -⟩
  · rw [same]
  · rw [charging, paused]; rfl

/-! The turns of the other outlets. -/

/-- A recomputation without a profile does nothing, so that what it makes of a record under the profile is enough. -/
theorem eachOutlet_recomputeLow (refl : ∀ n o, R n o o) (give : s.host.profile ≠ none → ∀ n o t, R n o (giveTarget false o t)) :
    EachOutlet R s.outlets (recompute false s).outlets := by
  cases loaded : s.host.profile with
  | none => rw [recompute_of_none false loaded]; exact .refl refl _
  | some p =>
    rw [recompute_of_profile false loaded]
    exact eachOutlet_retarget (give (by rw [loaded]; exact nofun)) p _ _ _

/-- The full window end at outlet k changes the other outlets by recomputations alone. -/
theorem eachOutlet_superviseOutlet (refl : ∀ n o, R n o o) (trans : ∀ n o u v, R n o u → R n u v → R n o v)
    (give : s.host.profile ≠ none → ∀ n o t, R n o (giveTarget false o t)) (own : ∀ o o', R k o o') :
    EachOutlet R s.outlets (superviseOutlet k s).outlets := by
  have modified (f : Outlet → Outlet) (t : State) : EachOutlet R t.outlets (modifyOutlet k f t).outlets :=
    eachOutlet_modify refl fun o _ => own o _
  have lowered (t : State) (same : t.host.profile = s.host.profile) : EachOutlet R t.outlets (recompute false t).outlets :=
    eachOutlet_recomputeLow refl fun loaded => give (same ▸ loaded)
  have overdraw (t : State) (same : t.host.profile = s.host.profile) : EachOutlet R t.outlets (judgeOverdraw k t).outlets := by
    rcases judgeOverdraw_cases k t with h | ⟨c, -, h⟩ | ⟨o, -, -, -, h⟩ <;> rw [h]
    · exact .refl refl _
    · exact modified _ t
    · rw [capture_outlets]
      exact (modified (faultOutlet .overdraw) t).trans trans (lowered (raise (.faulted k) (modifyOutlet k (faultOutlet .overdraw) t)) same)
  have response (t : State) (same : t.host.profile = s.host.profile) : EachOutlet R t.outlets (judgeResponse k t).outlets := by
    rcases judgeResponse_cases k t with h | ⟨o, -, -, h⟩ | ⟨o, -, -, h⟩ <;> rw [h]
    · exact .refl refl _
    · unfold judgeStall
      split_ifs
      · exact (modified stallOutlet t).trans trans (lowered (raise (.stalled k) (modifyOutlet k stallOutlet t)) same)
      · exact modified _ t
      · exact modified _ t
    · unfold judgeUnstall
      split_ifs
      · exact (modified unstallOutlet t).trans trans (lowered (modifyOutlet k unstallOutlet t) same)
      · exact modified _ t
      · exact modified _ t
  have release (found : SessionState) (t : State) : EachOutlet R t.outlets (judgeRelease k found t).outlets := by
    unfold judgeRelease
    split
    · exact .refl refl _
    · split_ifs
      · rw [capture_outlets]
        exact modified _ t
      · exact modified _ t
      · exact modified _ t
      · exact .refl refl _
  have ramped (t : State) (same : t.host.profile = s.host.profile) : EachOutlet R t.outlets (ramp k t).outlets := by
    unfold ramp
    split
    · split_ifs
      · exact (modified _ t).trans trans (lowered (modifyOutlet k _ t) same)
      · exact modified _ t
    · exact .refl refl _
  have historyFrame := modifyOutlet_frame k enterHistory s
  have overdrawFrame := historyFrame.trans (judgeOverdraw_frame k _)
  have responseFrame := overdrawFrame.trans (judgeResponse_frame k _)
  have releaseFrame := responseFrame.trans (judgeRelease_frame k (sessionState s k) _)
  exact ((((modified enterHistory s).trans trans (overdraw _ historyFrame.profile)).trans trans
    (response _ overdrawFrame.profile)).trans trans (release _ _)).trans trans (ramped _ releaseFrame.profile)

/-- What another outlet's turn leaves of a record: the record lowered, with its B, and without a profile the record itself. -/
def BesideTurn (profile : Option Profile) (o u : Outlet) : Prop :=
  Lowered o u ∧ u.share.b = o.share.b ∧ (profile = none → u = o)

theorem BesideTurn.refl (profile : Option Profile) (o : Outlet) : BesideTurn profile o o := ⟨.refl o, rfl, fun _ => rfl⟩

theorem BesideTurn.trans {profile : Option Profile} (first : BesideTurn profile o u) (second : BesideTurn profile u v) :
    BesideTurn profile o v := by
  obtain ⟨lowered, borrow, same⟩ := first
  obtain ⟨lowered', borrow', same'⟩ := second
  exact ⟨lowered.trans lowered', borrow'.trans borrow, fun none => (same' none).trans (same none)⟩

theorem superviseOutlet_besides (k : Nat) (s : State) :
    EachOutlet (fun m o u => m ≠ k → BesideTurn s.host.profile o u) s.outlets (superviseOutlet k s).outlets :=
  eachOutlet_superviseOutlet (fun _ o _ => .refl _ o) (fun _ _ _ _ first second other => (first other).trans (second other))
    (fun loaded _ o target _ => ⟨.given o target, by rw [giveTarget_share], fun none => absurd none loaded⟩)
    fun _ _ other => absurd rfl other

/-- Another outlet's turn, seen from outlet n. -/
theorem HasOutlet.superviseOutlet_of_ne {Q Q' : Outlet → Prop} (here : HasOutlet n Q s) (other : k ≠ n)
    (lower : ∀ u v, Q u → BesideTurn s.host.profile u v → Q' v) : HasOutlet n Q' (superviseOutlet k s) :=
  here.of_each (superviseOutlet_besides k s) fun u v q beside => lower u v q (beside other.symm)

/-! What a turn raises. -/

/-- A turn raises its own outlet's events and no other. -/
theorem isRaised_superviseOutlet {e : Event} (stalled : eventBit (.stalled k) ≠ eventBit e) (faulted : eventBit (.faulted k) ≠ eventBit e)
    (release : eventBit (.release k) ≠ eventBit e) (s : State) : isRaised e (superviseOutlet k s) = isRaised e s := by
  have lowered (t : State) : isRaised e (recompute false t) = isRaised e t := isRaised_of_events (by rw [recompute_host]) e
  have captured (kind : FaultKind) (outlet : Option Nat) (value : Nat) (t : State) :
      isRaised e (capture kind outlet value t) = isRaised e t := isRaised_of_events (capture_events ..) e
  have raised {e' : Event} (other : eventBit e' ≠ eventBit e) (f : Outlet → Outlet) (t : State) :
      isRaised e (raise e' (modifyOutlet k f t)) = isRaised e t := isRaised_raise_of_ne other (modifyOutlet k f t)
  have overdraw (t : State) : isRaised e (judgeOverdraw k t) = isRaised e t := by
    rcases judgeOverdraw_cases k t with h | ⟨c, -, h⟩ | ⟨o, -, -, -, h⟩ <;> rw [h]
    · exact isRaised_of_events rfl e
    · rw [captured, enterFaulted, lowered, raised faulted]
  have response (t : State) : isRaised e (judgeResponse k t) = isRaised e t := by
    rcases judgeResponse_cases k t with h | ⟨o, -, -, h⟩ | ⟨o, -, -, h⟩ <;> rw [h]
    · unfold judgeStall
      split_ifs
      · rw [enterStalled, lowered, raised stalled]
      · exact isRaised_of_events rfl e
      · exact isRaised_of_events rfl e
    · unfold judgeUnstall
      split_ifs
      · rw [leaveStalled, lowered]
        exact isRaised_of_events rfl e
      · exact isRaised_of_events rfl e
      · exact isRaised_of_events rfl e
  have released (found : SessionState) (t : State) : isRaised e (judgeRelease k found t) = isRaised e t := by
    unfold judgeRelease
    split
    · rfl
    · split_ifs
      · rw [captured, raised release]
      · exact isRaised_of_events rfl e
      · exact isRaised_of_events rfl e
      · rfl
  rw [superviseOutlet_eq, isRaised_of_events (congrArg HostLink.events (ramp_host k _)), judgeOutlet, released, response, overdraw]
  exact isRaised_of_events rfl e

/-! The turn of an outlet. -/

/-- The events of outlet n that its turn can raise. -/
def IsTurnEvent (n : Nat) (e : Event) : Prop := e = .stalled n ∨ e = .faulted n ∨ e = .release n

theorem IsTurnEvent.kept {e : Event} (own : IsTurnEvent n e) (other : k ≠ n) (s : State) :
    isRaised e (superviseOutlet k s) = isRaised e s := by
  rcases own with rfl | rfl | rfl <;> refine isRaised_superviseOutlet ?_ ?_ ?_ s <;> simp only [eventBit] <;> omega

/-- Outlet n's turn comes in the state w: what the event at the outlets has done when it comes, and what it does after it. -/
structure Turn (n : Nat) (s : State) (o : Outlet) (w : State) (u v o' : Outlet) : Prop where
  foundBefore : w.outlets[n]? = some u
  before : BesideTurn s.host.profile (meterFullWindow o) u
  foundAfter : (superviseOutlet n w).outlets[n]? = some v
  after : BesideTurn s.host.profile v o'
  frame : OutletFrame s w
  faults : FaultsKept s w
  first : n = 0 → w.host = s.host
  laterFaults : FaultsKept (superviseOutlet n w) (outletsFullWindow s)
  quiet : ∀ e, IsTurnEvent n e → isRaised e w = isRaised e s
  kept : ∀ e, IsTurnEvent n e → isRaised e (outletsFullWindow s) = isRaised e (superviseOutlet n w)
  onward : ∀ P : State → Prop, (∀ k t, P t → P (superviseOutlet k t)) → P (superviseOutlet n w) → P (outletsFullWindow s)

/-- The full window end at the outlets, from an outlet's record found to the record left. -/
theorem outletsFullWindow_turn (found : s.outlets[n]? = some o) :
    ∃ w u v o', Turn n s o w u v o' ∧ (outletsFullWindow s).outlets[n]? = some o' := by
  have metered : HasOutlet n (BesideTurn s.host.profile (meterFullWindow o)) (mapOutlets meterFullWindow s) :=
    ⟨_, by rw [mapOutlets_getElem?, found]; rfl, .refl _ _⟩
  have turns := forOutlets_at (f := superviseOutlet) (n := n) (count := s.outlets.length) (s := mapOutlets meterFullWindow s)
    (fun w => HasOutlet n (BesideTurn s.host.profile (meterFullWindow o)) w ∧ OutletFrame s w ∧ FaultsKept s w ∧
      (n = 0 → w.host = s.host) ∧ ∀ e, IsTurnEvent n e → isRaised e w = isRaised e s)
    (fun t => ∃ w u v, w.outlets[n]? = some u ∧ BesideTurn s.host.profile (meterFullWindow o) u ∧
      (superviseOutlet n w).outlets[n]? = some v ∧ HasOutlet n (BesideTurn s.host.profile v) t ∧ OutletFrame s w ∧ FaultsKept s w ∧
      (n = 0 → w.host = s.host) ∧ (∀ e, IsTurnEvent n e → isRaised e w = isRaised e s) ∧ OutletFrame s t ∧
      FaultsKept (superviseOutlet n w) t ∧ (∀ e, IsTurnEvent n e → isRaised e t = isRaised e (superviseOutlet n w)) ∧
      ∀ P : State → Prop, (∀ k t, P t → P (superviseOutlet k t)) → P (superviseOutlet n w) → P t)
    (fun k t earlier pre => ?_) (fun t pre => ?_) (fun k t later post => ?_)
    ⟨metered, mapOutlets_frame _ s, (FaultsKept.refl s).of_host rfl, fun _ => rfl, fun e _ => isRaised_of_events rfl e⟩
    (List.getElem?_eq_some_iff.mp found).1
  · obtain ⟨w, u, v, foundBefore, before, foundAfter, ⟨o', found', after⟩, frame, faults, first, quiet, -, laterFaults, kept, onward⟩ := turns
    exact ⟨w, u, v, o', ⟨foundBefore, before, foundAfter, after, frame, faults, first, laterFaults, quiet, kept, onward⟩,
      found'⟩
  · obtain ⟨here, frame, faults, -, quiet⟩ := pre
    refine ⟨here.superviseOutlet_of_ne (by omega) fun u v before beside => before.trans (frame.profile ▸ beside),
      frame.trans (superviseOutlet_frame k t), superviseOutlet_keepsFaults k faults, by omega, fun e own => ?_⟩
    rw [own.kept (by omega), quiet e own]
  · obtain ⟨⟨u, foundBefore, before⟩, frame, faults, first, quiet⟩ := pre
    have within : n < (superviseOutlet n t).outlets.length := by
      have steps : OutletSteps (fun _ _ => True) t (superviseOutlet n t) := superviseOutlet_steps trivial trivial t
      rw [steps.length]
      exact (List.getElem?_eq_some_iff.mp foundBefore).1
    have foundAfter := List.getElem?_eq_getElem within
    exact ⟨t, u, _, foundBefore, before, foundAfter, ⟨_, foundAfter, .refl _ _⟩, frame, faults, first, quiet,
      frame.trans (superviseOutlet_frame n t), .refl _, fun e _ => rfl, fun _ _ => id⟩
  · obtain ⟨w, u, v, foundBefore, before, foundAfter, here, frame, faults, first, quiet, frameT, laterFaults, kept, onward⟩ := post
    refine ⟨w, u, v, foundBefore, before, foundAfter,
      here.superviseOutlet_of_ne (by omega) fun u v before beside => before.trans (frameT.profile ▸ beside), frame, faults, first, quiet,
      frameT.trans (superviseOutlet_frame k t), superviseOutlet_keepsFaults k laterFaults, fun e own => ?_,
      fun P step start => step k t (onward P step start)⟩
    rw [own.kept (by omega), kept e own]

end

end Sys2Proof.Machine
end

section
/-! PROOFS. The Feeder Watch's part of a full window end (R113 to R124): the order on borrow that it hands over, and what else it writes. -/

set_option Elab.async false

namespace Sys2Proof.Machine

/-- What an order makes of an outlet's borrow (R124, R133). -/
def borrowOp : BorrowOrder → Outlet → Outlet
  | .halve => halveBorrow
  | .zero => zeroBorrow
  | .zeroAndCurtail => zeroBorrow

/-- The curtail count after an order (R134). -/
def curtailAfter : BorrowOrder → Nat → Nat
  | .halve, count => count
  | .zero, count => count
  | .zeroAndCurtail, _ => 3

/-- The order on borrow that a reading brings, if any (R120, R122 to R124). -/
def readingOrder (p : Profile) (r : Reading) (w : FeederWatch) : Option BorrowOrder :=
  match w.sense, r with
  | .valid, .inBand f =>
    if nextTrip p f w.tripCount = 2 then some .zeroAndCurtail
    else if nextOver p f w.overCount = 2 then some .halve
    else none
  | .valid, .outOfBand _ => if 2 ≤ w.outOfBandCount + 1 then some .zero else none
  | .lost, .inBand _ => none
  | .lost, .outOfBand _ => none

/-- The order on borrow that the Feeder Watch hands over at a full window end, if any (R113, R124). -/
def feederOrder (s : State) : Option BorrowOrder :=
  match s.host.profile with
  | none => none
  | some p => if s.feeder.partialWindow then none else readingOrder p (readingOf p.fullScale s.feeder.windowSum) s.feeder

/-- The state with an order taken, if there is one (R124). -/
def takenIf (order : Option BorrowOrder) (s : State) : State :=
  match order with
  | none => s
  | some order => takeOrder order s

/-- The state with the order of the full window end taken (R124). -/
def orderTaken (s : State) : State := takenIf (feederOrder s) s

/-- The state at whose feeder a window's reading is judged (R117, R118). -/
def recorded (p : Profile) (s : State) : State :=
  { s with feeder := recordReading s.census.windowIndex (readingOf p.fullScale s.feeder.windowSum) s.feeder }

section
variable {p : Profile} {s t : State} {n : Nat} {o o' u : Outlet}

theorem takeOrder_of_profile (order : BorrowOrder) (loaded : s.host.profile = some p) :
    takeOrder order s = { s with
      shares.curtail := curtailAfter order s.shares.curtail
      outlets := retarget p s.census.participation (curtailAfter order s.shares.curtail) false (s.outlets.map (borrowOp order)) } := by
  cases order
  · rw [takeOrder, recompute_of_profile (p := p) false (by exact loaded)]; rfl
  · rw [takeOrder, recompute_of_profile (p := p) false (by exact loaded)]; rfl
  · rw [takeOrder, recompute_of_profile (p := p) false (by exact loaded)]; rfl

/-- The feeder, the events and the fault record take no part in an order. -/
def OrderFrame (s t : State) : Prop :=
  t = { s with
    feeder := t.feeder
    host.events := t.host.events
    host.firstFault := t.host.firstFault
    host.furtherFaults := t.host.furtherFaults }

theorem OrderFrame.refl (s : State) : OrderFrame s s := rfl

theorem OrderFrame.trans {v : State} (first : OrderFrame s t) (second : OrderFrame t v) : OrderFrame s v := by
  unfold OrderFrame at *; rw [second, first]

theorem raise_orderFrame (e : Event) (s : State) : OrderFrame s (raise e s) := rfl

theorem raiseIf_orderFrame (cond : Bool) (e : Event) (s : State) : OrderFrame s (raiseIf cond e s) := by
  unfold raiseIf; split <;> rfl

theorem capture_orderFrame (kind : FaultKind) (outlet : Option Nat) (value : Nat) (s : State) :
    OrderFrame s (capture kind outlet value s) := by
  rcases capture_cases kind outlet value s with ⟨-, h⟩ | ⟨-, h⟩ <;> rw [h] <;> rfl

theorem OrderFrame.profile (frame : OrderFrame s t) : t.host.profile = s.host.profile := by rw [frame]
theorem OrderFrame.census (frame : OrderFrame s t) : t.census = s.census := by rw [frame]
theorem OrderFrame.outlets (frame : OrderFrame s t) : t.outlets = s.outlets := by rw [frame]
theorem OrderFrame.shares (frame : OrderFrame s t) : t.shares = s.shares := by rw [frame]

/-- An order taken in states that differ in these alone leaves states that differ in these alone. -/
theorem OrderFrame.takeOrder (order : BorrowOrder) (loaded : s.host.profile = some p) (frame : OrderFrame s t) :
    OrderFrame (takeOrder order s) (takeOrder order t) := by
  rw [takeOrder_of_profile order loaded, takeOrder_of_profile order (frame.profile.trans loaded)]
  unfold OrderFrame at *
  rw [frame]

theorem OrderFrame.of_takeOrder {v : State} (order : BorrowOrder) (loaded : s.host.profile = some p) (first : OrderFrame s t)
    (last : OrderFrame (Machine.takeOrder order t) v) : OrderFrame (takenIf (some order) s) v :=
  (first.takeOrder order loaded).trans last

theorem noteTrip_orderFrame (f trip : Nat) (s : State) : OrderFrame s (noteTrip f trip s) := by
  unfold noteTrip
  split_ifs
  · rfl
  · exact OrderFrame.trans (t := raise .trip { s with feeder.hushPending := true }) rfl (capture_orderFrame _ _ _ _)

theorem judgeLimits_orderFrame (f : Nat) (loaded : s.host.profile = some p) (sense : s.feeder.sense = .valid) :
    OrderFrame (takenIf (readingOrder p (.inBand f) s.feeder) s) (judgeLimits p f s) := by
  have counted (w : FeederWatch) : OrderFrame s (noteOverload p f s.feeder.overCount { s with feeder := w }) :=
    OrderFrame.trans (t := { s with feeder := w }) rfl (raiseIf_orderFrame _ _ _)
  simp only [readingOrder, sense, judgeLimits]
  split_ifs
  · exact ((counted _).trans (noteTrip_orderFrame _ _ _)).of_takeOrder .zeroAndCurtail loaded (.refl _)
  · exact (counted _).of_takeOrder .halve loaded (.refl _)
  · exact counted _

theorem judgeReading_orderFrame (r : Reading) (loaded : s.host.profile = some p) :
    OrderFrame (takenIf (readingOrder p r s.feeder) s) (judgeReading p r s) := by
  unfold judgeReading
  split
  · next f sense =>
    have frame := judgeLimits_orderFrame (s := { s with feeder.outOfBandCount := 0 }) f loaded sense
    rw [show readingOrder p (.inBand f) { s.feeder with outOfBandCount := 0 } = readingOrder p (.inBand f) s.feeder by
      simp only [readingOrder, sense]] at frame
    refine OrderFrame.trans ?_ frame
    cases readingOrder p (.inBand f) s.feeder with
    | none => rfl
    | some order => exact OrderFrame.takeOrder order loaded rfl
  · next sum sense =>
    simp only [readingOrder, sense]
    split_ifs
    · exact OrderFrame.of_takeOrder .zero loaded (t := { s with feeder := _ }) rfl
        ((raise_orderFrame .senseLost _).trans (capture_orderFrame _ _ _ _))
    · rfl
  · next f sense =>
    simp only [readingOrder, sense]
    split_ifs <;> rfl
  · next sum sense =>
    simp only [readingOrder, sense]
    rfl

/-- A full window that is judged (R113). -/
theorem feederFullWindow_of_judged (loaded : s.host.profile = some p) (whole : s.feeder.partialWindow = false) :
    feederFullWindow s =
      let t := judgeReading p (readingOf p.fullScale s.feeder.windowSum) (recorded p s)
      { t with feeder := startWindow t.feeder } := by
  unfold feederFullWindow
  rw [loaded]
  dsimp only
  rw [if_neg (by rw [whole]; exact Bool.false_ne_true)]
  rfl

/-- A full window that is not judged (R112, R113). -/
theorem feederFullWindow_of_unjudged (unjudged : s.host.profile = none ∨ s.feeder.partialWindow = true) :
    feederFullWindow s = { s with feeder := startWindow s.feeder } := by
  unfold feederFullWindow
  split
  · rfl
  · next p loaded => rw [if_pos (unjudged.resolve_left fun none => by rw [none] at loaded; cases loaded)]

theorem feederOrder_of_unjudged (unjudged : s.host.profile = none ∨ s.feeder.partialWindow = true) : feederOrder s = none := by
  unfold feederOrder
  split
  · rfl
  · next p loaded => rw [if_pos (unjudged.resolve_left fun none => by rw [none] at loaded; cases loaded)]

theorem feederOrder_of_judged (loaded : s.host.profile = some p) (whole : s.feeder.partialWindow = false) :
    feederOrder s = readingOrder p (readingOf p.fullScale s.feeder.windowSum) s.feeder := by
  unfold feederOrder
  rw [loaded]
  dsimp only
  rw [if_neg (by rw [whole]; exact Bool.false_ne_true)]

/-- A full window end at the Feeder Watch is the order that it hands over, with writes of the feeder, the events and the fault record. -/
theorem feederFullWindow_orderFrame (s : State) : OrderFrame (orderTaken s) (feederFullWindow s) := by
  by_cases unjudged : s.host.profile = none ∨ s.feeder.partialWindow = true
  · rw [feederFullWindow_of_unjudged unjudged, orderTaken, feederOrder_of_unjudged unjudged]
    rfl
  · obtain ⟨loaded, whole⟩ := not_or.mp unjudged
    obtain ⟨p, loaded⟩ := Option.ne_none_iff_exists'.mp loaded
    rw [Bool.not_eq_true] at whole
    rw [feederFullWindow_of_judged loaded whole, orderTaken, feederOrder_of_judged loaded whole]
    refine OrderFrame.trans ?_ (OrderFrame.trans (judgeReading_orderFrame (s := recorded p s) _ loaded) rfl)
    cases given : readingOrder p (readingOf p.fullScale s.feeder.windowSum) s.feeder with
    | none => rw [show readingOrder p _ (recorded p s).feeder = none from given]; rfl
    | some order =>
      rw [show readingOrder p _ (recorded p s).feeder = some order from given]
      exact OrderFrame.takeOrder order loaded rfl

theorem feederFullWindow_outlets (s : State) : (feederFullWindow s).outlets = (orderTaken s).outlets := (feederFullWindow_orderFrame s).outlets

theorem feederFullWindow_shares (s : State) : (feederFullWindow s).shares = (orderTaken s).shares := (feederFullWindow_orderFrame s).shares

theorem feederOrder_of_profile {order : BorrowOrder} (given : feederOrder s = some order) : ∃ p, s.host.profile = some p := by
  unfold feederOrder at given
  cases loaded : s.host.profile with
  | none => rw [loaded] at given; cases given
  | some p => exact ⟨p, rfl⟩

theorem borrowOp_lowered (order : BorrowOrder) (o : Outlet) : Lowered o (borrowOp order o) := by
  have borrowed {b : Nat} (le : b ≤ o.share.b) : Lowered o { o with share.b := b } :=
    ⟨rfl, rfl, rfl, rfl, rfl, rfl, le, le_rfl, .inl rfl, id, .inl ⟨rfl, rfl⟩⟩
  cases order with
  | halve => exact borrowed (by unfold clampBorrow; omega)
  | zero => exact borrowed (Nat.zero_le _)
  | zeroAndCurtail => exact borrowed (Nat.zero_le _)

/-- The Feeder Watch lowers B, targets and offers, or nothing; without a profile nothing. -/
theorem orderTaken_lowered (s : State) :
    EachOutlet (fun _ o u => Lowered o u ∧ (s.host.profile = none → u = o)) s.outlets (orderTaken s).outlets := by
  unfold orderTaken
  cases given : feederOrder s with
  | none => exact .refl (fun _ o => ⟨.refl o, fun _ => rfl⟩) _
  | some order =>
    obtain ⟨p, loaded⟩ := feederOrder_of_profile given
    rw [takenIf, takeOrder_of_profile order loaded]
    have borrowed : EachOutlet (fun _ => Lowered) s.outlets (s.outlets.map (borrowOp order)) := eachOutlet_map (fun _ => borrowOp_lowered order) _
    refine EachOutlet.mono (fun _ o u lowered => ⟨lowered, fun none => ?_⟩)
      (borrowed.trans (fun _ _ _ _ => .trans) (eachOutlet_retarget (fun _ => .given) p _ _ _))
    rw [loaded] at none
    cases none

theorem feederFullWindow_lowered (s : State) :
    EachOutlet (fun _ o u => Lowered o u ∧ (s.host.profile = none → u = o)) s.outlets (feederFullWindow s).outlets := by
  rw [feederFullWindow_outlets]
  exact orderTaken_lowered s

theorem feederFullWindow_census (s : State) : (feederFullWindow s).census = s.census := by
  obtain ⟨-, census, -⟩ := feederFullWindow_frame s
  exact census

theorem feederFullWindow_profile (s : State) : (feederFullWindow s).host.profile = s.host.profile := by
  obtain ⟨-, -, profile⟩ := feederFullWindow_frame s
  exact profile

/-- The Feeder Watch raises none of an outlet's events. -/
theorem isRaised_feederFullWindow {e : Event} (overload : eventBit .overload ≠ eventBit e) (trip : eventBit .trip ≠ eventBit e)
    (lost : eventBit .senseLost ≠ eventBit e) (back : eventBit .senseBack ≠ eventBit e) (s : State) :
    isRaised e (feederFullWindow s) = isRaised e s := by
  have host {t u : State} (same : t.host = u.host) : isRaised e t = isRaised e u := isRaised_of_events (congrArg HostLink.events same) e
  have captured (kind : FaultKind) (outlet : Option Nat) (value : Nat) (t : State) :
      isRaised e (capture kind outlet value t) = isRaised e t := isRaised_of_events (capture_events ..) e
  have tripped (f trip' : Nat) (t : State) : isRaised e (noteTrip f trip' t) = isRaised e t := by
    unfold noteTrip
    split_ifs
    · rfl
    · rw [captured, isRaised_raise_of_ne trip]
      rfl
  have limits (p : Profile) (f : Nat) (t : State) : isRaised e (judgeLimits p f t) = isRaised e t := by
    unfold judgeLimits
    dsimp only
    split_ifs
    · rw [host (takeOrder_host _ _), tripped, noteOverload, isRaised_raiseIf_of_ne overload]
      rfl
    · rw [host (takeOrder_host _ _), noteOverload, isRaised_raiseIf_of_ne overload]
      rfl
    · rw [noteOverload, isRaised_raiseIf_of_ne overload]
      rfl
  have reading (p : Profile) (r : Reading) (t : State) : isRaised e (judgeReading p r t) = isRaised e t := by
    unfold judgeReading
    split
    · exact (limits p _ _).trans rfl
    · split_ifs
      · rw [loseSense, captured, isRaised_raise_of_ne lost, host (takeOrder_host _ _)]
        rfl
      · rfl
    · split_ifs
      · rw [regainSense, isRaised_raise_of_ne back]
        rfl
      · rfl
    · rfl
  unfold feederFullWindow
  split
  · rfl
  · split_ifs
    · rfl
    · exact (reading _ _ { s with feeder := recordReading _ _ _ }).trans rfl

theorem IsTurnEvent.keptByFeeder {e : Event} (own : IsTurnEvent n e) (s : State) : isRaised e (feederFullWindow s) = isRaised e s := by
  rcases own with rfl | rfl | rfl <;> refine isRaised_feederFullWindow ?_ ?_ ?_ ?_ s <;> simp only [eventBit] <;> omega

/-! The full window end as a whole. -/

theorem FaultsKept.trans {v : State} (first : FaultsKept s t) (second : FaultsKept t v) : FaultsKept s v := by
  obtain ⟨store, noted⟩ := first
  obtain ⟨store', noted'⟩ := second
  refine ⟨?_, noted' ∘ noted⟩
  rcases store' with same' | ⟨empty', captured⟩
  · rw [same']
    exact store
  · rcases store with same | ⟨-, r, filled, -⟩
    · exact .inr ⟨same.symm.trans empty', captured⟩
    · rw [filled] at empty'
      cases empty'

/-- The two blocks' parts of a full window end, in the order taken (R124). -/
def windowTaken (feederFirst : Bool) (s : State) : State :=
  if feederFirst then outletsFullWindow (feederFullWindow s) else feederFullWindow (outletsFullWindow s)

/-- The state of a full window end before a request is served (R50, R63). -/
def windowClosed (feederFirst : Bool) (s : State) : State := { windowTaken feederFirst s with
  census.windowIndex := ((windowTaken feederFirst s).census.windowIndex + 1) % 8, census.windowMs := 0 }

theorem endFullWindow_eq (feederFirst : Bool) (s : State) : endFullWindow feederFirst s = serve (windowClosed feederFirst s) := rfl

theorem endFullWindow_outlets (feederFirst : Bool) (s : State) : (endFullWindow feederFirst s).outlets = (windowTaken feederFirst s).outlets :=
  serve_outlets (windowClosed feederFirst s)

theorem endFullWindow_host (feederFirst : Bool) (s : State) : (endFullWindow feederFirst s).host = (windowTaken feederFirst s).host :=
  serve_host (windowClosed feederFirst s)

theorem endFullWindow_feeder (feederFirst : Bool) (s : State) : (endFullWindow feederFirst s).feeder = (windowTaken feederFirst s).feeder :=
  serve_feeder (windowClosed feederFirst s)

theorem endFullWindow_shares (feederFirst : Bool) (s : State) : (endFullWindow feederFirst s).shares = (windowTaken feederFirst s).shares :=
  serve_shares (windowClosed feederFirst s)

/-- Outlet n's turn in a full window end: the record found, lowered and with its count handed over, comes to its turn, and what the turn makes
of it is lowered once more. -/
structure WindowTurn (n : Nat) (feederFirst : Bool) (s : State) (o : Outlet) (w : State) (u v o' : Outlet) : Prop where
  foundBefore : w.outlets[n]? = some u
  before : Lowered (meterFullWindow o) u
  unloadedBefore : s.host.profile = none → u = meterFullWindow o
  foundAfter : (superviseOutlet n w).outlets[n]? = some v
  after : Lowered v o'
  unloadedAfter : s.host.profile = none → o' = v
  profile : w.host.profile = s.host.profile
  census : w.census = s.census
  faults : FaultsKept s w
  first : feederFirst = false → n = 0 → w.host = s.host
  laterFaults : FaultsKept (superviseOutlet n w) (endFullWindow feederFirst s)
  quiet : ∀ e, IsTurnEvent n e → isRaised e w = isRaised e s
  kept : ∀ e, IsTurnEvent n e → isRaised e (endFullWindow feederFirst s) = isRaised e (superviseOutlet n w)
  onward : ∀ P : State → Prop, (∀ k t, P t → P (superviseOutlet k t)) → (∀ t, P t → P (feederFullWindow t)) → P (superviseOutlet n w) →
    P (windowTaken feederFirst s)

theorem endFullWindow_turn (feederFirst : Bool) (found : s.outlets[n]? = some o) :
    ∃ w u v o', WindowTurn n feederFirst s o w u v o' ∧ (endFullWindow feederFirst s).outlets[n]? = some o' := by
  have raised (e : Event) : isRaised e (endFullWindow feederFirst s) = isRaised e (windowTaken feederFirst s) :=
    isRaised_of_events (by rw [endFullWindow_host]) e
  have stored {t : State} (kept : FaultsKept t (windowTaken feederFirst s)) : FaultsKept t (endFullWindow feederFirst s) :=
    kept.of_host (endFullWindow_host feederFirst s)
  rw [endFullWindow_outlets]
  cases feederFirst with
  | false =>
    obtain ⟨w, u, v, x, turn, foundX⟩ := outletsFullWindow_turn found
    have last := feederFullWindow_lowered (outletsFullWindow s)
    have within : n < (feederFullWindow (outletsFullWindow s)).outlets.length := by
      rw [last.1]
      exact (List.getElem?_eq_some_iff.mp foundX).1
    have found' := List.getElem?_eq_getElem within
    obtain ⟨lowered, unloaded⟩ := last.2 n x _ foundX found'
    rw [(outletsFullWindow_frame s).profile] at unloaded
    obtain ⟨before, -, unloadedBefore⟩ := turn.before
    obtain ⟨after, -, unloadedAfter⟩ := turn.after
    refine ⟨w, u, v, _, ⟨turn.foundBefore, before, unloadedBefore, turn.foundAfter, after.trans lowered,
      fun none => (unloaded none).trans (unloadedAfter none), turn.frame.profile, turn.frame.census, turn.faults, fun _ => turn.first,
      stored (feederFullWindow_keepsFaults turn.laterFaults), turn.quiet, fun e own => ?_,
      fun P step feeder start => feeder _ (turn.onward P step start)⟩, found'⟩
    rw [raised, ← turn.kept e own]
    exact own.keptByFeeder _
  | true =>
    have first := feederFullWindow_lowered s
    have within : n < (feederFullWindow s).outlets.length := by
      rw [first.1]
      exact (List.getElem?_eq_some_iff.mp found).1
    have foundX := List.getElem?_eq_getElem within
    obtain ⟨lowered, unloaded⟩ := first.2 n o _ found foundX
    obtain ⟨w, u, v, o', turn, found'⟩ := outletsFullWindow_turn foundX
    have profile := feederFullWindow_profile s
    have frame := turn.frame
    obtain ⟨before, -, unloadedBefore⟩ := turn.before
    obtain ⟨after, -, unloadedAfter⟩ := turn.after
    rw [profile] at unloadedBefore unloadedAfter
    refine ⟨w, u, v, o', ⟨turn.foundBefore, lowered.metered.trans before, fun none => ?_, turn.foundAfter, after, unloadedAfter,
      frame.profile.trans profile, frame.census.trans (feederFullWindow_census s), ?_, nofun, stored turn.laterFaults, fun e own => ?_, fun e own => ?_,
      fun P step _ start => turn.onward P step start⟩, found'⟩
    · rw [unloadedBefore none, unloaded none]
    · exact (feederFullWindow_keepsFaults (FaultsKept.refl s)).trans turn.faults
    · rw [turn.quiet e own, own.keptByFeeder]
    · rw [raised]
      exact turn.kept e own

end

end Sys2Proof.Machine
end

section
/-! PROOFS. An outlet's own turn at a full window end (R152), record by record; and with it the overdraw fault and the driven release output
(R153, R156). -/

set_option Elab.async false

namespace Sys2Proof.Machine

/-- The overdraw count after a window that faults no session (R153). -/
def nextOverdraw (u : Outlet) : Nat :=
  if judgedForOverdraw u.session.state = true then if overdraws u = true then u.supervision.overdrawCount + 1 else 0
  else u.supervision.overdrawCount

/-- What the judgement of overdraw makes of a record (R153). -/
def overdrawRecord (u : Outlet) : Outlet :=
  if judgedForOverdraw u.session.state then
    if overdraws u then
      if 4 ≤ u.supervision.overdrawCount + 1 then faultOutlet .overdraw u
      else { u with supervision.overdrawCount := u.supervision.overdrawCount + 1 }
    else { u with supervision.overdrawCount := 0 }
  else u

/-- What the judgement of stall and unstall makes of a record (R154, R155). -/
inductive Responds (profile : Option Profile) (u : Outlet) : Outlet → Prop
  | stalls {v : Outlet} (charging : u.session.state = .charging) (low : drawOf u < 10) (last : 239 ≤ u.supervision.stallCount)
    (given : BesideTurn profile (stallOutlet u) v) : Responds profile u v
  | low (charging : u.session.state = .charging) (low : drawOf u < 10) (short : u.supervision.stallCount < 239) :
    Responds profile u { u with supervision.stallCount := u.supervision.stallCount + 1 }
  | high (charging : u.session.state = .charging) (high : 10 ≤ drawOf u) : Responds profile u { u with supervision.stallCount := 0 }
  | unstalls {v : Outlet} (stalled : u.session.state = .stalled) (draws : 20 ≤ drawOf u) (last : 3 ≤ u.supervision.unstallCount)
    (given : BesideTurn profile (unstallOutlet u) v) : Responds profile u v
  | draws (stalled : u.session.state = .stalled) (draws : 20 ≤ drawOf u) (short : u.supervision.unstallCount < 3) :
    Responds profile u { u with supervision.unstallCount := u.supervision.unstallCount + 1 }
  | rests (stalled : u.session.state = .stalled) (low : drawOf u < 20) : Responds profile u { u with supervision.unstallCount := 0 }
  | other (notCharging : u.session.state ≠ .charging) (notStalled : u.session.state ≠ .stalled) : Responds profile u u

/-- What the judgement of release makes of a record, by the state found (R156). -/
def releaseRecord (found : SessionState) (u : Outlet) : Outlet :=
  if judgedForRelease found && !u.supervision.releaseDriven then
    if 20 < drawOf u then
      if 8 ≤ u.supervision.releaseCount + 1 then { u with supervision.releaseCount := 8, supervision.releaseDriven := true }
      else { u with supervision.releaseCount := u.supervision.releaseCount + 1 }
    else { u with supervision.releaseCount := 0 }
  else u

/-- What the ramp of an outlet makes of its record (R143). -/
def Ramps (profile : Option Profile) (u v : Outlet) : Prop :=
  profile = none ∧ v = u ∨ ∃ p, profile = some p ∧ BesideTurn profile (rampOutlet p u) v

section
variable {p : Profile} {profile : Option Profile} {s t w : State} {n : Nat} {o u v x : Outlet}

theorem modifyOutlet_own (f : Outlet → Outlet) (found : s.outlets[n]? = some u) : (modifyOutlet n f s).outlets[n]? = some (f u) := by
  rw [modifyOutlet_getElem?, found, if_pos rfl]; rfl

/-- A change of an outlet's own record, and then a recomputation. -/
theorem recompute_beside (found : t.outlets[n]? = some u) :
    ∃ v, (recompute false t).outlets[n]? = some v ∧ BesideTurn t.host.profile u v := by
  have each : EachOutlet (fun _ => BesideTurn t.host.profile) t.outlets (recompute false t).outlets :=
    eachOutlet_recomputeLow (fun _ => .refl _) fun loaded _ o target =>
      ⟨.given o target, by rw [giveTarget_share], fun none => absurd none loaded⟩
  have within : n < (recompute false t).outlets.length := by
    rw [each.1]
    exact (List.getElem?_eq_some_iff.mp found).1
  exact ⟨_, List.getElem?_eq_getElem within, each.2 n u _ found (List.getElem?_eq_getElem within)⟩

theorem FaultedFor.lowered {kind : SessionFault} (faulted : FaultedFor kind u) (lowered : Lowered u v) : FaultedFor kind v := by
  obtain ⟨state, faultKind, offer, target, overdraw, stall, unstall, release⟩ := faulted
  obtain ⟨state', count⟩ := lowered.state_of_ne (by rw [state]; exact nofun)
  have offer' := lowered.held.le
  have target' := lowered.target
  refine ⟨state'.trans state, by rw [lowered.session]; exact faultKind, by omega, by omega, ?_, by rw [count]; exact stall, ?_, ?_⟩ <;>
    rw [lowered.supervision] <;> assumption

theorem enterFaulted_own (kind : SessionFault) (found : s.outlets[n]? = some u) :
    (enterFaulted n kind s).outlets[n]? = some (faultOutlet kind u) := by
  have own := modifyOutlet_own (faultOutlet kind) found
  rw [enterFaulted]
  cases loaded : s.host.profile with
  | none => rw [recompute_of_none false (by exact loaded)]; exact own
  | some p =>
    rw [recompute_of_profile (p := p) false (by exact loaded)]
    dsimp only
    rw [retarget_getElem?, show (raise (.faulted n) (modifyOutlet n (faultOutlet kind) s)).outlets = (modifyOutlet n (faultOutlet kind) s).outlets from rfl,
      own, Option.map_some, (faultedFor_faultOutlet kind u).giveTarget_false]

theorem judgeOverdraw_at (found : s.outlets[n]? = some u) : (judgeOverdraw n s).outlets[n]? = some (overdrawRecord u) := by
  unfold judgeOverdraw overdrawRecord
  rw [found]
  dsimp only
  split_ifs
  · rw [capture_outlets]; exact enterFaulted_own .overdraw found
  · exact modifyOutlet_own _ found
  · exact modifyOutlet_own _ found
  · exact found

theorem judgeResponse_at (found : s.outlets[n]? = some u) :
    ∃ v, (judgeResponse n s).outlets[n]? = some v ∧ Responds s.host.profile u v := by
  unfold judgeResponse
  rw [found]
  dsimp only
  split
  case h_1 charging =>
    unfold judgeStall
    split_ifs with low last
    · obtain ⟨v, found', beside⟩ := recompute_beside (t := raise (.stalled n) (modifyOutlet n stallOutlet s)) (modifyOutlet_own stallOutlet found)
      exact ⟨v, found', .stalls charging low (by omega) beside⟩
    · exact ⟨_, modifyOutlet_own _ found, .low charging low (by omega)⟩
    · exact ⟨_, modifyOutlet_own _ found, .high charging (by omega)⟩
  case h_2 stalled =>
    unfold judgeUnstall
    split_ifs with draws last
    · obtain ⟨v, found', beside⟩ := recompute_beside (t := modifyOutlet n unstallOutlet s) (modifyOutlet_own unstallOutlet found)
      exact ⟨v, found', .unstalls stalled draws (by omega) beside⟩
    · exact ⟨_, modifyOutlet_own _ found, .draws stalled draws (by omega)⟩
    · exact ⟨_, modifyOutlet_own _ found, .rests stalled (by omega)⟩
  all_goals
    next state => exact ⟨u, found, .other (by rw [state]; exact nofun) (by rw [state]; exact nofun)⟩

theorem judgeRelease_at (judged : SessionState) (found : s.outlets[n]? = some u) :
    (judgeRelease n judged s).outlets[n]? = some (releaseRecord judged u) := by
  unfold judgeRelease releaseRecord
  rw [found]
  dsimp only
  split_ifs
  · rw [capture_outlets]; exact modifyOutlet_own (s := s) _ found
  · exact modifyOutlet_own _ found
  · exact modifyOutlet_own _ found
  · exact found

theorem ramp_own (found : s.outlets[n]? = some u) (found' : (ramp n s).outlets[n]? = some v) : Ramps s.host.profile u v := by
  cases loaded : s.host.profile with
  | none =>
    rw [ramp, loaded] at found'
    exact .inl ⟨rfl, Option.some.inj (found'.symm.trans found)⟩
  | some p =>
    refine .inr ⟨p, rfl, ?_⟩
    rcases ramp_at loaded found found' with ⟨-, h⟩ | ⟨-, h⟩ <;> rw [h]
    · exact .refl _ _
    · exact ⟨.given _ _, by rw [giveTarget_share], nofun⟩

/-- The turn of an outlet, from the record that comes to it (R152). -/
theorem superviseOutlet_at (found : s.outlets[n]? = some u) (found' : (superviseOutlet n s).outlets[n]? = some v) :
    ∃ x, Responds s.host.profile (overdrawRecord (enterHistory u)) x ∧ Ramps s.host.profile (releaseRecord u.session.state x) v := by
  have entered := modifyOutlet_own enterHistory found
  have overdrawn := judgeOverdraw_at entered
  obtain ⟨x, responded, responds⟩ := judgeResponse_at overdrawn
  have released := judgeRelease_at (sessionState s n) responded
  have frame := (modifyOutlet_frame n enterHistory s).trans (judgeOverdraw_frame n _)
  have frame' := (frame.trans (judgeResponse_frame n _)).trans (judgeRelease_frame n (sessionState s n) _)
  have ramps := ramp_own released found'
  rw [frame.profile] at responds
  rw [frame'.profile, sessionState_of_found found] at ramps
  exact ⟨x, responds, ramps⟩

/-! What the stages of a turn leave. -/

theorem overdrawRecord_cases (u : Outlet) :
    (judgedForOverdraw u.session.state = true ∧ overdraws u = true ∧ 3 ≤ u.supervision.overdrawCount ∧
      overdrawRecord u = faultOutlet .overdraw u) ∨
    (judgedForOverdraw u.session.state = false ∨ overdraws u = false ∨ u.supervision.overdrawCount < 3) ∧
      overdrawRecord u = { u with supervision.overdrawCount := nextOverdraw u } := by
  unfold overdrawRecord nextOverdraw
  by_cases judged : judgedForOverdraw u.session.state = true
  · by_cases draws : overdraws u = true
    · by_cases fourth : 4 ≤ u.supervision.overdrawCount + 1
      · exact .inl ⟨judged, draws, by omega, by rw [if_pos judged, if_pos draws, if_pos fourth]⟩
      · exact .inr ⟨.inr (.inr (by omega)), by rw [if_pos judged, if_pos draws, if_neg fourth, if_pos judged, if_pos draws]⟩
    · exact .inr ⟨.inr (.inl (by simpa using draws)), by rw [if_pos judged, if_neg draws, if_pos judged, if_neg draws]⟩
  · exact .inr ⟨.inl (by simpa using judged), by rw [if_neg judged, if_neg judged]⟩

/-- The judgement of stall and unstall faults no session, and writes its own two counts alone of the supervision record. -/
theorem Responds.keeps (responds : Responds profile u x) :
    (u.session.state ≠ .faulted → x.session.state ≠ .faulted) ∧ x.meter = u.meter ∧
    x.supervision = { u.supervision with
      stallCount := x.supervision.stallCount, unstallCount := x.supervision.unstallCount } := by
  have given {f : Outlet} (beside : BesideTurn profile f x) (sound : f.session.state ≠ .faulted) (meter : f.meter = u.meter)
      (counts : f.supervision = { u.supervision with stallCount := 0, unstallCount := 0 }) :
      (u.session.state ≠ .faulted → x.session.state ≠ .faulted) ∧ x.meter = u.meter ∧
      x.supervision = { u.supervision with stallCount := x.supervision.stallCount, unstallCount := x.supervision.unstallCount } := by
    obtain ⟨lowered, -, -⟩ := beside
    have kept := lowered.supervision
    refine ⟨fun _ => ?_, lowered.meter.trans meter, by rw [kept, counts]⟩
    rcases lowered.state with ⟨same, -⟩ | ⟨-, paused, -⟩
    · rw [same]; exact sound
    · rw [paused]; exact nofun
  cases responds with
  | stalls charging low last beside => exact given beside nofun (by simp [stallOutlet]) (by simp [stallOutlet])
  | unstalls stalled draws last beside => exact given beside nofun rfl rfl
  | low | high | draws | rests | other => exact ⟨id, rfl, rfl⟩

/-- The ramp faults no session and leaves the counts but for the stall count. -/
theorem Ramps.keeps (ramps : Ramps profile u v) :
    (v.session.state = .faulted ↔ u.session.state = .faulted) ∧ v.meter = u.meter ∧
    v.supervision = { u.supervision with stallCount := v.supervision.stallCount, windowMax := v.supervision.windowMax } := by
  rcases ramps with ⟨-, rfl⟩ | ⟨p, -, lowered, -, -⟩
  · exact ⟨.rfl, rfl, rfl⟩
  · have meter : (rampOutlet p u).meter = u.meter := by unfold rampOutlet; split_ifs <;> rfl
    have kept := lowered.supervision
    have state : v.session.state = .faulted ↔ (rampOutlet p u).session.state = .faulted := by
      rcases lowered.state with ⟨same, -⟩ | ⟨charging, paused, -⟩
      · rw [same]
      · rw [charging, paused]; exact ⟨nofun, nofun⟩
    rcases rampOutlet_cases p u with same | ⟨paused, charging, counts⟩ | ⟨same, counts⟩
    · rw [same] at lowered state kept
      exact ⟨state, lowered.meter, by rw [kept]⟩
    · refine ⟨state.trans ?_, lowered.meter.trans meter, by rw [kept, counts]⟩
      rw [charging, paused]
      exact ⟨nofun, nofun⟩
    · exact ⟨state.trans (by rw [same]), lowered.meter.trans meter, by rw [kept, counts]⟩

/-- A record without a target and an offer is not ramped. -/
theorem Ramps.of_noTarget (ramps : Ramps profile u v) (target : u.share.target = 0) : BesideTurn profile u v := by
  rcases ramps with ⟨-, rfl⟩ | ⟨p, -, beside⟩
  · exact .refl _ _
  · rwa [rampOutlet, if_pos (by omega)] at beside

theorem releaseRecord_of_other {found : SessionState} (other : judgedForRelease found = false) (u : Outlet) : releaseRecord found u = u := by
  rw [releaseRecord, other]
  rfl

/-- The judgement of release writes its count and its output alone. -/
theorem releaseRecord_keeps (found : SessionState) (u : Outlet) :
    (releaseRecord found u).session = u.session ∧ (releaseRecord found u).share = u.share ∧ (releaseRecord found u).meter = u.meter ∧
    (releaseRecord found u).supervision = { u.supervision with
      releaseCount := (releaseRecord found u).supervision.releaseCount
      releaseDriven := (releaseRecord found u).supervision.releaseDriven } := by
  unfold releaseRecord
  split_ifs <;> exact ⟨rfl, rfl, rfl, rfl⟩

theorem judgedForOverdraw_iff (state : SessionState) : judgedForOverdraw state = true ↔ state ≠ .vacant ∧ state ≠ .faulted := by
  cases state <;> simp [judgedForOverdraw]

theorem judgedForRelease_eq (state : SessionState) : judgedForRelease state = !judgedForOverdraw state := by cases state <;> rfl

/-! The record that comes to its turn. -/

/-- The draw of the window that ends, and what the history makes its ceiling, stand when the turn comes (R148, R151). -/
theorem Lowered.entered (lowered : Lowered (meterFullWindow o) u) :
    drawOf (enterHistory u) = o.meter.windowCount ∧ graceCeiling (enterHistory u).supervision = ceilingAtEnd o := by
  have meter := lowered.meter
  have supervision := lowered.supervision
  constructor
  · show (u.meter.lastAverage).getD 0 = _
    rw [meter]
    rfl
  · show (u.supervision.history.drop 1 ++ [u.supervision.windowMax]).foldl max 0 = _
    rw [supervision]
    rfl

theorem Lowered.judged (lowered : Lowered (meterFullWindow o) u) :
    judgedForOverdraw u.session.state = judgedForOverdraw o.session.state := by
  rcases lowered.state with ⟨same, -⟩ | ⟨charging, paused, -⟩
  · rw [same]; rfl
  · rw [show o.session.state = .charging from charging, paused]; rfl

theorem Lowered.overdraws_iff (lowered : Lowered (meterFullWindow o) u) :
    overdraws (enterHistory u) = true ↔ ceilingAtEnd o + 20 < o.meter.windowCount := by
  obtain ⟨draw, ceiling⟩ := lowered.entered
  rw [overdraws, decide_eq_true_iff, draw, ceiling]

/-! The rows of a full window end. -/

theorem exec_fullWindowEnd (feederFirst : Bool) (out : s.host.resetHeld = []) :
    exec (.fullWindowEnd feederFirst) s = .next (endFullWindow feederFirst s) :=
  congrArg Host.Outcome.next (whenRunning_of_outOfReset out _)

theorem onlyWhere_of_outcome {outcome : State → State → Bool} {event : State → State} (has : outcome s (event s) = true) :
    onlyWhere outcome event s = event s := if_pos has

theorem onlyWhere_of_not {outcome : State → State → Bool} {event : State → State} (not : outcome s (event s) = false) :
    onlyWhere outcome event s = s := if_neg (by rw [not]; exact Bool.false_ne_true)

theorem exec_overdraw (n : Nat) (feederFirst : Bool) (out : s.host.resetHeld = []) :
    exec (.overdraw n feederFirst) s = .next (onlyWhere (becomesOverdrawn n) (endFullWindow feederFirst) s) :=
  congrArg Host.Outcome.next (whenRunning_of_outOfReset out _)

theorem exec_release (n : Nat) (feederFirst : Bool) (out : s.host.resetHeld = []) :
    exec (.release n feederFirst) s = .next (onlyWhere (becomesReleased n) (endFullWindow feederFirst) s) :=
  congrArg Host.Outcome.next (whenRunning_of_outOfReset out _)

theorem exec_overdraw_of_stays (n : Nat) (feederFirst : Bool) (out : s.host.resetHeld = [])
    (stays : becomesOverdrawn n s (endFullWindow feederFirst s) = false) : exec (.overdraw n feederFirst) s = .next s := by
  rw [exec_overdraw n feederFirst out, onlyWhere_of_not stays]

theorem exec_release_of_stays (n : Nat) (feederFirst : Bool) (out : s.host.resetHeld = [])
    (stays : becomesReleased n s (endFullWindow feederFirst s) = false) : exec (.release n feederFirst) s = .next s := by
  rw [exec_release n feederFirst out, onlyWhere_of_not stays]

end

end Sys2Proof.Machine
end

section
/-! PROOFS. The overdraw fault and the driven release output of a full window end (R153, R156), and with them obligations O29 and O32. -/

set_option Elab.async false

namespace Sys2Proof.Machine

section
variable {p : Profile} {profile : Option Profile} {s t w : State} {n : Nat} {o o' u v x : Outlet} {feederFirst : Bool}

theorem capture_fills (kind : FaultKind) (outlet : Option Nat) (value : Nat) (s : State) : (capture kind outlet value s).host.firstFault ≠ none := by
  rw [capture_eq]
  cases s.host.firstFault <;> exact nofun

theorem FaultsKept.filled (kept : FaultsKept s t) (filled : s.host.firstFault ≠ none) : t.host.firstFault ≠ none := by
  obtain ⟨r, stands⟩ := Option.ne_none_iff_exists'.mp filled
  rw [kept.firstFault stands]
  exact nofun

/-- A turn writes the fault store and the events in its judgement alone. -/
theorem superviseOutlet_host (n : Nat) (s : State) : (superviseOutlet n s).host = (judgeOutlet n s).host := ramp_host n _

/-! The overdraw fault. -/

theorem judgeOverdraw_of_fault (found : s.outlets[n]? = some u) (judged : judgedForOverdraw u.session.state = true) (draws : overdraws u = true)
    (last : 3 ≤ u.supervision.overdrawCount) :
    judgeOverdraw n s = capture .overdraw (some n) (drawOf u) (enterFaulted n .overdraw s) := by
  unfold judgeOverdraw
  rw [found]
  dsimp only
  rw [if_pos judged, if_pos draws, if_pos (by omega)]

/-- Where the judgement of overdraw faults the session nothing more is judged (R152). -/
theorem judgeOutlet_of_fault (found : s.outlets[n]? = some u) (judged : judgedForOverdraw u.session.state = true)
    (draws : overdraws (enterHistory u) = true) (last : 3 ≤ u.supervision.overdrawCount) :
    judgeOutlet n s = capture .overdraw (some n) (drawOf (enterHistory u)) (enterFaulted n .overdraw (modifyOutlet n enterHistory s)) := by
  have entered := modifyOutlet_own enterHistory found
  have faulted : (judgeOverdraw n (modifyOutlet n enterHistory s)).outlets[n]? = some (faultOutlet .overdraw (enterHistory u)) := by
    rw [judgeOverdraw_of_fault entered judged draws last, capture_outlets]
    exact enterFaulted_own .overdraw entered
  have response : judgeResponse n (judgeOverdraw n (modifyOutlet n enterHistory s)) = judgeOverdraw n (modifyOutlet n enterHistory s) := by
    unfold judgeResponse
    rw [faulted]
    rfl
  unfold judgeOutlet
  rw [response, sessionState_of_found found, judgeRelease, faulted]
  dsimp only
  rw [judgedForRelease_eq, judged]
  exact judgeOverdraw_of_fault entered judged draws last

/-- The overdraw fault at its outlet (R9, R153). -/
theorem WindowTurn.overdrawn (turn : WindowTurn n feederFirst s o w u v o') (judged : judgedForOverdraw o.session.state = true)
    (last : o.supervision.overdrawCount = 3) (draws : ceilingAtEnd o + 20 < o.meter.windowCount) :
    Lowered (faultOutlet .overdraw (enterHistory u)) o' ∧
    judgeOutlet n w =
      capture .overdraw (some n) o.meter.windowCount (enterFaulted n .overdraw (modifyOutlet n enterHistory w)) := by
  have count : u.supervision.overdrawCount = 3 := by rw [turn.before.supervision]; exact last
  have judgedU : judgedForOverdraw u.session.state = true := turn.before.judged.trans judged
  have drawsU := turn.before.overdraws_iff.mpr draws
  obtain ⟨draw, -⟩ := turn.before.entered
  have fault := judgeOutlet_of_fault turn.foundBefore judgedU drawsU count.ge
  rw [draw] at fault
  refine ⟨?_, fault⟩
  obtain ⟨x, responds, ramps⟩ := superviseOutlet_at turn.foundBefore turn.foundAfter
  have record : overdrawRecord (enterHistory u) = faultOutlet .overdraw (enterHistory u) := by
    rcases overdrawRecord_cases (enterHistory u) with ⟨-, -, -, h⟩ | ⟨notJudged | notDraws | short, -⟩
    · exact h
    · rw [show judgedForOverdraw (enterHistory u).session.state = true from judgedU] at notJudged
      cases notJudged
    · rw [drawsU] at notDraws
      cases notDraws
    · exact absurd short (by rw [show (enterHistory u).supervision.overdrawCount = 3 from count]; decide)
  rw [record] at responds
  rw [releaseRecord_of_other (by rw [judgedForRelease_eq, judgedU]; rfl)] at ramps
  cases responds with
  | stalls charging | low charging | high charging => cases charging
  | unstalls stalled | draws stalled | rests stalled => cases stalled
  | other =>
    obtain ⟨lowered, -, -⟩ := ramps.of_noTarget rfl
    exact lowered.trans turn.after

/-- Where overdraw faults no session the count goes up or back to 0, and the session is not FAULTED (R153). -/
theorem WindowTurn.notOverdrawn (turn : WindowTurn n feederFirst s o w u v o')
    (spared : o.session.state = .vacant ∨ o.session.state = .faulted ∨ o.supervision.overdrawCount < 3 ∨
      o.meter.windowCount ≤ ceilingAtEnd o + 20) :
    (o.session.state ≠ .faulted → o'.session.state ≠ .faulted) ∧
    o'.supervision.overdrawCount = (if o.session.state = .vacant ∨ o.session.state = .faulted then o.supervision.overdrawCount
      else if ceilingAtEnd o + 20 < o.meter.windowCount then o.supervision.overdrawCount + 1 else 0) := by
  have count : u.supervision.overdrawCount = o.supervision.overdrawCount := by rw [turn.before.supervision]; rfl
  have judgedU := turn.before.judged
  have draws := turn.before.overdraws_iff
  have record : overdrawRecord (enterHistory u) = { enterHistory u with supervision.overdrawCount := nextOverdraw (enterHistory u) } := by
    rcases overdrawRecord_cases (enterHistory u) with ⟨judged, above, last, -⟩ | ⟨-, h⟩
    · have third : 3 ≤ u.supervision.overdrawCount := last
      have occupied := (judgedForOverdraw_iff _).mp (judgedU.symm.trans judged)
      have ceiling := draws.mp above
      obtain ⟨notVacant, notFaulted⟩ := occupied
      rcases spared with vacant | faulted | short | within
      · exact absurd vacant notVacant
      · exact absurd faulted notFaulted
      · omega
      · omega
    · exact h
  obtain ⟨x, responds, ramps⟩ := superviseOutlet_at turn.foundBefore turn.foundAfter
  rw [record] at responds
  obtain ⟨sound, -, counts⟩ := responds.keeps
  obtain ⟨session, -, -, counts'⟩ := releaseRecord_keeps u.session.state x
  obtain ⟨faulted, -, counts''⟩ := ramps.keeps
  constructor
  · intro notFaulted after
    have soundV : v.session.state ≠ .faulted := by
      rw [ne_eq, faulted, session]
      refine sound ?_
      rcases turn.before.state with ⟨same, -⟩ | ⟨-, paused, -⟩
      · exact fun again => notFaulted (same.symm.trans again)
      · exact fun again => nomatch paused.symm.trans again
    rcases turn.after.state with ⟨same, -⟩ | ⟨-, paused, -⟩
    · exact soundV (same.symm.trans after)
    · exact nomatch paused.symm.trans after
  · rw [turn.after.supervision, counts'', counts', counts]
    show nextOverdraw (enterHistory u) = _
    unfold nextOverdraw
    rw [show (enterHistory u).session.state = u.session.state from rfl, judgedU,
      show (enterHistory u).supervision.overdrawCount = o.supervision.overdrawCount from count]
    by_cases idle : o.session.state = .vacant ∨ o.session.state = .faulted
    · rw [if_pos idle, if_neg]
      rw [judgedForOverdraw_iff]
      exact fun ⟨occupied, sound⟩ => idle.elim occupied sound
    · rw [if_neg idle, if_pos ((judgedForOverdraw_iff _).mpr (not_or.mp idle))]
      simp only [draws]

/-- Settles O29: the fault comes in the outlet's own turn, and nothing before it or after it undoes it. -/
theorem overdrawFaultsTheSession : Obligations.OverdrawFaultsTheSession := by
  intro s n o feederFirst out found small
  obtain ⟨w, u, v, o', turn, found'⟩ := endFullWindow_turn feederFirst found
  have full := exec_fullWindowEnd feederFirst out
  have before := sessionState_of_found found
  have after := sessionState_of_found found'
  refine ⟨fun borrows judged last draws => ?_, fun spared => ?_, fun faulted => ?_⟩
  · obtain ⟨fault, judgement⟩ := turn.overdrawn judged last draws
    have record := (faultedFor_faultOutlet .overdraw (enterHistory u)).lowered fault
    have host : (superviseOutlet n w).host = _ := (superviseOutlet_host n w).trans (congrArg State.host judgement)
    have stays : FaultsKept _ (endFullWindow feederFirst s) := turn.laterFaults
    have entered : becomesOverdrawn n s (endFullWindow feederFirst s) = true := by
      obtain ⟨-, notFaulted⟩ := (judgedForOverdraw_iff _).mp judged
      obtain ⟨state, -⟩ := record
      rw [becomesOverdrawn, before, after, state]
      simpa using notFaulted
    obtain ⟨state, kind, offer, target, overdraw, stall, unstall, release⟩ := record
    have captured : (superviseOutlet n w).host.firstFault ≠ none := by
      rw [host]
      exact capture_fills _ _ _ _
    refine ⟨_, o', ⟨by rw [exec_overdraw n feederFirst out, onlyWhere_of_outcome entered], full⟩, found', state, kind, offer, target, ?_,
      overdraw, stall, unstall, release, ?_, stays.filled captured, fun empty last zero => ?_⟩
    · have none : (faultOutlet .overdraw (enterHistory u)).share.b = 0 := by
        have lower : u.share.b ≤ o.share.b := turn.before.borrow
        obtain ⟨-, -, -, -, outside⟩ := borrows o (List.mem_of_getElem? found)
        have pair : inPair u.session.state = inPair o.session.state := turn.before.inPair
        show (dropShares (enterHistory u)).share.b = 0
        unfold dropShares
        split_ifs with inside
        · rfl
        · have zero := outside (pair ▸ Bool.eq_false_iff.mpr inside)
          show u.share.b = 0
          omega
      exact Nat.le_zero.mp (none ▸ fault.borrow)
    · rw [Flagged, turn.kept _ (.inr (.inl rfl)), isRaised, host]
      exact (isRaised_of_events (capture_events ..) _).trans (enterFaulted_flagged small .overdraw _)
    · refine stays.firstFault ?_
      have store : (enterFaulted n .overdraw (modifyOutlet n enterHistory w)).host.firstFault = none := by
        rw [enterFaulted, recompute_host]
        show w.host.firstFault = none
        rw [turn.first last zero]
        exact empty
      have census : (enterFaulted n .overdraw (modifyOutlet n enterHistory w)).census = s.census := by
        rw [(enterFaulted_frame _ _ _).census]
        exact turn.census
      rw [host, capture_of_empty _ _ _ store, census]
  · obtain ⟨sound, count⟩ := turn.notOverdrawn spared
    refine ⟨exec_overdraw_of_stays n feederFirst out ?_, _, o', full, found', count⟩
    rw [becomesOverdrawn, before, after, Bool.and_eq_false_iff]
    by_cases faulted : o.session.state = .faulted
    · exact .inl (by rw [faulted]; rfl)
    · exact .inr (beq_eq_false_iff_ne.mpr (sound faulted))
  · refine exec_overdraw_of_stays n feederFirst out ?_
    rw [becomesOverdrawn, before, faulted]
    rfl

/-! The release output. -/

/-- The turn of a VACANT or FAULTED outlet is its judgement of release (R152, R156). -/
theorem judgeOutlet_of_idle (found : s.outlets[n]? = some u) (idle : u.session.state = .vacant ∨ u.session.state = .faulted) :
    judgeOutlet n s = judgeRelease n u.session.state (modifyOutlet n enterHistory s) := by
  rw [judgeOutlet, judge_of_idle (modifyOutlet_own enterHistory found) idle, sessionState_of_found found]

/-- A VACANT or FAULTED outlet comes to its turn as it was found, and its turn judges release (R156). -/
theorem WindowTurn.released (turn : WindowTurn n feederFirst s o w u v o') (idle : o.session.state = .vacant ∨ o.session.state = .faulted) :
    u.session.state = o.session.state ∧
    o'.supervision.releaseDriven = (releaseRecord o.session.state (enterHistory u)).supervision.releaseDriven ∧
    o'.supervision.releaseCount = (releaseRecord o.session.state (enterHistory u)).supervision.releaseCount := by
  obtain ⟨same, -⟩ := turn.before.state_of_ne (by rcases idle with h | h <;> exact fun charging => nomatch h.symm.trans charging)
  have same : u.session.state = o.session.state := same
  obtain ⟨x, responds, ramps⟩ := superviseOutlet_at turn.foundBefore turn.foundAfter
  obtain ⟨-, -, counts⟩ := ramps.keeps
  have record : overdrawRecord (enterHistory u) = enterHistory u := by
    rw [overdrawRecord, if_neg]
    rw [show (enterHistory u).session.state = o.session.state from same, judgedForOverdraw_iff]
    exact fun ⟨occupied, sound⟩ => idle.elim occupied sound
  have rests : x = enterHistory u := by
    rw [record] at responds
    have state : (enterHistory u).session.state = o.session.state := same
    cases responds with
    | stalls charging | low charging | high charging =>
      rw [state] at charging
      rcases idle with h | h <;> cases h.symm.trans charging
    | unstalls stalled | draws stalled | rests stalled =>
      rw [state] at stalled
      rcases idle with h | h <;> cases h.symm.trans stalled
    | other => rfl
  rw [rests, same] at counts
  refine ⟨same, ?_, ?_⟩ <;> rw [turn.after.supervision, counts]

theorem releaseFault_eq {state : SessionState} (idle : state = .vacant ∨ state = .faulted) :
    releaseFault state = if state = .faulted then .stuckDraw else .vacantDraw := by
  rcases idle with rfl | rfl <;> rfl

/-- The judgement of release that drives the output (R156). -/
theorem judgeRelease_of_drive (found : s.outlets[n]? = some u) (judged : judgedForRelease x.session.state = true)
    (deasserted : u.supervision.releaseDriven = false) (last : u.supervision.releaseCount = 7) (draws : 20 < drawOf u) :
    judgeRelease n x.session.state s = capture (releaseFault x.session.state) (some n) (drawOf u)
      (raise (.release n) (modifyOutlet n (fun o => { o with supervision.releaseCount := 8, supervision.releaseDriven := true }) s)) := by
  unfold judgeRelease
  rw [found]
  dsimp only
  rw [if_pos (by rw [judged, deasserted]; rfl), if_pos draws, if_pos (by rw [last])]

theorem isRaised_judgeRelease_of_short {e : Event} {found : SessionState} (at' : s.outlets[n]? = some u)
    (short : u.supervision.releaseDriven = true ∨ u.supervision.releaseCount < 7 ∨ drawOf u ≤ 20) :
    isRaised e (judgeRelease n found s) = isRaised e s := by
  unfold judgeRelease
  rw [at']
  dsimp only
  split_ifs with judged draws last
  · rw [Bool.and_eq_true, Bool.not_eq_true'] at judged
    rcases short with driven | few | low
    · rw [judged.2] at driven
      cases driven
    · omega
    · omega
  · exact isRaised_of_events rfl e
  · exact isRaised_of_events rfl e
  · rfl

/-- The judgement of release short of the end: the count goes up or back to 0, and stands with the output driven (R156). -/
theorem releaseRecord_of_short {state : SessionState} (judged : judgedForRelease state = true)
    (short : u.supervision.releaseDriven = true ∨ u.supervision.releaseCount < 7 ∨ drawOf u ≤ 20) :
    (releaseRecord state u).supervision.releaseDriven = u.supervision.releaseDriven ∧
    (releaseRecord state u).supervision.releaseCount =
      if u.supervision.releaseDriven = true then u.supervision.releaseCount
      else if 20 < drawOf u then u.supervision.releaseCount + 1 else 0 := by
  unfold releaseRecord
  rw [judged, Bool.true_and]
  cases drive : u.supervision.releaseDriven with
  | true => exact ⟨drive, rfl⟩
  | false =>
    have few : u.supervision.releaseCount < 7 ∨ drawOf u ≤ 20 := short.resolve_left (by rw [drive]; exact Bool.false_ne_true)
    simp only [Bool.not_false, if_true, Bool.false_eq_true, if_false]
    split_ifs
    · omega
    · exact ⟨drive, rfl⟩
    · exact ⟨drive, rfl⟩

/-- A release output that is not driven by the turn: a low draw drives none. -/
theorem WindowTurn.notReleased (turn : WindowTurn n feederFirst s o w u v o') (low : o.meter.windowCount ≤ 20)
    (deasserted : o.supervision.releaseDriven = false) : o'.supervision.releaseDriven = false := by
  obtain ⟨draw, -⟩ := turn.before.entered
  have found : u.supervision.releaseDriven = false := by rw [turn.before.supervision]; exact deasserted
  obtain ⟨x, responds, ramps⟩ := superviseOutlet_at turn.foundBefore turn.foundAfter
  obtain ⟨-, meter, counts⟩ := responds.keeps
  obtain ⟨-, -, counts'⟩ := ramps.keeps
  have record : (overdrawRecord (enterHistory u)).meter = (enterHistory u).meter ∧
      (overdrawRecord (enterHistory u)).supervision.releaseDriven = u.supervision.releaseDriven := by
    rcases overdrawRecord_cases (enterHistory u) with ⟨-, -, -, h⟩ | ⟨-, h⟩ <;> rw [h]
    · exact ⟨by simp [faultOutlet], by simp [faultOutlet, enterHistory]⟩
    · exact ⟨rfl, rfl⟩
  obtain ⟨recordMeter, recordDriven⟩ := record
  have low' : drawOf x ≤ 20 := by
    rw [drawOf, meter, recordMeter]
    exact draw.trans_le low
  have driven : x.supervision.releaseDriven = false := by rw [counts]; exact recordDriven.trans found
  rw [turn.after.supervision, counts']
  show (releaseRecord u.session.state x).supervision.releaseDriven = false
  unfold releaseRecord
  split_ifs with judged draws
  · omega
  · exact driven
  · exact driven
  · exact driven

/-- Settles O32: the output is driven in the outlet's own turn, which no recomputation touches. -/
theorem releaseIsDriven : Obligations.ReleaseIsDriven := by
  intro s n o feederFirst out found small
  obtain ⟨w, u, v, o', turn, found'⟩ := endFullWindow_turn feederFirst found
  have full := exec_fullWindowEnd feederFirst out
  have before : releaseDriven s n = o.supervision.releaseDriven := by rw [releaseDriven, found]
  have after : releaseDriven (endFullWindow feederFirst s) n = o'.supervision.releaseDriven := by rw [releaseDriven, found']
  have driven : (enterHistory u).supervision.releaseDriven = o.supervision.releaseDriven := by
    show u.supervision.releaseDriven = _
    rw [turn.before.supervision]
    rfl
  have count : (enterHistory u).supervision.releaseCount = o.supervision.releaseCount := by
    show u.supervision.releaseCount = _
    rw [turn.before.supervision]
    rfl
  obtain ⟨draw, -⟩ := turn.before.entered
  have entered := modifyOutlet_own enterHistory turn.foundBefore
  refine ⟨fun idle deasserted last draws => ?_, fun idle short => ?_, fun kept => ?_⟩
  · obtain ⟨state, released, counted⟩ := turn.released idle.symm
    have judged : judgedForRelease o.session.state = true := (judgedForRelease_iff _).mpr idle.symm
    have record : releaseRecord o.session.state (enterHistory u) =
        { enterHistory u with supervision.releaseCount := 8, supervision.releaseDriven := true } := by
      unfold releaseRecord
      rw [if_pos (by rw [judged, driven, deasserted]; rfl), draw, if_pos draws, count, last, if_pos (by decide)]
    rw [record] at released counted
    have judgement := judgeOutlet_of_idle turn.foundBefore (state ▸ idle.symm)
    rw [judgeRelease_of_drive (x := u) entered (by rw [state]; exact judged) (driven.trans deasserted) (count.trans last)
      (by rw [draw]; exact draws), draw, state] at judgement
    have host : (superviseOutlet n w).host = _ := (superviseOutlet_host n w).trans (congrArg State.host judgement)
    have stays : FaultsKept _ (endFullWindow feederFirst s) := turn.laterFaults
    have captured : (superviseOutlet n w).host.firstFault ≠ none := by
      rw [host]
      exact capture_fills _ _ _ _
    have becomes : becomesReleased n s (endFullWindow feederFirst s) = true := by
      rw [becomesReleased, before, after, deasserted, released]
      rfl
    refine ⟨_, o', ⟨by rw [exec_release n feederFirst out, onlyWhere_of_outcome becomes], full⟩, found', released, counted, ?_,
      stays.filled captured, fun empty first zero => ?_⟩
    · rw [Flagged, turn.kept _ (.inr (.inr rfl)), isRaised, host]
      refine (isRaised_of_events (capture_events ..) (.release n)).trans (raise_flagged ?_ _)
      simp only [eventBit]
      omega
    · refine stays.firstFault ?_
      have store : (raise (.release n) (modifyOutlet n
          (fun o => { o with supervision.releaseCount := 8, supervision.releaseDriven := true }) (modifyOutlet n enterHistory w))).host.firstFault =
          none := by
        show w.host.firstFault = none
        rw [turn.first first zero]
        exact empty
      rw [host, capture_of_empty _ _ _ store, releaseFault_eq idle.symm, ← turn.census]
      rfl
  · obtain ⟨state, released, counted⟩ := turn.released idle.symm
    have judged : judgedForRelease o.session.state = true := (judgedForRelease_iff _).mpr idle.symm
    have record := releaseRecord_of_short judged (u := enterHistory u) (by rw [driven, count, draw]; exact short)
    rw [driven, count, draw] at record
    obtain ⟨recordDriven, recordCount⟩ := record
    refine ⟨_, o', full, found', released.trans recordDriven, counted.trans recordCount, ?_⟩
    have quiet : isRaised (.release n) (superviseOutlet n w) = isRaised (.release n) w := by
      rw [isRaised_of_events (congrArg HostLink.events (superviseOutlet_host n w)), judgeOutlet_of_idle turn.foundBefore (state ▸ idle.symm),
        isRaised_judgeRelease_of_short entered (by rw [driven, count, draw]; exact short)]
      exact isRaised_of_events rfl _
    rw [turn.kept _ (.inr (.inr rfl)), quiet, turn.quiet _ (.inr (.inr rfl))]
  · refine exec_release_of_stays n feederFirst out ?_
    rw [becomesReleased, before, after]
    cases drive : o.supervision.releaseDriven with
    | true => rfl
    | false =>
      rcases kept with low | already
      · rw [turn.notReleased low drive]; rfl
      · rw [drive] at already
        cases already

end

end Sys2Proof.Machine
end

section
/-! PROOFS. The bounds of the tables on targets and offers (R137 to R142): a recomputation sets them at every outlet, and a full window end keeps
them. -/

set_option Elab.async false

namespace Sys2Proof.Machine

/-- A record whose target keeps within the tables, whose offer keeps within the target, and which is CHARGING with a target alone. -/
def InTable (p : Profile) (part : Participation) (curtail : Nat) (u : Outlet) : Prop :=
  u.share.target ≤ tableTarget p part curtail u ∧ u.session.offer ≤ u.share.target ∧ (u.session.state = .charging → 0 < u.share.target)

/-- Every record stands so, under a profile. -/
def TableBounds (p : Profile) (t : State) : Prop :=
  t.host.profile = some p ∧ ∀ u ∈ t.outlets, InTable p t.census.participation t.shares.curtail u

section
variable {p : Profile} {s t : State} {n k : Nat} {o u v : Outlet} {part : Participation} {curtail : Nat}

theorem tableTarget_of_same (session : v.session = u.session) (share : v.share = u.share) :
    tableTarget p part curtail v = tableTarget p part curtail u := by
  unfold tableTarget
  rw [session, share]

theorem InTable.of_same (bounds : InTable p part curtail u) (session : v.session = u.session) (share : v.share = u.share) :
    InTable p part curtail v := by
  unfold InTable
  rw [tableTarget_of_same session share, session, share]
  exact bounds

theorem inTable_giveTarget {target : Nat} (within : target ≤ tableTarget p part curtail o) : InTable p part curtail (giveTarget false o target) := by
  have made := giveTarget_false_target o target
  refine ⟨?_, by rw [giveTarget_offer]; exact Nat.min_le_right _ _, fun charging => ?_⟩
  · rw [tableTarget_of_view (giveTarget_capView false o target)]
    omega
  · rw [giveTarget_state_eq] at charging
    split_ifs at charging with lost
    exact Nat.pos_of_ne_zero fun zero => lost ⟨charging, zero⟩

theorem inTable_rampOutlet (bounds : InTable p part curtail u) : InTable p part curtail (rampOutlet p u) := by
  obtain ⟨table, within, charging⟩ := bounds
  refine ⟨?_, ?_, fun charges => ?_⟩
  · rw [tableTarget_of_view (rampOutlet_capView p u), rampOutlet_share]
    exact table
  · rw [rampOutlet_offer p u within, rampOutlet_share]
    exact Nat.min_le_left _ _
  · rw [rampOutlet_share]
    rcases rampOutlet_state_cases p u with ⟨-, same⟩ | ⟨above, -⟩ | ⟨above, -⟩
    · rw [same] at charges
      exact charging charges
    · omega
    · omega

/-- A recomputation keeps every target within the tables and every offer within its target (R141, R142). -/
theorem tableBounds_recompute (loaded : t.host.profile = some p) : TableBounds p (recompute false t) := by
  rw [recompute_of_profile false loaded]
  refine ⟨loaded, fun v member => ?_⟩
  obtain ⟨n, found'⟩ := List.mem_iff_getElem?.mp member
  rw [retarget_getElem?] at found'
  obtain ⟨o, found, rfl⟩ := Option.map_eq_some_iff.mp found'
  exact inTable_giveTarget (cappedTarget_le p _ _ found)

theorem TableBounds.of_same (bounds : TableBounds p s) (profile : t.host.profile = s.host.profile)
    (part : t.census.participation = s.census.participation) (curtail : t.shares.curtail = s.shares.curtail) (outlets : t.outlets = s.outlets) :
    TableBounds p t := by
  unfold TableBounds
  rw [profile, part, curtail, outlets]
  exact bounds

/-- What the tables' bounds need of a window's writes is what they need of each record. -/
theorem TableBounds.modify {f : Outlet → Outlet} (bounds : TableBounds p t)
    (own : ∀ u, InTable p t.census.participation t.shares.curtail u → InTable p t.census.participation t.shares.curtail (f u)) :
    TableBounds p (modifyOutlet k f t) := by
  obtain ⟨loaded, each⟩ := bounds
  exact ⟨loaded, mem_modifyOutlet each fun u found => own u (each u (List.mem_of_getElem? found))⟩

/-- A write that leaves sessions and shares alone. -/
theorem TableBounds.aside {f : Outlet → Outlet} (bounds : TableBounds p t) (session : ∀ u, (f u).session = u.session)
    (share : ∀ u, (f u).share = u.share) : TableBounds p (modifyOutlet k f t) := bounds.modify fun u each => each.of_same (session u) (share u)

theorem judgeOverdraw_keepsTable (bounds : TableBounds p t) : TableBounds p (judgeOverdraw k t) := by
  rcases judgeOverdraw_cases k t with h | ⟨c, -, h⟩ | ⟨o, -, -, -, h⟩ <;> rw [h]
  · exact bounds
  · exact bounds.aside (fun _ => rfl) fun _ => rfl
  · have faulted : TableBounds p (enterFaulted k .overdraw t) := tableBounds_recompute (by exact bounds.1)
    have frame := capture_frame .overdraw (some k) (drawOf o) (enterFaulted k .overdraw t)
    exact faulted.of_same frame.profile (by rw [frame.census]) (by rw [frame.shares]) (capture_outlets ..)

theorem judgeResponse_keepsTable (bounds : TableBounds p t) : TableBounds p (judgeResponse k t) := by
  rcases judgeResponse_cases k t with h | ⟨o, -, -, h⟩ | ⟨o, -, -, h⟩ <;> rw [h]
  · exact bounds
  · unfold judgeStall
    split_ifs
    · exact tableBounds_recompute (by exact bounds.1)
    · exact bounds.aside (fun _ => rfl) fun _ => rfl
    · exact bounds.aside (fun _ => rfl) fun _ => rfl
  · unfold judgeUnstall
    split_ifs
    · exact tableBounds_recompute (by exact bounds.1)
    · exact bounds.aside (fun _ => rfl) fun _ => rfl
    · exact bounds.aside (fun _ => rfl) fun _ => rfl

theorem judgeRelease_keepsTable (judged : SessionState) (bounds : TableBounds p t) : TableBounds p (judgeRelease k judged t) := by
  unfold judgeRelease
  split
  · exact bounds
  · next o _ =>
    split_ifs
    · have released : TableBounds p (modifyOutlet k (fun o => { o with supervision.releaseCount := 8, supervision.releaseDriven := true }) t) :=
        bounds.aside (fun _ => rfl) fun _ => rfl
      have frame := (raise_frame (.release k) _).trans (capture_frame (releaseFault judged) (some k) (drawOf o) (raise (.release k)
        (modifyOutlet k (fun o => { o with supervision.releaseCount := 8, supervision.releaseDriven := true }) t)))
      exact released.of_same frame.profile (by rw [frame.census]) (by rw [frame.shares]) (capture_outlets ..)
    · exact bounds.aside (fun _ => rfl) fun _ => rfl
    · exact bounds.aside (fun _ => rfl) fun _ => rfl
    · exact bounds

theorem ramp_keepsTable (bounds : TableBounds p t) : TableBounds p (ramp k t) := by
  unfold ramp
  split
  · next q o loaded found =>
    obtain rfl := Option.some.inj (loaded.symm.trans bounds.1)
    split_ifs
    · exact tableBounds_recompute (by exact loaded)
    · exact bounds.modify fun u each => inTable_rampOutlet each
  · exact bounds

theorem superviseOutlet_keepsTable (k : Nat) (bounds : TableBounds p t) : TableBounds p (superviseOutlet k t) :=
  ramp_keepsTable (judgeRelease_keepsTable _
    (judgeResponse_keepsTable (judgeOverdraw_keepsTable (bounds.aside (fun _ => rfl) fun _ => rfl))))

/-- A turn whose response hands a change of the session over sets the tables' bounds (R141, R154, R155). -/
theorem superviseOutlet_setsTable (set : TableBounds p (judgeResponse k (judgeOverdraw k (modifyOutlet k enterHistory t)))) :
    TableBounds p (superviseOutlet k t) := ramp_keepsTable (judgeRelease_keepsTable _ set)

theorem outletsFullWindow_keepsTable (bounds : TableBounds p s) : TableBounds p (outletsFullWindow s) := by
  have metered : TableBounds p (mapOutlets meterFullWindow s) := by
    obtain ⟨loaded, each⟩ := bounds
    refine ⟨loaded, fun v member => ?_⟩
    obtain ⟨u, member', rfl⟩ := List.mem_map.mp member
    exact (each u member').of_same rfl rfl
  exact forOutlets_keeps (TableBounds p) superviseOutlet (fun k _ => superviseOutlet_keepsTable k) _ _ metered

/-- An order on borrow sets the tables' bounds, and without one the Feeder Watch leaves what they read. -/
theorem feederFullWindow_keepsTable (bounds : TableBounds p s) : TableBounds p (feederFullWindow s) := by
  have frame := feederFullWindow_orderFrame s
  have ordered : TableBounds p (orderTaken s) := by
    unfold orderTaken takenIf
    split
    · exact bounds
    · next order _ => cases order <;> exact tableBounds_recompute (by exact bounds.1)
  exact ordered.of_same frame.profile (by rw [frame.census]) (by rw [frame.shares]) frame.outlets

theorem feederFullWindow_setsTable (loaded : s.host.profile = some p) (given : feederOrder s ≠ none) : TableBounds p (feederFullWindow s) := by
  have frame := feederFullWindow_orderFrame s
  have ordered : TableBounds p (orderTaken s) := by
    obtain ⟨order, given⟩ := Option.ne_none_iff_exists'.mp given
    rw [orderTaken, given]
    cases order <;> exact tableBounds_recompute (by exact loaded)
  exact ordered.of_same frame.profile (by rw [frame.census]) (by rw [frame.shares]) frame.outlets

theorem endFullWindow_participation (feederFirst : Bool) (s : State) :
    (endFullWindow feederFirst s).census = { s.census with windowIndex := (s.census.windowIndex + 1) % 8, windowMs := 0 } := by
  obtain ⟨t, h, -, -, census⟩ := endFullWindow_frame feederFirst s
  rw [h, serve_census, census]

/-- Bounds set before the end of the event stand at its end. -/
theorem TableBounds.atEnd (feederFirst : Bool) (bounds : TableBounds p (windowTaken feederFirst s)) :
    TableBounds p (endFullWindow feederFirst s) := by
  have census : (windowTaken feederFirst s).census = s.census := by
    unfold windowTaken
    split
    · rw [(outletsFullWindow_frame _).census, feederFullWindow_census]
    · rw [feederFullWindow_census, (outletsFullWindow_frame _).census]
  exact bounds.of_same (by rw [endFullWindow_host]) (by rw [endFullWindow_participation, census]) (by rw [endFullWindow_shares])
    (endFullWindow_outlets feederFirst s)

/-- Bounds that an outlet's turn sets stand at the end of the event (R152). -/
theorem WindowTurn.tableBounds {w : State} {o' : Outlet} {feederFirst : Bool} (turn : WindowTurn n feederFirst s o w u v o')
    (set : TableBounds p (superviseOutlet n w)) : TableBounds p (endFullWindow feederFirst s) :=
  (turn.onward (TableBounds p) (fun k _ => superviseOutlet_keepsTable k) (fun _ => feederFullWindow_keepsTable) set).atEnd feederFirst

end

end Sys2Proof.Machine
end

section
/-! PROOFS. A full window end at outlets of which no count reaches its end (R143, R151, R152): one step of the ramp at each. -/

set_option Elab.async false

namespace Sys2Proof.Machine

/-- No count of the record stands at the last window before its end (R153 to R155). -/
def QuietRecord (u : Outlet) : Prop :=
  u.supervision.overdrawCount < 3 ∧ u.supervision.stallCount < 239 ∧ u.supervision.unstallCount < 3

/-- Of a record only counts of the supervision differ, and of any other outlet's nothing. -/
def CountsOnly (k m : Nat) (o u : Outlet) : Prop :=
  u.session = o.session ∧ u.share = o.share ∧ u.supervision.windowMax = o.supervision.windowMax ∧ (m ≠ k → u = o)

/-- The way of an offer at a full window end, with the window maximum that follows it: after its ramp. -/
def AfterFullRamp (p : Profile) (o : Outlet) (table : Nat) (v : Outlet) : Prop :=
  Toward o (rampTop p o.session.offer) table v ∧ (o.share.target ≤ table → v.supervision.windowMax = v.session.offer)

section
variable {p : Profile} {s t : State} {n k m : Nat} {o u v : Outlet} {Q Q' : Outlet → Prop}

theorem CountsOnly.refl (k m : Nat) (o : Outlet) : CountsOnly k m o o := ⟨rfl, rfl, rfl, fun _ => rfl⟩

theorem CountsOnly.trans (first : CountsOnly k m o u) (second : CountsOnly k m u v) : CountsOnly k m o v := by
  obtain ⟨session, share, windowMax, other⟩ := first
  obtain ⟨session', share', windowMax', other'⟩ := second
  exact ⟨session'.trans session, share'.trans share, windowMax'.trans windowMax, fun h => (other' h).trans (other h)⟩

theorem CountsOnly.capView (counts : CountsOnly k m o u) : capView u = capView o := by
  obtain ⟨session, share, -⟩ := counts
  unfold Machine.capView
  rw [session, share]

theorem judgeOverdraw_spared (found : s.outlets[k]? = some u) (spared : u.supervision.overdrawCount < 3 ∨ overdraws u = false) :
    EachOutlet (CountsOnly k) s.outlets (judgeOverdraw k s).outlets := by
  unfold judgeOverdraw
  rw [found]
  dsimp only
  split_ifs with judged draws last
  · rw [draws] at spared
    exact absurd (spared.resolve_right nofun) (by omega)
  · exact eachOutlet_modify (CountsOnly.refl k) fun _ _ => ⟨rfl, rfl, rfl, fun h => absurd rfl h⟩
  · exact eachOutlet_modify (CountsOnly.refl k) fun _ _ => ⟨rfl, rfl, rfl, fun h => absurd rfl h⟩
  · exact .refl (CountsOnly.refl k) _

theorem judgeResponse_quiet (found : s.outlets[k]? = some u) (stall : u.supervision.stallCount < 239) (unstall : u.supervision.unstallCount < 3) :
    EachOutlet (CountsOnly k) s.outlets (judgeResponse k s).outlets := by
  rcases judgeResponse_cases k s with h | ⟨o, found', -, h⟩ | ⟨o, found', -, h⟩ <;> rw [h]
  · exact .refl (CountsOnly.refl k) _
  · obtain rfl := Option.some.inj (found.symm.trans found')
    unfold judgeStall
    split_ifs
    · omega
    · exact eachOutlet_modify (CountsOnly.refl k) fun _ _ => ⟨rfl, rfl, rfl, fun h => absurd rfl h⟩
    · exact eachOutlet_modify (CountsOnly.refl k) fun _ _ => ⟨rfl, rfl, rfl, fun h => absurd rfl h⟩
  · obtain rfl := Option.some.inj (found.symm.trans found')
    unfold judgeUnstall
    split_ifs
    · omega
    · exact eachOutlet_modify (CountsOnly.refl k) fun _ _ => ⟨rfl, rfl, rfl, fun h => absurd rfl h⟩
    · exact eachOutlet_modify (CountsOnly.refl k) fun _ _ => ⟨rfl, rfl, rfl, fun h => absurd rfl h⟩

theorem judgeRelease_countsOnly (found : SessionState) (s : State) :
    EachOutlet (CountsOnly k) s.outlets (judgeRelease k found s).outlets := by
  unfold judgeRelease
  split
  · exact .refl (CountsOnly.refl k) _
  · split_ifs
    · rw [capture_outlets]
      exact eachOutlet_modify (CountsOnly.refl k) fun _ _ => ⟨rfl, rfl, rfl, fun h => absurd rfl h⟩
    · exact eachOutlet_modify (CountsOnly.refl k) fun _ _ => ⟨rfl, rfl, rfl, fun h => absurd rfl h⟩
    · exact eachOutlet_modify (CountsOnly.refl k) fun _ _ => ⟨rfl, rfl, rfl, fun h => absurd rfl h⟩
    · exact .refl (CountsOnly.refl k) _

/-- The judgement of a quiet outlet writes its history and its counts alone. -/
theorem judgeOutlet_quiet (found : s.outlets[k]? = some u) (quiet : QuietRecord u) :
    EachOutlet (CountsOnly k) (modifyOutlet k enterHistory s).outlets (judgeOutlet k s).outlets := by
  have entered := modifyOutlet_own enterHistory found
  have overdraw := judgeOverdraw_spared entered (u := enterHistory u) (.inl quiet.1)
  have found' := judgeOverdraw_at entered
  obtain ⟨few, stall, unstall⟩ := quiet
  have counts : (overdrawRecord (enterHistory u)).supervision.stallCount = u.supervision.stallCount ∧
      (overdrawRecord (enterHistory u)).supervision.unstallCount = u.supervision.unstallCount := by
    rcases overdrawRecord_cases (enterHistory u) with ⟨-, -, last, -⟩ | ⟨-, h⟩
    · have third : 3 ≤ u.supervision.overdrawCount := last
      omega
    · rw [h]; exact ⟨rfl, rfl⟩
  obtain ⟨stall', unstall'⟩ := counts
  have response := judgeResponse_quiet found' (by rw [stall']; exact stall) (by rw [unstall']; exact unstall)
  have trans (n : Nat) (o u v : Outlet) (first : CountsOnly k n o u) (second : CountsOnly k n u v) : CountsOnly k n o v := first.trans second
  exact (overdraw.trans trans response).trans trans (judgeRelease_countsOnly _ _)

/-- The tables read the same after the judgement of a quiet outlet. -/
theorem SameTables.judged (same : SameTables s t) (found : t.outlets[k]? = some u) (quiet : QuietRecord u) : SameTables s (judgeOutlet k t) := by
  have frame := judgeOutlet_frame k t
  have history : EachOutlet SameView t.outlets (modifyOutlet k enterHistory t).outlets := eachOutlet_modify SameView.refl fun _ _ => rfl
  refine same.of_outlets frame.profile (by rw [frame.census]) (by rw [frame.shares])
    (history.trans SameView.trans ((judgeOutlet_quiet found quiet).mono fun m o u counts => ?_))
  exact counts.capView

theorem SameTables.supervised (same : SameTables s t) (found : t.outlets[k]? = some u) (quiet : QuietRecord u) :
    SameTables s (superviseOutlet k t) := by
  rw [superviseOutlet_eq]
  exact (same.judged found quiet).ramp k

/-- The turn of a quiet outlet, seen from another: its target, and with it the offer, may be lowered to the one that the tables give. -/
theorem HasOutlet.supervised_of_ne (here : HasOutlet n Q t) (same : SameTables s t) (loaded : s.host.profile = some p) (other : k ≠ n)
    (found : t.outlets[k]? = some u) (quiet : QuietRecord u)
    (give : ∀ u, Q u → Q (giveTarget false u (cappedTarget p s.census.participation s.shares.curtail s.outlets n))) :
    HasOutlet n Q (superviseOutlet k t) := by
  rw [superviseOutlet_eq]
  refine HasOutlet.ramp_of_ne ?_ (same.judged found quiet) loaded other give
  have history : HasOutlet n Q (modifyOutlet k enterHistory t) := by
    obtain ⟨v, found', q⟩ := here
    exact ⟨v, by rw [modifyOutlet_getElem?, if_neg other, found'], q⟩
  refine history.of_each (judgeOutlet_quiet found quiet) fun o u q counts => ?_
  obtain ⟨-, -, -, rests⟩ := counts
  rw [rests other.symm]
  exact q

/-- The turn of a quiet outlet at its own record. -/
theorem HasOutlet.supervised_own (here : HasOutlet n Q t) (same : SameTables s t) (loaded : s.host.profile = some p)
    (quiet : ∀ u, Q u → QuietRecord u)
    (own : ∀ u x, Q u → x.session = u.session → x.share = u.share → x.supervision.windowMax = u.session.offer → Q' (rampOutlet p x))
    (give : ∀ u, Q' u → Q' (giveTarget false u (cappedTarget p s.census.participation s.shares.curtail s.outlets n))) :
    HasOutlet n Q' (superviseOutlet n t) := by
  obtain ⟨u, found, q⟩ := here
  have judged : HasOutlet n (fun x => x.session = u.session ∧ x.share = u.share ∧ x.supervision.windowMax = u.session.offer) (judgeOutlet n t) := by
    have entered : HasOutlet n (fun x => x = enterHistory u) (modifyOutlet n enterHistory t) := ⟨_, modifyOutlet_own enterHistory found, rfl⟩
    refine entered.of_each (judgeOutlet_quiet found (quiet u q)) fun x y h counts => ?_
    obtain ⟨session, share, windowMax, -⟩ := counts
    rw [session, share, windowMax, h]
    exact ⟨rfl, rfl, rfl⟩
  rw [superviseOutlet_eq]
  refine judged.ramp_own (same.judged found (quiet u q)) loaded (fun x h => ?_) give
  obtain ⟨session, share, windowMax⟩ := h
  exact own u x q session share windowMax

theorem forOutlets_index {f : Nat → State → State} {count : Nat} (P : Nat → State → Prop) (start : P 0 s)
    (step : ∀ k t, k < count → P k t → P (k + 1) (f k t)) : P count (forOutlets count f s) := by
  induction count with
  | zero => exact start
  | succ c ih =>
    rw [forOutlets_succ]
    exact step c _ (by omega) (ih fun k t below => step k t (by omega))

/-- A record that was only lowered is as quiet as the one found. -/
theorem Lowered.quiet (lowered : Lowered (meterFullWindow o) u) (quiet : QuietRecord o) : QuietRecord u := by
  obtain ⟨overdraw, stall, unstall⟩ := quiet
  have supervision := lowered.supervision
  refine ⟨by rw [supervision]; exact overdraw, ?_, by rw [supervision]; exact unstall⟩
  rcases lowered.state with ⟨-, count⟩ | ⟨-, -, -, -, count⟩ <;> rw [count]
  · exact stall
  · decide

theorem AfterFullRamp.lowered {table : Nat} (after : AfterFullRamp p o table v) : AfterFullRamp p o table (giveTarget false v table) := by
  obtain ⟨way, windowMax⟩ := after
  have lowered := way.lowered
  refine ⟨lowered, fun settled => ?_⟩
  obtain ⟨-, offer, -, target⟩ := way
  obtain ⟨-, offer', -, target'⟩ := lowered
  rw [giveTarget_windowMax, windowMax settled, offer, offer', target settled, target' settled]

/-- The ramp of a record whose window maximum starts from its offer. -/
theorem Toward.afterFullRamp {table : Nat} (positive : 0 < p.minCurrent)
    (way : Toward o o.session.offer table u) (windowMax : u.supervision.windowMax = u.session.offer) :
    AfterFullRamp p o table (rampOutlet p u) := by
  refine ⟨way.ramped positive, fun _ => ?_⟩
  obtain ⟨-, offer, -⟩ := way
  rw [rampOutlet_windowMax, windowMax]
  by_cases reached : u.share.target ≤ u.session.offer
  · rw [if_pos reached, rampOutlet, if_pos reached]
  · have bounds := rampedOffer_bounds p u.session.offer u.share.target
    rw [if_neg reached, rampOutlet_offer p u (by omega), ← rampedOffer_eq_min p (by omega)]
    omega

/-- What a lawful outlet has at a full window end when its turn has not come, and when it has come. -/
def QuietTurns (p : Profile) (s : State) (k : Nat) (t : State) : Prop :=
  SameTables s t ∧ ∀ (m : Nat) (o : Outlet), s.outlets[m]? = some o →
    (k ≤ m → HasOutlet m (fun u => Lowered (meterFullWindow o) u ∧
      Toward o o.session.offer (cappedTarget p s.census.participation s.shares.curtail s.outlets m) u) t) ∧
    (m < k → HasOutlet m (AfterFullRamp p o (cappedTarget p s.census.participation s.shares.curtail s.outlets m)) t)

theorem quietTurns_start (law : PostLaw s) (loaded : s.host.profile = some p) : QuietTurns p s 0 (mapOutlets meterFullWindow s) := by
  refine ⟨⟨rfl, rfl, rfl, eachOutlet_map (R := SameView) (f := meterFullWindow) (fun _ _ => rfl) _⟩,
    fun m o found => ⟨fun _ => ⟨meterFullWindow o, ?_, .refl _, ?_⟩, fun h => absurd h (Nat.not_lt_zero m)⟩⟩
  · rw [mapOutlets_getElem?, found]
    rfl
  · obtain ⟨⟨-, soft, -⟩, draws⟩ := (postLaw_iff loaded).mp law
    have lawful : OfferLaw p o := offerLaw_iff.mpr ⟨soft o (List.mem_of_getElem? found), draws o (List.mem_of_getElem? found)⟩
    exact toward_of_lawful lawful rfl rfl _

theorem PostLaw.offer_le (law : PostLaw s) (loaded : s.host.profile = some p) (found : s.outlets[n]? = some o) :
    o.session.offer ≤ o.share.target := by
  obtain ⟨⟨-, soft, -⟩, -⟩ := (postLaw_iff loaded).mp law
  exact (soft o (List.mem_of_getElem? found)).within

theorem quietTurns_step (law : PostLaw s) (loaded : s.host.profile = some p) (found : s.outlets[k]? = some o) (quiet : QuietRecord o)
    (turns : QuietTurns p s k t) : QuietTurns p s (k + 1) (superviseOutlet k t) := by
  obtain ⟨same, each⟩ := turns
  have own := (each k o found).1 le_rfl
  obtain ⟨u, foundU, lowered, way⟩ := own
  have quietU := lowered.quiet quiet
  refine ⟨same.supervised foundU quietU, fun m o' found' => ⟨fun later => ?_, fun earlier => ?_⟩⟩
  · exact ((each m o' found').1 (by omega)).supervised_of_ne same loaded (by omega) foundU quietU fun u h =>
      ⟨h.1.trans (.given _ _), h.2.lowered⟩
  · by_cases own : m = k
    · subst own
      obtain rfl := Option.some.inj (found.symm.trans found')
      refine HasOutlet.supervised_own (Q := fun x => x = u) ⟨u, foundU, rfl⟩ same loaded (fun x h => h ▸ quietU)
        (fun u' x h session share windowMax => ?_) fun _ after => after.lowered
      subst h
      have way' : Toward o o.session.offer (cappedTarget p s.census.participation s.shares.curtail s.outlets m) x := by
        unfold Toward PairFollowsOffer
        rw [session, share]
        exact way
      exact way'.afterFullRamp (law.positive loaded) (windowMax.trans (congrArg Session.offer session).symm)
    · exact ((each m o' found').2 (by omega)).supervised_of_ne same loaded (by omega) foundU quietU fun _ after => after.lowered

/-- A full window end at quiet outlets of a lawful post: one step of the ramp at each, and nothing that the tables read (R143, R151). -/
theorem outletsFullWindow_quiet (law : PostLaw s) (loaded : s.host.profile = some p) (quiet : QuietOutlets s) :
    SameTables s (outletsFullWindow s) ∧ ∀ (n : Nat) (o : Outlet), s.outlets[n]? = some o →
      HasOutlet n (AfterFullRamp p o (cappedTarget p s.census.participation s.shares.curtail s.outlets n)) (outletsFullWindow s) := by
  obtain ⟨same, each⟩ := forOutlets_index (QuietTurns p s) (quietTurns_start law loaded) fun k t within turns =>
    quietTurns_step law loaded (List.getElem?_eq_getElem within) (quiet _ (List.getElem_mem within)) turns
  exact ⟨same, fun n o found => (each n o found).2 (List.getElem?_eq_some_iff.mp found).1⟩

end

end Sys2Proof.Machine
end

section
/-! PROOFS. What a full window end leaves of the state and of each record (R63, R112 to R118, R148, R151), and with it obligation O25. -/

set_option Elab.async false

namespace Sys2Proof.Machine

/-- The Feeder Watch's records after a reading is judged (R119 to R123). -/
def judgedFeeder (p : Profile) (r : Reading) (w : FeederWatch) : FeederWatch :=
  match w.sense, r with
  | .valid, .inBand f =>
    { w with
      outOfBandCount := 0
      overCount := nextOver p f w.overCount
      tripCount := nextTrip p f w.tripCount
      hushPending := w.hushPending || nextTrip p f w.tripCount == 2 }
  | .valid, .outOfBand _ =>
    if 2 ≤ w.outOfBandCount + 1 then
      { w with sense := .lost, outOfBandCount := 0, inBandCount := 0, overCount := 0, tripCount := 0 }
    else { w with outOfBandCount := w.outOfBandCount + 1 }
  | .lost, .inBand _ =>
    if 8 ≤ w.inBandCount + 1 then { w with sense := .valid, outOfBandCount := 0, inBandCount := 0 }
    else { w with inBandCount := w.inBandCount + 1 }
  | .lost, .outOfBand _ => { w with inBandCount := 0 }

/-- The Feeder Watch's records after a full window end (R113). -/
def feederAfter (profile : Option Profile) (index : Nat) (w : FeederWatch) : FeederWatch :=
  match profile with
  | none => startWindow w
  | some p =>
    if w.partialWindow then startWindow w
    else startWindow (judgedFeeder p (readingOf p.fullScale w.windowSum) (recordReading index (readingOf p.fullScale w.windowSum) w))

/-- Of the session record only state, offer and fault kind differ. -/
def SessionKept (o u : Outlet) : Prop :=
  u.session = { o.session with state := u.session.state, offer := u.session.offer, faultKind := u.session.faultKind }

/-- Of the share record only G, B and the target differ. -/
def ShareKept (o u : Outlet) : Prop :=
  u.share = { o.share with g := u.share.g, b := u.share.b, target := u.share.target }

/-- What the judgements of an outlet's turn leave of a record (R152). -/
structure JudgeKept (o u : Outlet) : Prop where
  meter : u.meter = o.meter
  duty : u.setpointDuty = o.setpointDuty
  clash : u.clashCount = o.clashCount
  session : SessionKept o u
  share : ShareKept o u
  history : u.supervision.history = o.supervision.history
  windowMax : u.supervision.windowMax = o.supervision.windowMax
  held : OfferHeld o u
  target : u.share.target ≤ o.share.target

section
variable {p : Profile} {profile : Option Profile} {s t w : State} {n : Nat} {o o' u v x : Outlet} {feederFirst : Bool}

/-! The Feeder Watch. -/

theorem noteTrip_feeder (f trip : Nat) (s : State) : (noteTrip f trip s).feeder = { s.feeder with hushPending := true } := by
  unfold noteTrip
  split_ifs
  · rfl
  · rw [capture_feeder]; rfl

theorem judgeLimits_feeder (p : Profile) (f : Nat) (s : State) : (judgeLimits p f s).feeder = { s.feeder with
    overCount := nextOver p f s.feeder.overCount
    tripCount := nextTrip p f s.feeder.tripCount
    hushPending := s.feeder.hushPending || nextTrip p f s.feeder.tripCount == 2 } := by
  have counted (w : FeederWatch) : (noteOverload p f s.feeder.overCount { s with feeder := w }).feeder = w := by
    rw [noteOverload, raiseIf_eq]
  unfold judgeLimits
  dsimp only
  split_ifs with trip overs
  · rw [takeOrder_feeder, noteTrip_feeder, counted, trip]
    simp
  · rw [takeOrder_feeder, counted, beq_eq_false_iff_ne.mpr trip, Bool.or_false]
  · rw [counted, beq_eq_false_iff_ne.mpr trip, Bool.or_false]

theorem judgeReading_feeder (p : Profile) (r : Reading) (s : State) : (judgeReading p r s).feeder = judgedFeeder p r s.feeder := by
  cases sense : s.feeder.sense <;> cases r <;> simp only [judgeReading, judgedFeeder, sense]
  case valid.inBand f => rw [judgeLimits_feeder]
  case valid.outOfBand sum =>
    split_ifs
    · rw [loseSense, capture_feeder]
      exact (takeOrder_feeder .zero _).trans rfl
    · rfl
  case lost.inBand f => split_ifs <;> rfl

theorem feederFullWindow_feeder (s : State) :
    (feederFullWindow s).feeder = feederAfter s.host.profile s.census.windowIndex s.feeder := by
  cases loaded : s.host.profile with
  | none => rw [feederFullWindow_of_unjudged (.inl loaded)]; rfl
  | some p =>
    cases whole : s.feeder.partialWindow with
    | true =>
      rw [feederFullWindow_of_unjudged (.inr whole)]
      exact (if_pos whole).symm
    | false =>
      rw [feederFullWindow_of_judged loaded whole]
      dsimp only
      rw [judgeReading_feeder]
      exact (if_neg (by rw [whole]; exact Bool.false_ne_true)).symm

/-- Whichever block comes first, the Feeder Watch is left the same. -/
theorem endFullWindow_feederAfter (feederFirst : Bool) (s : State) :
    (endFullWindow feederFirst s).feeder = feederAfter s.host.profile s.census.windowIndex s.feeder := by
  rw [endFullWindow_feeder, windowTaken]
  split
  · rw [(outletsFullWindow_frame _).feeder, feederFullWindow_feeder]
  · have frame := outletsFullWindow_frame s
    rw [feederFullWindow_feeder, frame.profile, frame.census, frame.feeder]

theorem feederAfter_of_judged (whole : s.feeder.partialWindow = false) (index : Nat) : feederAfter (some p) index s.feeder =
    startWindow (judgedFeeder p (readingOf p.fullScale s.feeder.windowSum)
      (recordReading index (readingOf p.fullScale s.feeder.windowSum) s.feeder)) :=
  if_neg (by rw [whole]; exact Bool.false_ne_true)

theorem judgedFeeder_keeps (p : Profile) (r : Reading) (w : FeederWatch) :
    (judgedFeeder p r w).ring = w.ring ∧ (judgedFeeder p r w).peak = w.peak := by
  unfold judgedFeeder
  split
  · exact ⟨rfl, rfl⟩
  · split_ifs <;> exact ⟨rfl, rfl⟩
  · split_ifs <;> exact ⟨rfl, rfl⟩
  · exact ⟨rfl, rfl⟩

theorem readingOf_eq (p : Profile) (sum : Nat) :
    readingOf p.fullScale sum = if 2040 ≤ sum ∧ sum ≤ 38880 then .inBand (feederFigure p sum) else .outOfBand sum := by
  unfold readingOf
  simp only [inBand, Bool.and_eq_true, decide_eq_true_eq]
  rfl

/-! The state around the records. -/

/-- A full window end at both blocks, before the window clock moves on: the fields it can write. -/
def WindowFrame (s t : State) : Prop :=
  t = { s with
    outlets := t.outlets
    feeder := t.feeder
    shares.curtail := t.shares.curtail
    host.events := t.host.events
    host.firstFault := t.host.firstFault
    host.furtherFaults := t.host.furtherFaults }

theorem WindowFrame.trans (first : WindowFrame s t) (second : WindowFrame t w) : WindowFrame s w := by
  unfold WindowFrame at *; rw [second, first]

theorem OutletFrame.window (frame : OutletFrame s t) : WindowFrame s t := by
  unfold OutletFrame at frame
  unfold WindowFrame
  rw [frame]

theorem feederFullWindow_windowFrame (s : State) : WindowFrame s (feederFullWindow s) := by
  have ordered : WindowFrame s (orderTaken s) := by
    unfold orderTaken takenIf
    split
    · rfl
    · rw [takeOrder_eq]; rfl
  refine ordered.trans ?_
  have frame := feederFullWindow_orderFrame s
  unfold OrderFrame at frame
  unfold WindowFrame
  rw [frame]

theorem windowTaken_frame (feederFirst : Bool) (s : State) : WindowFrame s (windowTaken feederFirst s) := by
  unfold windowTaken
  split
  · exact (feederFullWindow_windowFrame s).trans (outletsFullWindow_frame _).window
  · exact (outletsFullWindow_frame s).window.trans (feederFullWindow_windowFrame _)

/-- The transceiver serves a request by a drive, the hold-off and the request's end, and the line stands where there is none to serve. -/
theorem serve_line_frame (s : State) :
    (serve s).line = { s.line with
      drive := (serve s).line.drive, holdOffMs := (serve s).line.holdOffMs, startRequest := (serve s).line.startRequest } ∧
    (s.line.state ≠ .free ∨ s.line.drive ≠ .idle ∨
      ((s.feeder.hushPending = false ∨ s.line.holdOffMs ≠ 0) ∧ s.line.startRequest = false) → (serve s).line = s.line) := by
  unfold serve
  split_ifs with due hush start
  · refine ⟨rfl, fun blocked => ?_⟩
    obtain ⟨-, free, idle⟩ := due
    obtain ⟨pending, expired⟩ := hush
    rcases blocked with h | h | ⟨h | h, -⟩
    · exact absurd free h
    · exact absurd idle h
    · rw [pending] at h; cases h
    · exact absurd expired h
  · refine ⟨rfl, fun blocked => ?_⟩
    obtain ⟨-, free, idle⟩ := due
    rcases blocked with h | h | ⟨-, h⟩
    · exact absurd free h
    · exact absurd idle h
    · rw [start] at h; cases h
  · exact ⟨rfl, fun _ => rfl⟩
  · exact ⟨rfl, fun _ => rfl⟩

theorem endFullWindow_line (feederFirst : Bool) (s : State) :
    (endFullWindow feederFirst s).line = { s.line with
      drive := (endFullWindow feederFirst s).line.drive
      holdOffMs := (endFullWindow feederFirst s).line.holdOffMs
      startRequest := (endFullWindow feederFirst s).line.startRequest } ∧
    (s.line.state ≠ .free ∨ s.line.drive ≠ .idle ∨
      (((endFullWindow feederFirst s).feeder.hushPending = false ∨ s.line.holdOffMs ≠ 0) ∧ s.line.startRequest = false) →
      (endFullWindow feederFirst s).line = s.line) := by
  have line : (windowClosed feederFirst s).line = s.line := by
    show (windowTaken feederFirst s).line = s.line
    rw [windowTaken_frame feederFirst s]
  have feeder : (windowClosed feederFirst s).feeder = (endFullWindow feederFirst s).feeder := (endFullWindow_feeder feederFirst s).symm
  have served := serve_line_frame (windowClosed feederFirst s)
  rw [line, feeder, ← endFullWindow_eq] at served
  exact served

/-! The records. -/

theorem SessionKept.trans (first : SessionKept o u) (second : SessionKept u v) : SessionKept o v := by
  unfold SessionKept at *; rw [second, first]

theorem ShareKept.trans (first : ShareKept o u) (second : ShareKept u v) : ShareKept o v := by
  unfold ShareKept at *; rw [second, first]

theorem JudgeKept.refl (o : Outlet) : JudgeKept o o := ⟨rfl, rfl, rfl, rfl, rfl, rfl, rfl, .inl rfl, le_rfl⟩

theorem JudgeKept.trans (first : JudgeKept o u) (second : JudgeKept u v) : JudgeKept o v where
  meter := second.meter.trans first.meter
  duty := second.duty.trans first.duty
  clash := second.clash.trans first.clash
  session := first.session.trans second.session
  share := first.share.trans second.share
  history := second.history.trans first.history
  windowMax := second.windowMax.trans first.windowMax
  held := first.held.trans second.held second.target
  target := second.target.trans first.target

theorem Lowered.judgeKept (lowered : Lowered o u) : JudgeKept o u where
  meter := lowered.meter
  duty := lowered.duty
  clash := lowered.clash
  session := by rw [SessionKept, lowered.session]
  share := by rw [ShareKept, lowered.share]
  history := by rw [lowered.supervision]
  windowMax := by rw [lowered.supervision]
  held := lowered.held
  target := lowered.target

theorem judgeKept_faultOutlet (kind : SessionFault) (o : Outlet) : JudgeKept o (faultOutlet kind o) := by
  unfold faultOutlet dropShares
  split_ifs <;> exact ⟨rfl, rfl, rfl, rfl, rfl, rfl, rfl, .inr ⟨Nat.zero_le _, le_rfl⟩, Nat.zero_le _⟩

theorem judgeKept_stallOutlet (o : Outlet) : JudgeKept o (stallOutlet o) := by
  unfold stallOutlet dropShares
  split_ifs <;> exact ⟨rfl, rfl, rfl, rfl, rfl, rfl, rfl, .inl rfl, le_rfl⟩

theorem judgeKept_overdrawRecord (o : Outlet) : JudgeKept o (overdrawRecord o) := by
  unfold overdrawRecord
  split_ifs
  · exact judgeKept_faultOutlet .overdraw o
  all_goals exact ⟨rfl, rfl, rfl, rfl, rfl, rfl, rfl, .inl rfl, le_rfl⟩

theorem Responds.judgeKept (responds : Responds profile u x) : JudgeKept u x := by
  cases responds with
  | stalls charging low last beside =>
    obtain ⟨lowered, -, -⟩ := beside
    exact (judgeKept_stallOutlet u).trans lowered.judgeKept
  | unstalls stalled draws last beside =>
    obtain ⟨lowered, -, -⟩ := beside
    have left : JudgeKept u (unstallOutlet u) := ⟨rfl, rfl, rfl, rfl, rfl, rfl, rfl, .inl rfl, le_rfl⟩
    exact left.trans lowered.judgeKept
  | low | high | draws | rests | other => exact ⟨rfl, rfl, rfl, rfl, rfl, rfl, rfl, .inl rfl, le_rfl⟩

theorem judgeKept_releaseRecord (found : SessionState) (o : Outlet) : JudgeKept o (releaseRecord found o) := by
  unfold releaseRecord
  split_ifs <;> exact ⟨rfl, rfl, rfl, rfl, rfl, rfl, rfl, .inl rfl, le_rfl⟩

/-- The ramp at a record of which the judgements are done. -/
theorem Ramps.follows (ramps : Ramps profile u v) :
    v.meter = u.meter ∧ v.setpointDuty = u.setpointDuty ∧ v.clashCount = u.clashCount ∧
    SessionKept u v ∧ ShareKept u v ∧ v.supervision.history = u.supervision.history ∧
    (u.session.offer ≤ u.supervision.windowMax → v.session.offer ≤ v.supervision.windowMax) ∧
    (profile = none → v = u) ∧
    ∀ p, profile = some p → v.supervision.windowMax = if u.share.target ≤ u.session.offer then u.supervision.windowMax
      else max u.supervision.windowMax (rampedOffer p u.session.offer u.share.target) := by
  rcases ramps with ⟨none, rfl⟩ | ⟨p, loaded, lowered, -, -⟩
  · exact ⟨rfl, rfl, rfl, rfl, rfl, rfl, id, fun _ => rfl, fun p loaded => by rw [none] at loaded; cases loaded⟩
  · have kept := lowered.judgeKept
    have windowMax := rampOutlet_windowMax p u
    have offers : (rampOutlet p u).session.offer = if u.share.target ≤ u.session.offer then u.session.offer
        else rampedOffer p u.session.offer u.share.target := by
      unfold rampOutlet
      split_ifs <;> rfl
    have fields : (rampOutlet p u).meter = u.meter ∧ (rampOutlet p u).setpointDuty = u.setpointDuty ∧
        (rampOutlet p u).clashCount = u.clashCount ∧
        SessionKept u (rampOutlet p u) ∧ ShareKept u (rampOutlet p u) ∧ (rampOutlet p u).supervision.history = u.supervision.history := by
      unfold rampOutlet
      split_ifs <;> exact ⟨rfl, rfl, rfl, rfl, rfl, rfl⟩
    obtain ⟨meter, duty, clash, session, share, history⟩ := fields
    refine ⟨kept.meter.trans meter, kept.duty.trans duty, kept.clash.trans clash, session.trans kept.session, share.trans kept.share,
      kept.history.trans history, fun below => ?_, fun none => ?_, fun q loaded' => ?_⟩
    · have low := lowered.held.le
      rw [kept.windowMax, windowMax]
      rw [offers] at low
      split_ifs at low ⊢ <;> omega
    · rw [none] at loaded
      cases loaded
    · obtain rfl := Option.some.inj (loaded.symm.trans loaded')
      rw [kept.windowMax, windowMax]

/-- What a full window end leaves of an outlet's record, and its window maximum (R148, R151). -/
theorem WindowTurn.kept_record (turn : WindowTurn n feederFirst s o w u v o') :
    o'.meter = ⟨o.meter.charge, 0, o.meter.remainder, some o.meter.windowCount⟩ ∧
    o'.supervision.history = o.supervision.history.drop 1 ++ [o.supervision.windowMax] ∧
    o'.session.offer ≤ o'.supervision.windowMax ∧
    (∀ p, s.host.profile = some p →
      o'.supervision.windowMax ≤ max o.session.offer (min o.share.target (rampTop p o.session.offer))) ∧
    (s.host.profile = none → o'.supervision.windowMax = o.session.offer) ∧
    o'.setpointDuty = o.setpointDuty ∧ o'.clashCount = o.clashCount ∧
    SessionKept o o' ∧ ShareKept o o' := by
  obtain ⟨x, responds, ramps⟩ := superviseOutlet_at turn.foundBefore turn.foundAfter
  have before := turn.before.judgeKept
  have after := turn.after.judgeKept
  have judged := ((judgeKept_overdrawRecord (enterHistory u)).trans responds.judgeKept).trans (judgeKept_releaseRecord u.session.state x)
  have supervision := turn.before.supervision
  have held : OfferHeld o u := turn.before.held
  have entered : (enterHistory u).supervision.windowMax = u.session.offer := rfl
  have windowMax := judged.windowMax.trans entered
  have heldX : OfferHeld o (releaseRecord u.session.state x) := held.trans judged.held judged.target
  have targetX : (releaseRecord u.session.state x).share.target ≤ o.share.target := judged.target.trans before.target
  have offerX : (releaseRecord u.session.state x).session.offer ≤ u.session.offer := judged.held.le
  have offerU : u.session.offer ≤ o.session.offer := held.le
  obtain ⟨meter, duty, clash, session, share, history, within, unloaded, ramped⟩ := ramps.follows
  refine ⟨?_, ?_, ?_, fun p loaded => ?_, fun none => ?_, ?_, ?_, ?_, ?_⟩
  · rw [after.meter, meter, judged.meter]
    show u.meter = _
    rw [before.meter]
    rfl
  · rw [after.history, history, judged.history]
    show u.supervision.history.drop 1 ++ [u.supervision.windowMax] = _
    rw [supervision]
    rfl
  · have low := after.held.le
    have most := within (by omega)
    rw [after.windowMax]
    omega
  · rw [after.windowMax, ramped p (turn.profile.trans loaded), windowMax]
    split_ifs with settled
    · omega
    · have same : (releaseRecord u.session.state x).session.offer = o.session.offer := heldX.resolve_right fun low => settled low.2
      rw [rampedOffer_eq_min p (by omega), same]
      omega
  · rw [after.windowMax, unloaded (turn.profile.trans none), windowMax, turn.unloadedBefore none]
    rfl
  · exact after.duty.trans (duty.trans (judged.duty.trans before.duty))
  · exact after.clash.trans (clash.trans (judged.clash.trans before.clash))
  · exact ((before.session.trans judged.session).trans session).trans after.session
  · exact ((before.share.trans judged.share).trans share).trans after.share

/-- A window that takes no order is the outlets' alone in the records and the shares. -/
theorem orderTaken_of_none (none : feederOrder s = none) : orderTaken s = s := by rw [orderTaken, none]; rfl

theorem feederOrder_congr (profile : t.host.profile = s.host.profile) (feeder : t.feeder = s.feeder) : feederOrder t = feederOrder s := by
  unfold feederOrder
  rw [profile, feeder]

/-- The outlets and the curtail count after a full window end that hands over no order. -/
theorem windowTaken_of_noOrder (feederFirst : Bool) (none : feederOrder s = none) :
    (windowTaken feederFirst s).shares = s.shares ∧ ∃ t, (windowTaken feederFirst s).outlets = (outletsFullWindow t).outlets ∧
      t.outlets = s.outlets ∧ t.host.profile = s.host.profile ∧ t.census = s.census ∧ t.shares = s.shares := by
  unfold windowTaken
  split
  · refine ⟨?_, feederFullWindow s, rfl, ?_, feederFullWindow_profile s, feederFullWindow_census s, ?_⟩
    · rw [(outletsFullWindow_frame _).shares, feederFullWindow_shares, orderTaken_of_none none]
    · rw [feederFullWindow_outlets, orderTaken_of_none none]
    · rw [feederFullWindow_shares, orderTaken_of_none none]
  · have frame := outletsFullWindow_frame s
    have none' : feederOrder (outletsFullWindow s) = Option.none := (feederOrder_congr frame.profile frame.feeder).trans none
    refine ⟨?_, s, ?_, rfl, rfl, rfl, rfl⟩
    · rw [feederFullWindow_shares, orderTaken_of_none none', frame.shares]
    · rw [feederFullWindow_outlets, orderTaken_of_none none']

theorem nextOver_eq_two (p : Profile) (f overs : Nat) : nextOver p f overs = 2 ↔ p.importLimit < f ∧ 1 ≤ overs := by
  unfold nextOver; split <;> omega

theorem nextTrip_eq_two (p : Profile) (f trip : Nat) : nextTrip p f trip = 2 ↔ p.importLimit + p.tripMargin < f ∧ 1 ≤ trip := by
  unfold nextTrip; split <;> omega

/-- A quiet Feeder Watch hands over no order. -/
theorem feederOrder_of_quiet (quiet : QuietFeeder s) : feederOrder s = none := by
  obtain ⟨overs, trip, outOfBand⟩ := quiet
  have reading (p : Profile) (r : Reading) : readingOrder p r s.feeder = none := by
    cases sense : s.feeder.sense <;> cases r <;> simp only [readingOrder, sense]
    case valid.inBand f => rw [if_neg (by rw [nextTrip_eq_two]; omega), if_neg (by rw [nextOver_eq_two]; omega)]
    case valid.outOfBand sum => rw [if_neg (by omega)]
  unfold feederOrder
  split
  · rfl
  · rw [reading, ite_self]

/-- Settles O25: every consumer's part is read off its own function, and the records off the outlets' turns. -/
theorem fullWindowEndMovesEveryConsumer : Obligations.FullWindowEndMovesEveryConsumer := by
  intro s feederFirst out
  have frame := windowTaken_frame feederFirst s
  have feeder := endFullWindow_feederAfter feederFirst s
  obtain ⟨line, stands⟩ := endFullWindow_line feederFirst s
  have host := endFullWindow_host feederFirst s
  have length : (endFullWindow feederFirst s).outlets.length = s.outlets.length := by
    have steps : OutletSteps (fun _ _ => True) s (endFullWindow feederFirst s) :=
      endFullWindow_steps (fun _ => trivial) (fun _ => trivial) feederFirst s
    exact steps.length
  refine ⟨_, exec_fullWindowEnd feederFirst out, endFullWindow_participation feederFirst s, ?_, ?_, ?_, ?_, line, stands, ?_, ?_, ?_, ?_, length,
    ?_, ?_, ?_, ?_⟩
  · rw [endFullWindow_eq, serve_roster, windowClosed, frame]
  · rw [endFullWindow_eq, serve_minuteMs, windowClosed, frame]
  · rw [endFullWindow_eq, serve_pending, windowClosed, frame]
  · rw [SameHostBut, host, frame]
  · rw [endFullWindow_shares, frame]
  · rw [feeder]; unfold feederAfter; split <;> (try split) <;> rfl
  · rw [feeder]; unfold feederAfter; split <;> (try split) <;> rfl
  · rw [feeder]; unfold feederAfter; split <;> (try split) <;> rfl
  · intro n o o' found found'
    obtain ⟨w, u, v, x, turn, foundX⟩ := endFullWindow_turn feederFirst found
    obtain rfl := Option.some.inj (foundX.symm.trans found')
    exact turn.kept_record
  · intro p r judged reading
    obtain ⟨-, loaded, whole⟩ := judged
    rw [feeder, loaded, feederAfter_of_judged whole, readingOf_eq, ← reading]
    obtain ⟨ring, peak⟩ := judgedFeeder_keeps p r (recordReading s.census.windowIndex r s.feeder)
    refine ⟨ring.trans ?_, peak.trans ?_⟩
    · show enterRing _ _ = _
      unfold enterRing
      split_ifs <;> rfl
    · show raisePeak r s.feeder.peak = _
      cases r <;> cases s.feeder.peak <;> rfl
  · intro unjudged
    have none := feederOrder_of_unjudged unjudged
    obtain ⟨shares, -⟩ := windowTaken_of_noOrder feederFirst none
    refine ⟨?_, by rw [endFullWindow_shares, shares]⟩
    rw [feeder]
    unfold feederAfter
    split
    · rfl
    · next p loaded => exact if_pos (unjudged.resolve_left fun none => by rw [none] at loaded; cases loaded)
  · intro p loaded law quiet
    obtain ⟨quietFeeder, quietOutlets⟩ := quiet
    obtain ⟨-, t, outlets, sameOutlets, profile, census, shares⟩ := windowTaken_of_noOrder feederFirst (feederOrder_of_quiet quietFeeder)
    have lawT : PostLaw t := (postLaw_of_same sameOutlets profile).mpr law
    obtain ⟨-, each⟩ := outletsFullWindow_quiet lawT (profile.trans loaded) (by unfold QuietOutlets; rw [sameOutlets]; exact quietOutlets)
    rw [sameOutlets, census, shares] at each
    have after {n : Nat} {o o' : Outlet} (found : s.outlets[n]? = some o) (found' : (endFullWindow feederFirst s).outlets[n]? = some o') :
        AfterFullRamp p o (cappedTarget p s.census.participation s.shares.curtail s.outlets n) o' := by
      rw [endFullWindow_outlets, outlets] at found'
      exact (each n o found).at found'
    refine ⟨fun n o o' found found' => ?_, fun settled o' member => ?_⟩
    · obtain ⟨⟨target, offer, pair, same⟩, -⟩ := after found found'
      exact ⟨target, offer, pair, fun settled => same (targetsSettled_at settled found)⟩
    · obtain ⟨n, found'⟩ := List.mem_iff_getElem?.mp member
      have within : n < s.outlets.length := by
        rw [← length]
        exact (List.getElem?_eq_some_iff.mp found').1
      have found := List.getElem?_eq_getElem within
      obtain ⟨-, windowMax⟩ := after found found'
      exact windowMax (targetsSettled_at settled found)

end

end Sys2Proof.Machine
end

section
/-! PROOFS. An order on borrow taken at a full window end (R124, R133, R135, R141, R142): B, targets and offers with it, whichever block comes
first. -/

set_option Elab.async false

namespace Sys2Proof.Machine

/-- What an order makes of the B held (R133). -/
def borrowed : BorrowOrder → Nat → Nat
  | .halve, b => b / 2
  | .zero, _ => 0
  | .zeroAndCurtail, _ => 0

section
variable {p : Profile} {profile : Option Profile} {s t w : State} {n : Nat} {o o' u v x : Outlet} {feederFirst : Bool} {order : BorrowOrder}

/-! B over an outlet's turn. -/

/-- B stands with the pair, or is given up with it, or stands where the session was outside the pair (R107). -/
def BorrowKept (u x : Outlet) : Prop :=
  x.share.b = u.share.b ∧ inPair x.session.state = inPair u.session.state ∨ x.share.b = 0 ∧ inPair x.session.state = false ∨
  inPair u.session.state = false ∧ x.share.b = u.share.b

theorem BorrowKept.le (kept : BorrowKept u x) : x.share.b ≤ u.share.b := by
  rcases kept with ⟨same, -⟩ | ⟨zero, -⟩ | ⟨-, same⟩ <;> omega

/-- Under the law of borrow B is the one found in the pair, and 0 outside it. -/
theorem BorrowKept.eq (kept : BorrowKept u x) (outside : inPair u.session.state = false → u.share.b = 0) :
    x.share.b = if inPair x.session.state = true then u.share.b else 0 := by
  rcases kept with ⟨same, pair⟩ | ⟨zero, out⟩ | ⟨out, same⟩
  · split_ifs with member
    · exact same
    · exact same.trans (outside (pair ▸ Bool.eq_false_iff.mpr member))
  · rw [zero, out]
    rfl
  · rw [same, outside out, ite_self]

/-- Changes that keep B and the pair, before and after. -/
theorem BorrowKept.between (kept : BorrowKept u x) (first : u.share.b = o.share.b ∧ inPair u.session.state = inPair o.session.state)
    (last : v.share.b = x.share.b ∧ inPair v.session.state = inPair x.session.state) : BorrowKept o v := by
  unfold BorrowKept at *
  rw [last.1, last.2, ← first.1, ← first.2]
  exact kept

theorem dropShares_borrow (o : Outlet) : (dropShares o).share.b = if inPair o.session.state = true then 0 else o.share.b := by
  unfold dropShares
  split_ifs <;> rfl

/-- Overdraw and response at a record: a session that leaves the pair gives up B. -/
theorem Responds.borrowKept (responds : Responds profile (overdrawRecord u) x) : BorrowKept u x := by
  rcases overdrawRecord_cases u with ⟨-, -, -, h⟩ | ⟨-, h⟩ <;> rw [h] at responds
  · have faulted : x = faultOutlet .overdraw u := by
      cases responds with
      | stalls charging | low charging | high charging => cases charging
      | unstalls stalled | draws stalled | rests stalled => cases stalled
      | other => rfl
    rw [faulted]
    have b : (faultOutlet .overdraw u).share.b = _ := dropShares_borrow u
    cases pair : inPair u.session.state with
    | true => exact .inr (.inl ⟨by rw [b, pair]; rfl, rfl⟩)
    | false => exact .inr (.inr ⟨pair, by rw [b, pair]; rfl⟩)
  · cases responds with
    | stalls charging low last beside =>
      obtain ⟨lowered, b, -⟩ := beside
      refine .inr (.inl ⟨b.trans ((dropShares_borrow _).trans (if_pos ?_)), lowered.inPair⟩)
      rw [charging]
      rfl
    | unstalls stalled draws last beside =>
      obtain ⟨-, b, -⟩ := beside
      have found : u.session.state = .stalled := stalled
      exact .inr (.inr ⟨by rw [found]; rfl, b⟩)
    | low | high | draws | rests | other => exact .inl ⟨rfl, rfl⟩

theorem inPair_rampOutlet (p : Profile) (o : Outlet) : inPair (rampOutlet p o).session.state = inPair o.session.state := by
  rcases rampOutlet_state_cases p o with ⟨-, same⟩ | ⟨-, paused, -, charging, -⟩ | ⟨-, -, same⟩
  · rw [same]
  · rw [charging, paused]; rfl
  · rw [same]

theorem Ramps.borrow (ramps : Ramps profile u v) : v.share.b = u.share.b ∧ inPair v.session.state = inPair u.session.state := by
  rcases ramps with ⟨-, rfl⟩ | ⟨p, -, lowered, b, -⟩
  · exact ⟨rfl, rfl⟩
  · exact ⟨b.trans (by rw [rampOutlet_share]), lowered.inPair.trans (inPair_rampOutlet p u)⟩

/-- B over the outlets' part of a full window end (R107, R133). -/
theorem outletsFullWindow_borrow (found : s.outlets[n]? = some o) (found' : (outletsFullWindow s).outlets[n]? = some o') : BorrowKept o o' := by
  obtain ⟨w, u, v, x, turn, foundX⟩ := outletsFullWindow_turn found
  obtain rfl := Option.some.inj (foundX.symm.trans found')
  obtain ⟨before, beforeB, -⟩ := turn.before
  obtain ⟨after, afterB, -⟩ := turn.after
  obtain ⟨y, responds, ramps⟩ := superviseOutlet_at turn.foundBefore turn.foundAfter
  obtain ⟨session, share, -, -⟩ := releaseRecord_keeps u.session.state y
  obtain ⟨rampB, rampPair⟩ := ramps.borrow
  exact responds.borrowKept.between ⟨beforeB, before.inPair⟩
    ⟨afterB.trans (rampB.trans (by rw [share])), after.inPair.trans (rampPair.trans (by rw [session]))⟩

/-! The order. -/

theorem borrowOp_eq (order : BorrowOrder) (o : Outlet) : borrowOp order o = { o with share.b := (borrowOp order o).share.b } := by
  cases order <;> rfl

theorem borrowOp_view (order : BorrowOrder) (view : capView u = capView o) : capView (borrowOp order u) = capView (borrowOp order o) := by
  simp only [capView, CapView.mk.injEq] at view
  obtain ⟨state, vanMax, band, g, b⟩ := view
  cases order <;> simp only [capView, borrowOp, halveBorrow, zeroBorrow, clampBorrow, CapView.mk.injEq]
  · exact ⟨state, vanMax, band, g, by rw [vanMax, g, b]⟩
  · exact ⟨state, vanMax, band, g, trivial⟩
  · exact ⟨state, vanMax, band, g, trivial⟩

/-- The clamp of a halved B is none to the tables, which hold G + B to Cmax themselves (R133, R137). -/
theorem tableTarget_borrowOp (order : BorrowOrder) (p : Profile) (part : Participation) (curtail : Nat) (o : Outlet) :
    tableTarget p part curtail (borrowOp order o) = tableTarget p part curtail (withBorrow (borrowed order) o) := by
  cases order with
  | halve =>
    show tableTarget p part curtail { o with share.b := min (o.share.b / 2) (o.session.vanMax - o.share.g) } =
      tableTarget p part curtail { o with share.b := o.share.b / 2 }
    unfold tableTarget
    dsimp only
    have joined : (if o.session.vanMax < p.minCurrent ∨ o.share.g + min (o.share.b / 2) (o.session.vanMax - o.share.g) < p.minCurrent then 0
          else min o.session.vanMax (o.share.g + min (o.share.b / 2) (o.session.vanMax - o.share.g))) =
        if o.session.vanMax < p.minCurrent ∨ o.share.g + o.share.b / 2 < p.minCurrent then 0
          else min o.session.vanMax (o.share.g + o.share.b / 2) := by
      split_ifs <;> omega
    rw [joined]
  | zero => rfl
  | zeroAndCurtail => rfl

theorem cutOrder_map {f : Outlet → Outlet} (session : ∀ o, (f o).session = o.session) (os : List Outlet) : cutOrder (os.map f) = cutOrder os := by
  have ofClass (c : Nat) : cutOrderOf (os.map f) c = cutOrderOf os c := by
    unfold cutOrderOf
    rw [List.length_map]
    refine List.filter_congr fun i _ => ?_
    rw [List.getElem?_map]
    cases os[i]? with
    | none => rfl
    | some o => simp only [Option.map_some, session]
  simp only [cutOrder, ofClass]

theorem cappedTarget_borrowOp (order : BorrowOrder) (p : Profile) (part : Participation) (curtail : Nat) (os : List Outlet) (n : Nat) :
    cappedTarget p part curtail (os.map (borrowOp order)) n = cappedTarget p part curtail (os.map (withBorrow (borrowed order))) n := by
  have raws : (os.map (borrowOp order)).map (rawTarget p part curtail) =
      (os.map (withBorrow (borrowed order))).map (rawTarget p part curtail) := by
    rw [List.map_map, List.map_map]
    refine List.map_congr_left fun o _ => ?_
    simp only [Function.comp, rawTarget_eq_tableTarget, tableTarget_borrowOp]
  unfold cappedTarget cappedTargets
  rw [raws, cutOrder_map (fun o => by rw [borrowOp_eq]), cutOrder_map (f := withBorrow (borrowed order)) fun _ => rfl]

/-- The Feeder Watch's order at the records (R124). -/
theorem feederFullWindow_ordered (loaded : s.host.profile = some p) (given : feederOrder s = some order) :
    (feederFullWindow s).outlets = retarget p s.census.participation (curtailAfter order s.shares.curtail) false
      (s.outlets.map (borrowOp order)) ∧
    (feederFullWindow s).shares.curtail = curtailAfter order s.shares.curtail := by
  rw [feederFullWindow_outlets, feederFullWindow_shares, orderTaken, given, takenIf, takeOrder_of_profile order loaded]
  exact ⟨rfl, rfl⟩

theorem feederFullWindow_keepsPost (law : PostLaw s) : PostLaw (feederFullWindow s) :=
  OutletSteps.keepsPost (allowed := fun _ _ => False) (fun _ _ ok => ok.elim) (feederFullWindow_steps s) law

/-- An outlet's record after the order alone. -/
theorem feederFullWindow_at (loaded : s.host.profile = some p) (given : feederOrder s = some order) (found : s.outlets[n]? = some o) :
    (feederFullWindow s).outlets[n]? = some (giveTarget false (borrowOp order o)
      (cappedTarget p s.census.participation (curtailAfter order s.shares.curtail) (s.outlets.map (withBorrow (borrowed order))) n)) := by
  obtain ⟨outlets, -⟩ := feederFullWindow_ordered loaded given
  rw [outlets, retarget_getElem?, List.getElem?_map, found, ← cappedTarget_borrowOp]
  rfl

theorem borrowOp_pair (order : BorrowOrder) (lawful : OfferLaw p o) : PairFollowsOffer o (borrowOp order o) := by
  obtain ⟨-, -, pair, -⟩ := toward_of_lawful lawful rfl rfl 0
  rw [borrowOp_eq]
  exact pair

theorem rampTop_min (p : Profile) (offer target : Nat) : min target (rampTop p (min offer target)) = min target (rampTop p offer) := by
  have rise (a : Nat) : a ≤ rampTop p a := by unfold rampTop; split <;> omega
  rcases Nat.le_total offer target with below | above
  · rw [Nat.min_eq_left below]
  · have := rise offer
    have := rise target
    rw [Nat.min_eq_right above]
    omega

/-- The order taken before the outlets' turns: each record after it and after its ramp. -/
theorem feederFirst_ordered (law : PostLaw s) (quiet : QuietOutlets s) (loaded : s.host.profile = some p)
    (given : feederOrder s = some order) (found : s.outlets[n]? = some o) :
    HasOutlet n (fun o' =>
      o'.share.target = min (cappedTarget p s.census.participation (curtailAfter order s.shares.curtail)
        (s.outlets.map (withBorrow (borrowed order))) n) o.share.target ∧
      o'.session.offer = min o'.share.target (rampTop p o.session.offer) ∧ PairFollowsOffer o o' ∧
      o'.supervision.windowMax = o'.session.offer) (outletsFullWindow (feederFullWindow s)) := by
  have at' := feederFullWindow_at loaded given found
  obtain ⟨outlets, curtail⟩ := feederFullWindow_ordered loaded given
  have quiet' : QuietOutlets (feederFullWindow s) := by
    intro u member
    obtain ⟨m, foundU⟩ := List.mem_iff_getElem?.mp member
    have each := feederFullWindow_lowered s
    have within : m < s.outlets.length := by
      rw [← each.1]
      exact (List.getElem?_eq_some_iff.mp foundU).1
    obtain ⟨lowered, -⟩ := each.2 m _ u (List.getElem?_eq_getElem within) foundU
    exact lowered.metered.quiet (quiet _ (List.getElem_mem within))
  obtain ⟨-, each⟩ := outletsFullWindow_quiet (feederFullWindow_keepsPost law) ((feederFullWindow_profile s).trans loaded) quiet'
  refine (each n _ at').mono fun o' after => ?_
  obtain ⟨⟨-, offer, pair, same⟩, windowMax⟩ := after
  rw [feederFullWindow_census, curtail, outlets] at same windowMax
  have cap : cappedTarget p s.census.participation (curtailAfter order s.shares.curtail) (retarget p s.census.participation
        (curtailAfter order s.shares.curtail) false (s.outlets.map (borrowOp order))) n =
      cappedTarget p s.census.participation (curtailAfter order s.shares.curtail) (s.outlets.map (withBorrow (borrowed order))) n := by
    rw [cappedTarget, retarget_capped, ← cappedTarget_borrowOp, cappedTarget]
  rw [cap] at same windowMax
  generalize cappedTarget p s.census.participation (curtailAfter order s.shares.curtail) (s.outlets.map (withBorrow (borrowed order))) n =
    capped at *
  have target := giveTarget_false_target (borrowOp order o) capped
  have offerU := giveTarget_offer (borrowOp order o) false capped
  have settled : (giveTarget false (borrowOp order o) capped).share.target ≤ capped := by omega
  have held : (borrowOp order o).share.target = o.share.target ∧ (borrowOp order o).session = o.session := by
    rw [borrowOp_eq]
    exact ⟨rfl, rfl⟩
  obtain ⟨heldTarget, heldSession⟩ := held
  have sameTarget := same settled
  rw [sameTarget, target, heldTarget]
  obtain ⟨⟨-, soft, -⟩, draws⟩ := (postLaw_iff loaded).mp law
  have lawful : OfferLaw p o := offerLaw_iff.mpr ⟨soft o (List.mem_of_getElem? found), draws o (List.mem_of_getElem? found)⟩
  refine ⟨rfl, ?_, ((borrowOp_pair order lawful).given false capped).trans pair, windowMax settled⟩
  rw [offer, offerU, heldSession, sameTarget, target, heldTarget, rampTop_min]

/-- The order taken after the outlets' turns: each record after its ramp and after the order. -/
theorem feederLast_ordered (law : PostLaw s) (quiet : QuietOutlets s) (loaded : s.host.profile = some p) (settled : TargetsSettled p s)
    (given : feederOrder s = some order) (found : s.outlets[n]? = some o) :
    HasOutlet n (fun o' =>
      o'.share.target = min (cappedTarget p s.census.participation (curtailAfter order s.shares.curtail)
        (s.outlets.map (withBorrow (borrowed order))) n) o.share.target ∧
      o'.session.offer = min o'.share.target (rampTop p o.session.offer) ∧ PairFollowsOffer o o' ∧
      o'.supervision.windowMax = min o.share.target (rampTop p o.session.offer)) (feederFullWindow (outletsFullWindow s)) := by
  obtain ⟨tables, each⟩ := outletsFullWindow_quiet law loaded quiet
  obtain ⟨v, foundV, ⟨-, offer, pair, same⟩, windowMax⟩ := each n o found
  obtain ⟨profile, part, curtail, views⟩ := tables
  have frame := outletsFullWindow_frame s
  have sameTarget := same (targetsSettled_at settled found)
  have sameMax := windowMax (targetsSettled_at settled found)
  have at' := feederFullWindow_at (profile.trans loaded) ((feederOrder_congr frame.profile frame.feeder).trans given) foundV
  have cap : cappedTarget p (outletsFullWindow s).census.participation (curtailAfter order (outletsFullWindow s).shares.curtail)
        ((outletsFullWindow s).outlets.map (withBorrow (borrowed order))) n =
      cappedTarget p s.census.participation (curtailAfter order s.shares.curtail) (s.outlets.map (withBorrow (borrowed order))) n := by
    rw [part, curtail, ← cappedTarget_borrowOp, ← cappedTarget_borrowOp, cappedTarget, cappedTarget, cappedTargets_of_views]
    · rw [List.length_map, List.length_map, views.1]
    · intro m a b foundA foundB
      rw [List.getElem?_map] at foundA foundB
      obtain ⟨a, foundA', rfl⟩ := Option.map_eq_some_iff.mp foundA
      obtain ⟨b, foundB', rfl⟩ := Option.map_eq_some_iff.mp foundB
      exact borrowOp_view order (views.2 m a b foundA' foundB')
  rw [cap] at at'
  refine ⟨_, at', ?_⟩
  generalize cappedTarget p s.census.participation (curtailAfter order s.shares.curtail) (s.outlets.map (withBorrow (borrowed order))) n =
    capped
  have target := giveTarget_false_target (borrowOp order v) capped
  have offerV := giveTarget_offer (borrowOp order v) false capped
  have held : (borrowOp order v).share.target = v.share.target ∧ (borrowOp order v).session = v.session ∧
      (borrowOp order v).supervision = v.supervision := by
    rw [borrowOp_eq]
    exact ⟨rfl, rfl, rfl⟩
  obtain ⟨heldTarget, heldSession, heldSupervision⟩ := held
  have pair' : PairFollowsOffer o (borrowOp order v) := by
    unfold PairFollowsOffer
    rw [heldSession]
    exact pair
  refine ⟨by rw [target, heldTarget, sameTarget], ?_, pair'.given false capped, ?_⟩
  · rw [offerV, heldSession, offer, target, heldTarget, sameTarget]
    omega
  · rw [giveTarget_windowMax, heldSupervision, sameMax, offer, sameTarget]

/-- An order handed over at a full window end, whichever block comes first (R124, R135, R141, R142). -/
theorem endFullWindow_orderTaken (feederFirst : Bool) (loaded : s.host.profile = some p) (given : feederOrder s = some order) :
    (endFullWindow feederFirst s).shares.curtail = curtailAfter order s.shares.curtail ∧
    OrderTaken p feederFirst (borrowed order) (curtailAfter order s.shares.curtail) s (endFullWindow feederFirst s) := by
  have frame := outletsFullWindow_frame s
  have givenLast : feederOrder (outletsFullWindow s) = some order := (feederOrder_congr frame.profile frame.feeder).trans given
  have loadedLast : (outletsFullWindow s).host.profile = some p := frame.profile.trans loaded
  have curtail : (endFullWindow feederFirst s).shares.curtail = curtailAfter order s.shares.curtail := by
    rw [endFullWindow_shares, windowTaken]
    split
    · rw [(outletsFullWindow_frame _).shares, (feederFullWindow_ordered loaded given).2]
    · rw [(feederFullWindow_ordered loadedLast givenLast).2, frame.shares]
  have bounds : TableBounds p (endFullWindow feederFirst s) := by
    refine TableBounds.atEnd feederFirst ?_
    unfold windowTaken
    split
    · exact outletsFullWindow_keepsTable (feederFullWindow_setsTable loaded (by rw [given]; exact nofun))
    · exact feederFullWindow_setsTable loadedLast (by rw [givenLast]; exact nofun)
  refine ⟨curtail, fun n o o' found found' => ?_, fun law quiet settled n o o' found found' => ?_⟩
  · have steps : OutletSteps (fun _ kind => kind ≠ .raised) s (endFullWindow feederFirst s) :=
      endFullWindow_steps (fun _ => nofun) (fun _ => nofun) feederFirst s
    obtain ⟨table, within, -⟩ := bounds.2 o' (List.mem_of_getElem? found')
    rw [endFullWindow_participation, curtail] at table
    exact ⟨steps.target_le (fun h => h rfl) found found', table, within⟩
  · rw [endFullWindow_outlets, windowTaken] at found'
    have ordered : o'.share.target = min (cappedTarget p s.census.participation (curtailAfter order s.shares.curtail)
          (s.outlets.map (withBorrow (borrowed order))) n) o.share.target ∧
        o'.session.offer = min o'.share.target (rampTop p o.session.offer) ∧ PairFollowsOffer o o' ∧
        o'.supervision.windowMax = (if feederFirst = true then o'.session.offer else min o.share.target (rampTop p o.session.offer)) := by
      cases feederFirst with
      | true => exact (feederFirst_ordered law quiet loaded given found).at found'
      | false => exact (feederLast_ordered law quiet loaded settled given found).at found'
    obtain ⟨target, offer, pair, windowMax⟩ := ordered
    refine ⟨by rw [target, Nat.min_comm], fun within => ?_, offer, pair, windowMax⟩
    rw [target, cappedTarget_of_within within (o := withBorrow (borrowed order) o) (by rw [List.getElem?_map, found]; rfl), Nat.min_comm]

end

end Sys2Proof.Machine
end

section
/-! PROOFS. The Feeder Watch's outcomes at a full window end (R119 to R125), and with them obligations O26, O27 and O28. -/

set_option Elab.async false

namespace Sys2Proof.Machine

section
variable {p : Profile} {s t : State} {n : Nat} {o o' : Outlet} {feederFirst : Bool} {order : BorrowOrder}

/-! The readings. -/

theorem JudgedWindow.out (judged : JudgedWindow s p) : s.host.resetHeld = [] := by
  obtain ⟨out, -, -⟩ := judged
  exact out

theorem JudgedWindow.loaded (judged : JudgedWindow s p) : s.host.profile = some p := by
  obtain ⟨-, loaded, -⟩ := judged
  exact loaded

theorem readingOf_inBand (low : 2040 ≤ s.feeder.windowSum) (high : s.feeder.windowSum ≤ 38880) :
    readingOf p.fullScale s.feeder.windowSum = .inBand (feederFigure p s.feeder.windowSum) := by
  rw [readingOf_eq, if_pos ⟨low, high⟩]

theorem readingOf_outOfBand (out : s.feeder.windowSum < 2040 ∨ 38880 < s.feeder.windowSum) :
    readingOf p.fullScale s.feeder.windowSum = .outOfBand s.feeder.windowSum := by
  rw [readingOf_eq, if_neg (by omega)]

/-- The Feeder Watch after a judged window. -/
theorem JudgedWindow.feeder (judged : JudgedWindow s p) (feederFirst : Bool) : (endFullWindow feederFirst s).feeder =
    startWindow (judgedFeeder p (readingOf p.fullScale s.feeder.windowSum)
      (recordReading s.census.windowIndex (readingOf p.fullScale s.feeder.windowSum) s.feeder)) := by
  obtain ⟨-, loaded, whole⟩ := judged
  rw [endFullWindow_feederAfter, loaded, feederAfter_of_judged whole]

theorem JudgedWindow.handsOver (judged : JudgedWindow s p) :
    feederOrder s = readingOrder p (readingOf p.fullScale s.feeder.windowSum) s.feeder := by
  obtain ⟨-, loaded, whole⟩ := judged
  exact feederOrder_of_judged loaded whole

/-- The Feeder Watch after a window in band while the sense is VALID (R119, R122, R123). -/
theorem JudgedWindow.feeder_inBand (judged : JudgedWindow s p) (valid : s.feeder.sense = .valid) (low : 2040 ≤ s.feeder.windowSum)
    (high : s.feeder.windowSum ≤ 38880) (feederFirst : Bool) :
    (endFullWindow feederFirst s).feeder.sense = .valid ∧ (endFullWindow feederFirst s).feeder.outOfBandCount = 0 ∧
    (endFullWindow feederFirst s).feeder.overCount = nextOver p (feederFigure p s.feeder.windowSum) s.feeder.overCount ∧
    (endFullWindow feederFirst s).feeder.tripCount = nextTrip p (feederFigure p s.feeder.windowSum) s.feeder.tripCount ∧
    (endFullWindow feederFirst s).feeder.hushPending =
      (s.feeder.hushPending || nextTrip p (feederFigure p s.feeder.windowSum) s.feeder.tripCount == 2) := by
  rw [judged.feeder, readingOf_inBand low high]
  simp only [judgedFeeder, recordReading, startWindow, valid, and_self]

theorem JudgedWindow.handsOver_inBand (judged : JudgedWindow s p) (valid : s.feeder.sense = .valid) (low : 2040 ≤ s.feeder.windowSum)
    (high : s.feeder.windowSum ≤ 38880) : feederOrder s =
      if nextTrip p (feederFigure p s.feeder.windowSum) s.feeder.tripCount = 2 then some .zeroAndCurtail
      else if nextOver p (feederFigure p s.feeder.windowSum) s.feeder.overCount = 2 then some .halve
      else none := by
  rw [judged.handsOver, readingOf_inBand low high]
  simp only [readingOrder, valid]

/-! What the readings raise and capture. -/

theorem isRaised_noteTrip (f trip : Nat) (s : State) : isRaised .trip (noteTrip f trip s) = (isRaised .trip s || !(trip == 2)) := by
  unfold noteTrip
  split_ifs with again
  · rw [again, show (!(2 == 2)) = false from rfl, Bool.or_false]
    rfl
  · rw [isRaised_of_events (capture_events ..), isRaised_raise_self (by decide), beq_eq_false_iff_ne.mpr again, Bool.not_false, Bool.or_true]

theorem noteTrip_keeps {e : Event} (other : eventBit .trip ≠ eventBit e) (f trip : Nat) (s : State) :
    isRaised e (noteTrip f trip s) = isRaised e s := by
  unfold noteTrip
  split_ifs
  · rfl
  · rw [isRaised_of_events (capture_events ..), isRaised_raise_of_ne other]
    rfl

theorem isRaised_takeOrder (e : Event) (order : BorrowOrder) (s : State) : isRaised e (takeOrder order s) = isRaised e s :=
  isRaised_of_events (by rw [takeOrder_host]) e

theorem judgeLimits_overload (p : Profile) (f : Nat) (s : State) : isRaised .overload (judgeLimits p f s) =
    (isRaised .overload s || (nextOver p f s.feeder.overCount == 2 && !(s.feeder.overCount == 2))) := by
  have noted (w : FeederWatch) : isRaised .overload (noteOverload p f s.feeder.overCount { s with feeder := w }) =
      (isRaised .overload s || (nextOver p f s.feeder.overCount == 2 && !(s.feeder.overCount == 2))) := by
    rw [noteOverload, isRaised_raiseIf_self (by decide)]
    rfl
  unfold judgeLimits
  dsimp only
  split_ifs
  · rw [isRaised_takeOrder, noteTrip_keeps (by decide), noted]
  · rw [isRaised_takeOrder, noted]
  · exact noted _

theorem judgeLimits_trip (p : Profile) (f : Nat) (s : State) : isRaised .trip (judgeLimits p f s) =
    (isRaised .trip s || (nextTrip p f s.feeder.tripCount == 2 && !(s.feeder.tripCount == 2))) := by
  have noted (w : FeederWatch) : isRaised .trip (noteOverload p f s.feeder.overCount { s with feeder := w }) = isRaised .trip s := by
    rw [noteOverload, isRaised_raiseIf_of_ne (by decide)]
    rfl
  unfold judgeLimits
  dsimp only
  split_ifs with trip
  · rw [isRaised_takeOrder, isRaised_noteTrip, noted, trip]
    rfl
  · rw [isRaised_takeOrder, noted, beq_eq_false_iff_ne.mpr trip, Bool.false_and, Bool.or_false]
  · rw [noted, beq_eq_false_iff_ne.mpr trip, Bool.false_and, Bool.or_false]

/-- The state at which the limits are judged. -/
def limitsFound (p : Profile) (s : State) : State := { recorded p s with feeder.outOfBandCount := 0 }

theorem judgeReading_of_limits {f : Nat} (valid : s.feeder.sense = .valid) :
    judgeReading p (.inBand f) s = judgeLimits p f { s with feeder.outOfBandCount := 0 } := by
  simp only [judgeReading, valid]

theorem feederFullWindow_host_inBand (loaded : s.host.profile = some p) (whole : s.feeder.partialWindow = false)
    (valid : s.feeder.sense = .valid) (low : 2040 ≤ s.feeder.windowSum) (high : s.feeder.windowSum ≤ 38880) :
    (feederFullWindow s).host = (judgeLimits p (feederFigure p s.feeder.windowSum) (limitsFound p s)).host := by
  rw [feederFullWindow_of_judged loaded whole, readingOf_inBand low high]
  dsimp only
  rw [judgeReading_of_limits (s := recorded p s) valid]
  rfl

/-- A trip fills the fault store (R123, R171). -/
theorem judgeLimits_fills {f : Nat} (trips : nextTrip p f s.feeder.tripCount = 2) (first : s.feeder.tripCount ≠ 2) :
    (judgeLimits p f s).host.firstFault ≠ none ∧ (s.host.firstFault = none →
      (judgeLimits p f s).host.firstFault = some ⟨.trip, none, s.census.number, s.census.windowIndex, f⟩) := by
  unfold judgeLimits
  dsimp only
  rw [if_pos trips, takeOrder_host, noteTrip, if_neg first, noteOverload, raiseIf_eq]
  refine ⟨capture_fills _ _ _ _, fun empty => ?_⟩
  rw [capture_of_empty _ _ _ (by exact empty)]
  rfl

theorem isRaised_loseSense (sum : Nat) (s : State) : isRaised .senseLost (loseSense sum s) = true := by
  rw [loseSense, isRaised_of_events (capture_events ..), isRaised_raise_self (by decide)]

theorem loseSense_captures (sum : Nat) (s : State) :
    (loseSense sum s).host.firstFault ≠ none ∧ (s.host.firstFault = none →
      (loseSense sum s).host.firstFault = some ⟨.senseLost, none, s.census.number, s.census.windowIndex, sum⟩) := by
  rw [loseSense]
  refine ⟨capture_fills _ _ _ _, fun empty => ?_⟩
  have store : (raise .senseLost (takeOrder .zero { s with
      feeder.sense := .lost
      feeder.outOfBandCount := 0
      feeder.inBandCount := 0
      feeder.overCount := 0
      feeder.tripCount := 0 })).host.firstFault = none := by
    show (takeOrder .zero _).host.firstFault = none
    rw [takeOrder_host]
    exact empty
  rw [capture_of_empty _ _ _ store]
  show some (FaultRecord.mk _ _ (takeOrder .zero _).census.number (takeOrder .zero _).census.windowIndex _) = _
  rw [takeOrder_census]

/-! Both orders of the blocks. -/

/-- What the Feeder Watch raises at a full window end it raises in either order of the blocks. -/
theorem isRaised_endFullWindow {e : Event} {raises : Bool} (feederFirst : Bool) (own : eventBit e ≤ 10)
    (feeder : ∀ x : State, x.host.profile = s.host.profile → x.feeder = s.feeder →
      isRaised e (feederFullWindow x) = (isRaised e x || raises)) :
    isRaised e (endFullWindow feederFirst s) = (isRaised e s || raises) := by
  have outlets (x : State) : isRaised e (outletsFullWindow x) = isRaised e x :=
    forOutlets_keeps (fun t => isRaised e t = isRaised e x) superviseOutlet (fun k t same =>
      (isRaised_superviseOutlet (show 13 + 5 * k ≠ eventBit e by omega) (show 14 + 5 * k ≠ eventBit e by omega)
        (show 15 + 5 * k ≠ eventBit e by omega) t).trans same) _ _ rfl
  rw [isRaised_of_events (t := endFullWindow feederFirst s) (s := windowTaken feederFirst s) (by rw [endFullWindow_host]), windowTaken]
  split
  · rw [outlets, feeder s rfl rfl]
  · have frame := outletsFullWindow_frame s
    rw [feeder _ frame.profile frame.feeder, outlets]

/-- A capture of the Feeder Watch stands, and where it comes first on an empty store it is the record. -/
theorem endFullWindow_captures {r : FaultRecord} (feederFirst : Bool)
    (fills : ∀ x : State, x.host.profile = s.host.profile → x.feeder = s.feeder → (feederFullWindow x).host.firstFault ≠ none)
    (record : s.host.firstFault = none → (feederFullWindow s).host.firstFault = some r) :
    (endFullWindow feederFirst s).host.firstFault ≠ none ∧
    (s.host.firstFault = none → feederFirst = true → (endFullWindow feederFirst s).host.firstFault = some r) := by
  have frame := outletsFullWindow_frame s
  rw [endFullWindow_host, windowTaken]
  constructor
  · split
    · exact (outletsFullWindow_keepsFaults (FaultsKept.refl _)).filled (fills s rfl rfl)
    · exact fills _ frame.profile frame.feeder
  · intro empty first
    rw [if_pos first]
    exact (outletsFullWindow_keepsFaults (FaultsKept.refl _)).firstFault (record empty)

theorem JudgedWindow.overload_raised (judged : JudgedWindow s p) (valid : s.feeder.sense = .valid) (low : 2040 ≤ s.feeder.windowSum)
    (high : s.feeder.windowSum ≤ 38880) (feederFirst : Bool) : isRaised .overload (endFullWindow feederFirst s) =
      (isRaised .overload s || (nextOver p (feederFigure p s.feeder.windowSum) s.feeder.overCount == 2 && !(s.feeder.overCount == 2))) := by
  obtain ⟨-, loaded, whole⟩ := judged
  refine isRaised_endFullWindow feederFirst (by decide) fun x profile feeder => ?_
  have host := feederFullWindow_host_inBand (s := x) (profile.trans loaded) (by rw [feeder]; exact whole) (by rw [feeder]; exact valid)
    (by rw [feeder]; exact low) (by rw [feeder]; exact high)
  rw [isRaised_of_events (congrArg HostLink.events host), judgeLimits_overload, ← feeder]
  rfl

theorem JudgedWindow.trip_raised (judged : JudgedWindow s p) (valid : s.feeder.sense = .valid) (low : 2040 ≤ s.feeder.windowSum)
    (high : s.feeder.windowSum ≤ 38880) (feederFirst : Bool) : isRaised .trip (endFullWindow feederFirst s) =
      (isRaised .trip s || (nextTrip p (feederFigure p s.feeder.windowSum) s.feeder.tripCount == 2 && !(s.feeder.tripCount == 2))) := by
  obtain ⟨-, loaded, whole⟩ := judged
  refine isRaised_endFullWindow feederFirst (by decide) fun x profile feeder => ?_
  have host := feederFullWindow_host_inBand (s := x) (profile.trans loaded) (by rw [feeder]; exact whole) (by rw [feeder]; exact valid)
    (by rw [feeder]; exact low) (by rw [feeder]; exact high)
  rw [isRaised_of_events (congrArg HostLink.events host), judgeLimits_trip, ← feeder]
  rfl

theorem JudgedWindow.trip_captured (judged : JudgedWindow s p) (valid : s.feeder.sense = .valid) (low : 2040 ≤ s.feeder.windowSum)
    (high : s.feeder.windowSum ≤ 38880) (trips : nextTrip p (feederFigure p s.feeder.windowSum) s.feeder.tripCount = 2)
    (first : s.feeder.tripCount ≠ 2) (feederFirst : Bool) :
    (endFullWindow feederFirst s).host.firstFault ≠ none ∧
    (s.host.firstFault = none → feederFirst = true → (endFullWindow feederFirst s).host.firstFault =
      some ⟨.trip, none, s.census.number, s.census.windowIndex, feederFigure p s.feeder.windowSum⟩) := by
  obtain ⟨-, loaded, whole⟩ := judged
  have filled (x : State) (profile : x.host.profile = s.host.profile) (feeder : x.feeder = s.feeder) :=
    judgeLimits_fills (p := p) (s := limitsFound p x) (f := feederFigure p x.feeder.windowSum) (by rw [feeder, ← trips, ← feeder]; rfl)
      (by rw [← feeder] at first; exact first)
  have host (x : State) (profile : x.host.profile = s.host.profile) (feeder : x.feeder = s.feeder) :=
    feederFullWindow_host_inBand (s := x) (profile.trans loaded) (by rw [feeder]; exact whole) (by rw [feeder]; exact valid)
      (by rw [feeder]; exact low) (by rw [feeder]; exact high)
  refine endFullWindow_captures feederFirst (fun x profile feeder => ?_) fun empty => ?_
  · rw [host x profile feeder]
    exact (filled x profile feeder).1
  · rw [host s rfl rfl]
    exact (filled s rfl rfl).2 empty

end

end Sys2Proof.Machine
end

section
/-! PROOFS. Sense, overload and trip at a full window end (R119 to R125): obligations O26, O27 and O28. -/

set_option Elab.async false

namespace Sys2Proof.Machine

section
variable {p : Profile} {s t : State} {n : Nat} {o o' : Outlet} {feederFirst : Bool} {order : BorrowOrder}

/-! B at the end of the event. -/

theorem inPair_borrowOp (order : BorrowOrder) (o : Outlet) : inPair (borrowOp order o).session.state = inPair o.session.state := by
  rw [borrowOp_eq]

/-- B after an order, whichever block comes first. -/
theorem endFullWindow_ordered_borrow (feederFirst : Bool) (loaded : s.host.profile = some p) (given : feederOrder s = some order)
    (found : s.outlets[n]? = some o) (found' : (endFullWindow feederFirst s).outlets[n]? = some o') :
    if feederFirst then BorrowKept (borrowOp order o) o'
    else ∃ v, (outletsFullWindow s).outlets[n]? = some v ∧ BorrowKept o v ∧ o'.share.b = (borrowOp order v).share.b ∧
      inPair o'.session.state = inPair v.session.state := by
  rw [endFullWindow_outlets, windowTaken] at found'
  cases feederFirst with
  | true =>
    have first := feederFullWindow_at loaded given found
    have kept := outletsFullWindow_borrow first found'
    exact kept.between (o := borrowOp order o) ⟨by rw [giveTarget_share], giveTarget_inPair ..⟩ ⟨rfl, rfl⟩
  | false =>
    have steps : OutletSteps (fun _ _ => True) s (outletsFullWindow s) := outletsFullWindow_steps (fun _ => trivial) (fun _ => trivial) s
    have within : n < (outletsFullWindow s).outlets.length := by
      rw [steps.length]
      exact (List.getElem?_eq_some_iff.mp found).1
    have foundV := List.getElem?_eq_getElem within
    have frame := outletsFullWindow_frame s
    have last := feederFullWindow_at (s := outletsFullWindow s) (frame.profile.trans loaded)
      ((feederOrder_congr frame.profile frame.feeder).trans given) foundV
    obtain rfl := Option.some.inj (last.symm.trans found')
    exact ⟨_, foundV, outletsFullWindow_borrow found foundV, by rw [giveTarget_share], (giveTarget_inPair ..).trans (inPair_borrowOp order _)⟩

/-- An order that zeroes B leaves none anywhere (R124, R135). -/
theorem endFullWindow_zeroed (feederFirst : Bool) (loaded : s.host.profile = some p) (given : feederOrder s = some order)
    (zeroes : order ≠ .halve) : ∀ o' ∈ (endFullWindow feederFirst s).outlets, o'.share.b = 0 := by
  have zero (o : Outlet) : (borrowOp order o).share.b = 0 := by
    cases order with
    | halve => exact absurd rfl zeroes
    | zero => rfl
    | zeroAndCurtail => rfl
  intro o' member
  obtain ⟨n, found'⟩ := List.mem_iff_getElem?.mp member
  have steps : OutletSteps (fun _ _ => True) s (endFullWindow feederFirst s) :=
    endFullWindow_steps (fun _ => trivial) (fun _ => trivial) feederFirst s
  have within : n < s.outlets.length := by
    rw [← steps.length]
    exact (List.getElem?_eq_some_iff.mp found').1
  have ordered := endFullWindow_ordered_borrow feederFirst loaded given (List.getElem?_eq_getElem within) found'
  cases feederFirst with
  | true => exact Nat.le_zero.mp (zero _ ▸ BorrowKept.le ordered)
  | false =>
    obtain ⟨v, -, -, b, -⟩ := ordered
    rw [b, zero]

theorem BorrowLaw.outside (law : BorrowLaw s) (found : s.outlets[n]? = some o) : inPair o.session.state = false → o.share.b = 0 := by
  obtain ⟨-, -, -, -, outside⟩ := law o (List.mem_of_getElem? found)
  exact outside

theorem BorrowLaw.halved (law : BorrowLaw s) (found : s.outlets[n]? = some o) : (borrowOp .halve o).share.b = o.share.b / 2 := by
  obtain ⟨most, -⟩ := law o (List.mem_of_getElem? found)
  show min (o.share.b / 2) (o.session.vanMax - o.share.g) = o.share.b / 2
  omega

/-- An overload halves B, unless the session leaves the pair at the same window end (R122, R133). -/
theorem endFullWindow_halved (feederFirst : Bool) (law : BorrowLaw s) (loaded : s.host.profile = some p) (given : feederOrder s = some .halve)
    (found : s.outlets[n]? = some o) (found' : (endFullWindow feederFirst s).outlets[n]? = some o') :
    o'.share.b = if inPair o'.session.state = true then o.share.b / 2 else 0 := by
  have ordered := endFullWindow_ordered_borrow feederFirst loaded given found found'
  cases feederFirst with
  | true =>
    have halved := law.halved found
    have outside := law.outside found
    have kept : BorrowKept (borrowOp .halve o) o' := ordered
    rw [kept.eq (fun out => ?_), halved]
    rw [halved, outside (inPair_borrowOp .halve o ▸ out)]
  | false =>
    obtain ⟨v, foundV, kept, b, pair⟩ := ordered
    rw [b, (outletsFullWindow_keepsBorrow law).halved foundV, kept.eq (law.outside found), pair]
    split_ifs <;> rfl

/-- Without an order B goes down with the pair alone (R107). -/
theorem endFullWindow_borrow (feederFirst : Bool) (none : feederOrder s = none) (found : s.outlets[n]? = some o)
    (found' : (endFullWindow feederFirst s).outlets[n]? = some o') : BorrowKept o o' := by
  obtain ⟨-, t, outlets, same, -⟩ := windowTaken_of_noOrder feederFirst none
  rw [endFullWindow_outlets, outlets] at found'
  exact outletsFullWindow_borrow (s := t) (by rw [same]; exact found) found'

theorem endFullWindow_curtail (feederFirst : Bool) (kept : feederOrder s = none ∨ feederOrder s = some .halve) :
    (endFullWindow feederFirst s).shares.curtail = s.shares.curtail := by
  rcases kept with none | given
  · obtain ⟨shares, -⟩ := windowTaken_of_noOrder feederFirst none
    rw [endFullWindow_shares, shares]
  · obtain ⟨p, loaded⟩ := feederOrder_of_profile given
    exact (endFullWindow_orderTaken feederFirst loaded given).1

/-! The rows. -/

theorem exec_senseLost (feederFirst : Bool) (out : s.host.resetHeld = []) :
    exec (.senseLost feederFirst) s = .next (onlyWhere becomesLost (endFullWindow feederFirst) s) :=
  congrArg Host.Outcome.next (whenRunning_of_outOfReset out _)

theorem exec_senseBack (feederFirst : Bool) (out : s.host.resetHeld = []) :
    exec (.senseBack feederFirst) s = .next (onlyWhere becomesValid (endFullWindow feederFirst) s) :=
  congrArg Host.Outcome.next (whenRunning_of_outOfReset out _)

theorem exec_overload (feederFirst : Bool) (out : s.host.resetHeld = []) :
    exec (.overload feederFirst) s = .next (if takesOverload s then endFullWindow feederFirst s else s) :=
  congrArg Host.Outcome.next (whenRunning_of_outOfReset out _)

theorem exec_trip (feederFirst : Bool) (out : s.host.resetHeld = []) :
    exec (.trip feederFirst) s = .next (if takesTrip s then endFullWindow feederFirst s else s) :=
  congrArg Host.Outcome.next (whenRunning_of_outOfReset out _)

theorem JudgedWindow.takesOverload_iff (judged : JudgedWindow s p) (valid : s.feeder.sense = .valid) (low : 2040 ≤ s.feeder.windowSum)
    (high : s.feeder.windowSum ≤ 38880) :
    takesOverload s = true ↔ nextOver p (feederFigure p s.feeder.windowSum) s.feeder.overCount = 2 := by
  obtain ⟨-, loaded, whole⟩ := judged
  unfold takesOverload
  rw [loaded]
  dsimp only
  rw [readingOf_inBand low high, valid]
  dsimp only
  rw [whole, Bool.not_false, Bool.true_and, beq_iff_eq]

theorem JudgedWindow.takesTrip_iff (judged : JudgedWindow s p) (valid : s.feeder.sense = .valid) (low : 2040 ≤ s.feeder.windowSum)
    (high : s.feeder.windowSum ≤ 38880) :
    takesTrip s = true ↔ nextTrip p (feederFigure p s.feeder.windowSum) s.feeder.tripCount = 2 := by
  obtain ⟨-, loaded, whole⟩ := judged
  unfold takesTrip
  rw [loaded]
  dsimp only
  rw [readingOf_inBand low high, valid]
  dsimp only
  rw [whole, Bool.not_false, Bool.true_and, beq_iff_eq]

/-! O26: the sense. -/

theorem JudgedWindow.readingOrder_outOfBand (judged : JudgedWindow s p) (valid : s.feeder.sense = .valid)
    (out : s.feeder.windowSum < 2040 ∨ 38880 < s.feeder.windowSum) :
    feederOrder s = if 2 ≤ s.feeder.outOfBandCount + 1 then some .zero else none := by
  rw [judged.handsOver, readingOf_outOfBand out]
  simp only [readingOrder, valid]

/-- The Feeder Watch's window that loses the sense. -/
theorem feederFullWindow_host_lost (loaded : s.host.profile = some p) (whole : s.feeder.partialWindow = false)
    (valid : s.feeder.sense = .valid) (out : s.feeder.windowSum < 2040 ∨ 38880 < s.feeder.windowSum) :
    (feederFullWindow s).host = if 2 ≤ s.feeder.outOfBandCount + 1 then (loseSense s.feeder.windowSum (recorded p s)).host else s.host := by
  have sense : (recorded p s).feeder.sense = .valid := valid
  rw [feederFullWindow_of_judged loaded whole, readingOf_outOfBand out]
  simp only [judgeReading, sense]
  show (if 2 ≤ s.feeder.outOfBandCount + 1 then _ else _ : State).host = _
  split_ifs <;> rfl

/-- The Feeder Watch's window in band or out of it while the sense is LOST. -/
theorem feederFullWindow_host_back (loaded : s.host.profile = some p) (whole : s.feeder.partialWindow = false) (lost : s.feeder.sense = .lost) :
    (feederFullWindow s).host = if 7 ≤ s.feeder.inBandCount ∧ 2040 ≤ s.feeder.windowSum ∧ s.feeder.windowSum ≤ 38880 then
      (raise .senseBack s).host else s.host := by
  have sense : (recorded p s).feeder.sense = .lost := lost
  rw [feederFullWindow_of_judged loaded whole]
  by_cases within : 2040 ≤ s.feeder.windowSum ∧ s.feeder.windowSum ≤ 38880
  · rw [readingOf_eq, if_pos within]
    simp only [judgeReading, sense]
    show (if 8 ≤ s.feeder.inBandCount + 1 then _ else _ : State).host = _
    by_cases eighth : 8 ≤ s.feeder.inBandCount + 1
    · rw [if_pos eighth, if_pos ⟨by omega, within⟩]
      rfl
    · rw [if_neg eighth, if_neg (by omega)]
      rfl
  · rw [readingOf_eq, if_neg within, if_neg (fun all => within all.2)]
    simp only [judgeReading, sense]
    rfl

theorem JudgedWindow.senseLost_raised (judged : JudgedWindow s p) (valid : s.feeder.sense = .valid)
    (out : s.feeder.windowSum < 2040 ∨ 38880 < s.feeder.windowSum) (feederFirst : Bool) :
    isRaised .senseLost (endFullWindow feederFirst s) = (isRaised .senseLost s || decide (1 ≤ s.feeder.outOfBandCount)) := by
  obtain ⟨-, loaded, whole⟩ := judged
  refine isRaised_endFullWindow feederFirst (by decide) fun x profile feeder => ?_
  have host := feederFullWindow_host_lost (s := x) (profile.trans loaded) (by rw [feeder]; exact whole) (by rw [feeder]; exact valid)
    (by rw [feeder]; exact out)
  rw [isRaised, host, feeder]
  by_cases second : 1 ≤ s.feeder.outOfBandCount
  · rw [if_pos (by omega), decide_eq_true second, Bool.or_true]
    exact isRaised_loseSense _ _
  · rw [if_neg (by omega), decide_eq_false second, Bool.or_false]
    rfl

theorem JudgedWindow.senseLost_captured (judged : JudgedWindow s p) (valid : s.feeder.sense = .valid)
    (out : s.feeder.windowSum < 2040 ∨ 38880 < s.feeder.windowSum) (second : s.feeder.outOfBandCount = 1) (feederFirst : Bool) :
    (endFullWindow feederFirst s).host.firstFault ≠ none ∧
    (s.host.firstFault = none → feederFirst = true → (endFullWindow feederFirst s).host.firstFault =
      some ⟨.senseLost, none, s.census.number, s.census.windowIndex, s.feeder.windowSum⟩) := by
  obtain ⟨-, loaded, whole⟩ := judged
  have host (x : State) (profile : x.host.profile = s.host.profile) (feeder : x.feeder = s.feeder) :
      (feederFullWindow x).host = (loseSense x.feeder.windowSum (recorded p x)).host := by
    rw [feederFullWindow_host_lost (profile.trans loaded) (by rw [feeder]; exact whole) (by rw [feeder]; exact valid) (by rw [feeder]; exact out),
      if_pos (by rw [feeder, second])]
  refine endFullWindow_captures feederFirst (fun x profile feeder => ?_) fun empty => ?_
  · rw [host x profile feeder]
    exact (loseSense_captures _ _).1
  · rw [host s rfl rfl]
    exact (loseSense_captures _ _).2 empty

theorem JudgedWindow.senseBack_raised (judged : JudgedWindow s p) (lost : s.feeder.sense = .lost) (feederFirst : Bool) :
    isRaised .senseBack (endFullWindow feederFirst s) = (isRaised .senseBack s ||
      decide (7 ≤ s.feeder.inBandCount ∧ 2040 ≤ s.feeder.windowSum ∧ s.feeder.windowSum ≤ 38880)) := by
  obtain ⟨-, loaded, whole⟩ := judged
  refine isRaised_endFullWindow feederFirst (by decide) fun x profile feeder => ?_
  have host := feederFullWindow_host_back (s := x) (profile.trans loaded) (by rw [feeder]; exact whole) (by rw [feeder]; exact lost)
  rw [isRaised, host, feeder]
  split_ifs with back
  · rw [decide_eq_true back, Bool.or_true]
    exact isRaised_raise_self (by decide) x
  · rw [decide_eq_false back, Bool.or_false]
    rfl

/-- Settles O26: the sense follows its counts, and LOST comes with the order that zeroes B. -/
theorem senseIsLostAndRegained : Obligations.SenseIsLostAndRegained := by
  intro s p feederFirst judged
  have out := judged.out
  have loaded := judged.loaded
  have full := exec_fullWindowEnd feederFirst out
  have feeder := judged.feeder feederFirst
  have outOfBand (valid : s.feeder.sense = .valid) (away : s.feeder.windowSum < 2040 ∨ 38880 < s.feeder.windowSum) :
      (endFullWindow feederFirst s).feeder = startWindow (judgedFeeder p (.outOfBand s.feeder.windowSum)
        (recordReading s.census.windowIndex (.outOfBand s.feeder.windowSum) s.feeder)) := by rw [feeder, readingOf_outOfBand away]
  have notLost (zero : s.feeder.outOfBandCount = 0) (valid : s.feeder.sense = .valid) : (endFullWindow feederFirst s).feeder.sense = .valid := by
    by_cases within : 2040 ≤ s.feeder.windowSum ∧ s.feeder.windowSum ≤ 38880
    · obtain ⟨sense, -⟩ := judged.feeder_inBand valid within.1 within.2 feederFirst
      exact sense
    · rw [outOfBand valid (by omega)]
      simp only [judgedFeeder, recordReading, startWindow, valid]
      rw [if_neg (by omega)]
  have stillLost (lost : s.feeder.sense = .lost)
      (short : s.feeder.inBandCount < 7 ∨ s.feeder.windowSum < 2040 ∨ 38880 < s.feeder.windowSum) :
      (endFullWindow feederFirst s).feeder.sense = .lost ∧
      (endFullWindow feederFirst s).feeder.inBandCount =
        (if 2040 ≤ s.feeder.windowSum ∧ s.feeder.windowSum ≤ 38880 then s.feeder.inBandCount + 1 else 0) ∧
      (endFullWindow feederFirst s).feeder.overCount = s.feeder.overCount ∧
      (endFullWindow feederFirst s).feeder.tripCount = s.feeder.tripCount := by
    rw [feeder, readingOf_eq]
    by_cases within : 2040 ≤ s.feeder.windowSum ∧ s.feeder.windowSum ≤ 38880
    · rw [if_pos within, if_pos within]
      simp only [judgedFeeder, recordReading, startWindow, lost]
      rw [if_neg (by omega)]
      exact ⟨rfl, rfl, rfl, rfl⟩
    · rw [if_neg within, if_neg within]
      simp only [judgedFeeder, recordReading, startWindow, lost, and_self]
  have noBack (lost : s.feeder.sense = .lost)
      (short : s.feeder.inBandCount < 7 ∨ s.feeder.windowSum < 2040 ∨ 38880 < s.feeder.windowSum) :
      exec (.senseBack feederFirst) s = .next s := by
    rw [exec_senseBack feederFirst out, onlyWhere_of_not]
    obtain ⟨sense, -⟩ := stillLost lost short
    rw [becomesValid, sense, lost]
    rfl
  have noLoss (valid : s.feeder.sense = .valid) (zero : s.feeder.outOfBandCount = 0) : exec (.senseLost feederFirst) s = .next s := by
    rw [exec_senseLost feederFirst out, onlyWhere_of_not]
    rw [becomesLost, notLost zero valid, valid]
    rfl
  refine ⟨fun valid second away => ?_, fun lost seven low high => ?_, fun valid zero away => ?_, fun valid low high => ?_,
    fun lost short => ?_, noLoss, fun lost few => noBack lost (.inl few)⟩
  · have after := outOfBand valid away
    have given : feederOrder s = some .zero := by rw [judged.readingOrder_outOfBand valid away, if_pos (by omega)]
    have counts : (endFullWindow feederFirst s).feeder.sense = .lost ∧ (endFullWindow feederFirst s).feeder.outOfBandCount = 0 ∧
        (endFullWindow feederFirst s).feeder.inBandCount = 0 ∧ (endFullWindow feederFirst s).feeder.overCount = 0 ∧
        (endFullWindow feederFirst s).feeder.tripCount = 0 ∧
        (endFullWindow feederFirst s).feeder.hushPending = s.feeder.hushPending := by
      rw [after]
      simp only [judgedFeeder, recordReading, startWindow, valid]
      rw [if_pos (by omega)]
      exact ⟨rfl, rfl, rfl, rfl, rfl, rfl⟩
    obtain ⟨sense, outCount, inCount, overs, trip, hush⟩ := counts
    have becomes : becomesLost s (endFullWindow feederFirst s) = true := by
      rw [becomesLost, valid, sense]
      rfl
    obtain ⟨filled, record⟩ := judged.senseLost_captured valid away second feederFirst
    obtain ⟨-, ordered⟩ := endFullWindow_orderTaken feederFirst loaded given
    refine ⟨_, ⟨by rw [exec_senseLost feederFirst out, onlyWhere_of_outcome becomes], full⟩, sense, outCount, inCount, overs, trip, hush,
      endFullWindow_zeroed feederFirst loaded given nofun, ordered, ?_, filled, record⟩
    rw [Flagged, judged.senseLost_raised valid away, second]
    exact Bool.or_true _
  · have within : 2040 ≤ s.feeder.windowSum ∧ s.feeder.windowSum ≤ 38880 := ⟨low, high⟩
    have counts : (endFullWindow feederFirst s).feeder.sense = .valid ∧ (endFullWindow feederFirst s).feeder.outOfBandCount = 0 ∧
        (endFullWindow feederFirst s).feeder.inBandCount = 0 ∧ (endFullWindow feederFirst s).feeder.overCount = s.feeder.overCount ∧
        (endFullWindow feederFirst s).feeder.tripCount = s.feeder.tripCount := by
      rw [feeder, readingOf_eq, if_pos within]
      simp only [judgedFeeder, recordReading, startWindow, lost]
      rw [if_pos (by omega)]
      exact ⟨rfl, rfl, rfl, rfl, rfl⟩
    obtain ⟨sense, outCount, inCount, overs, trip⟩ := counts
    have becomes : becomesValid s (endFullWindow feederFirst s) = true := by
      rw [becomesValid, lost, sense]
      rfl
    have none : feederOrder s = none := by
      rw [judged.handsOver, readingOf_inBand low high]
      simp only [readingOrder, lost]
    refine ⟨_, ⟨by rw [exec_senseBack feederFirst out, onlyWhere_of_outcome becomes], full⟩, sense, outCount, inCount, overs, trip, ?_,
      fun n o o' found found' => (endFullWindow_borrow feederFirst none found found').le⟩
    rw [Flagged, judged.senseBack_raised lost, decide_eq_true ⟨seven.ge, within⟩]
    exact Bool.or_true _
  · have after := outOfBand valid away
    refine ⟨_, full, notLost zero valid, ?_, ?_, ?_, ?_⟩
    · rw [after]
      simp only [judgedFeeder, recordReading, startWindow, valid]
      rw [if_neg (by omega), zero]
    · rw [after]
      simp only [judgedFeeder, recordReading, startWindow, valid]
      rw [if_neg (by omega)]
    · rw [after]
      simp only [judgedFeeder, recordReading, startWindow, valid]
      rw [if_neg (by omega)]
    · rw [judged.senseLost_raised valid away, zero]
      exact Bool.or_false _
  · obtain ⟨sense, outCount, -⟩ := judged.feeder_inBand valid low high feederFirst
    exact ⟨_, full, sense, outCount⟩
  · obtain ⟨sense, count, overs, trip⟩ := stillLost lost short
    refine ⟨noBack lost short, _, full, sense, count, overs, trip, ?_⟩
    rw [judged.senseBack_raised lost, decide_eq_false (by omega), Bool.or_false]

/-- Settles O27: the over count is that of the window, and the order that comes with it is the halving, or the trip's. -/
theorem overloadHalvesBorrow : Obligations.OverloadHalvesBorrow := by
  intro s p feederFirst judged law valid low high
  have out := judged.out
  have loaded := judged.loaded
  have full := exec_fullWindowEnd feederFirst out
  obtain ⟨-, -, overCount, tripCount, hush⟩ := judged.feeder_inBand valid low high feederFirst
  have raised := judged.overload_raised valid low high feederFirst
  have takes := judged.takesOverload_iff valid low high
  have handsOver := judged.handsOver_inBand valid low high
  have overs := nextOver_eq_two p (feederFigure p s.feeder.windowSum) s.feeder.overCount
  have trip := nextTrip_eq_two p (feederFigure p s.feeder.windowSum) s.feeder.tripCount
  have row (taken : nextOver p (feederFigure p s.feeder.windowSum) s.feeder.overCount = 2) :
      exec (.overload feederFirst) s = .next (endFullWindow feederFirst s) := by rw [exec_overload feederFirst out, if_pos (takes.mpr taken)]
  have first (taken : nextOver p (feederFigure p s.feeder.windowSum) s.feeder.overCount = 2) (one : s.feeder.overCount = 1) :
      Flagged (endFullWindow feederFirst s) .overload := by
    rw [one] at taken
    rw [Flagged, raised, one, taken]
    exact Bool.or_true _
  have again (two : s.feeder.overCount = 2) : isRaised .overload (endFullWindow feederFirst s) = isRaised .overload s := by
    rw [raised, two, show (2 == 2) = true from rfl, Bool.not_true, Bool.and_false, Bool.or_false]
  refine ⟨fun above least most within => ?_, fun above least most least' most' => ?_, fun short => ?_⟩
  · have taken := overs.mpr ⟨above, least⟩
    have noTrip : nextTrip p (feederFigure p s.feeder.windowSum) s.feeder.tripCount ≠ 2 := fun two => by
      obtain ⟨beyond, some⟩ := trip.mp two
      omega
    have given : feederOrder s = some .halve := by rw [handsOver, if_neg noTrip, if_pos taken]
    obtain ⟨-, ordered⟩ := endFullWindow_orderTaken feederFirst loaded given
    refine ⟨_, ⟨row taken, full⟩, overCount.trans taken, endFullWindow_curtail feederFirst (.inr given), ?_, first taken, again,
      fun n o o' found found' => endFullWindow_halved feederFirst law loaded given found found', ordered⟩
    rw [hush, beq_eq_false_iff_ne.mpr noTrip, Bool.or_false]
  · have taken := overs.mpr ⟨by omega, least⟩
    have trips := trip.mpr ⟨above, least'⟩
    have given : feederOrder s = some .zeroAndCurtail := by rw [handsOver, if_pos trips]
    obtain ⟨curtail, ordered⟩ := endFullWindow_orderTaken feederFirst loaded given
    refine ⟨_, ⟨row taken, full⟩, overCount.trans taken, tripCount.trans trips, curtail, ?_, endFullWindow_zeroed feederFirst loaded given nofun,
      ordered, first taken, again⟩
    rw [hush, trips]
    exact Bool.or_true _
  · have noOver : nextOver p (feederFigure p s.feeder.windowSum) s.feeder.overCount ≠ 2 := fun two => by
      obtain ⟨above, some⟩ := overs.mp two
      omega
    have noTrip : nextTrip p (feederFigure p s.feeder.windowSum) s.feeder.tripCount ≠ 2 := fun two => by
      obtain ⟨beyond, some⟩ := trip.mp two
      omega
    have none : feederOrder s = none := by rw [handsOver, if_neg noTrip, if_neg noOver]
    refine ⟨?_, _, full, ?_, endFullWindow_curtail feederFirst (.inl none), ?_, ?_, fun n o o' found found' =>
      (endFullWindow_borrow feederFirst none found found').eq (law.outside found)⟩
    · rw [exec_overload feederFirst out, if_neg (fun taken => noOver (takes.mp taken))]
    · rw [overCount]
      unfold nextOver
      split_ifs with above
      · omega
      · rfl
    · rw [hush, beq_eq_false_iff_ne.mpr noTrip, Bool.or_false]
    · rw [raised, beq_eq_false_iff_ne.mpr noOver, Bool.false_and, Bool.or_false]

/-- Settles O28: the trip count is that of the window, its order zeroes and curtails, and the hush it leaves pending is served where it can be. -/
theorem tripZeroesBorrowAndCurtails : Obligations.TripZeroesBorrowAndCurtails := by
  intro s p feederFirst judged valid low high
  have out := judged.out
  have loaded := judged.loaded
  have full := exec_fullWindowEnd feederFirst out
  obtain ⟨-, -, -, tripCount, hush⟩ := judged.feeder_inBand valid low high feederFirst
  have raised := judged.trip_raised valid low high feederFirst
  have takes := judged.takesTrip_iff valid low high
  have handsOver := judged.handsOver_inBand valid low high
  have overs := nextOver_eq_two p (feederFigure p s.feeder.windowSum) s.feeder.overCount
  have trip := nextTrip_eq_two p (feederFigure p s.feeder.windowSum) s.feeder.tripCount
  refine ⟨fun above least most => ?_, fun short => ?_⟩
  · have trips := trip.mpr ⟨above, least⟩
    have given : feederOrder s = some .zeroAndCurtail := by rw [handsOver, if_pos trips]
    obtain ⟨curtail, ordered⟩ := endFullWindow_orderTaken feederFirst loaded given
    have pending : (endFullWindow feederFirst s).feeder.hushPending = true := by
      rw [hush, trips]
      exact Bool.or_true _
    obtain ⟨-, stands⟩ := endFullWindow_line feederFirst s
    refine ⟨_, ⟨by rw [exec_trip feederFirst out, if_pos (takes.mpr trips)], full⟩, tripCount.trans trips, curtail, pending,
      endFullWindow_zeroed feederFirst loaded given nofun, ordered, fun rate free idle expired => ?_, fun blocked => stands ?_,
      fun one => ?_, fun one => ⟨?_, ?_⟩, fun one => ?_, fun two => ?_⟩
    · have frame := windowTaken_frame feederFirst s
      have line : (windowClosed feederFirst s).line = s.line := by rw [windowClosed, frame]
      have sampled : LineSampled (windowClosed feederFirst s) := by
        rw [LineSampled, windowClosed, frame]
        exact ⟨out, rate⟩
      have wants : (windowClosed feederFirst s).feeder.hushPending = true := (endFullWindow_feeder feederFirst s ▸ pending :)
      obtain ⟨serves, -⟩ := serve_line sampled (by rw [line]; exact free) (by rw [line]; exact idle)
      rw [endFullWindow_eq, serves wants (by rw [line]; exact expired)]
      dsimp only
      rw [line]
    · rcases blocked with notFree | driven | ⟨waits, noStart⟩
      · exact .inl notFree
      · exact .inr (.inl driven)
      · exact .inr (.inr ⟨.inr waits, noStart⟩)
    · have taken := overs.mpr ⟨by omega, one.ge⟩
      rw [one] at taken
      rw [Flagged, judged.overload_raised valid low high, one, taken]
      exact Bool.or_true _
    · rw [one] at trips
      rw [Flagged, raised, one, trips]
      exact Bool.or_true _
    · exact (judged.trip_captured valid low high trips (by omega) feederFirst).1
    · exact (judged.trip_captured valid low high trips (by omega) feederFirst).2
    · rw [raised, two, show (2 == 2) = true from rfl, Bool.not_true, Bool.and_false, Bool.or_false]
  · have noTrip : nextTrip p (feederFigure p s.feeder.windowSum) s.feeder.tripCount ≠ 2 := fun two => by
      obtain ⟨beyond, some⟩ := trip.mp two
      omega
    refine ⟨?_, _, full, ?_, endFullWindow_curtail feederFirst ?_, ?_, ?_⟩
    · rw [exec_trip feederFirst out, if_neg (fun taken => noTrip (takes.mp taken))]
    · rw [tripCount]
      unfold nextTrip
      split_ifs with above
      · omega
      · rfl
    · rw [handsOver, if_neg noTrip]
      split_ifs
      · exact .inr rfl
      · exact .inl rfl
    · rw [hush, beq_eq_false_iff_ne.mpr noTrip, Bool.or_false]
    · rw [raised, beq_eq_false_iff_ne.mpr noTrip, Bool.false_and, Bool.or_false]

end

end Sys2Proof.Machine
end

section
/-! PROOFS. A STALLED session at a full window end (R8, R155): its return to the pair, and obligation O31. -/

set_option Elab.async false

namespace Sys2Proof.Machine

section
variable {p : Profile} {profile : Option Profile} {s t w y : State} {n k : Nat} {o o' u v x r : Outlet} {feederFirst : Bool}

/-! The turn of a session that is not faulted for its draw. -/

/-- Overdraw does not fault the session at this window end (R153). -/
def Spared (o : Outlet) : Prop := o.supervision.overdrawCount < 3 ∨ o.meter.windowCount ≤ ceilingAtEnd o + 20

theorem Lowered.spared (lowered : Lowered (meterFullWindow o) u) (spared : Spared o) :
    (enterHistory u).supervision.overdrawCount < 3 ∨ overdraws (enterHistory u) = false := by
  rcases spared with few | within
  · left
    show u.supervision.overdrawCount < 3
    rw [lowered.supervision]
    exact few
  · right
    rw [Bool.eq_false_iff, ne_eq, lowered.overdraws_iff]
    omega

/-- The record that a session not faulted for its draw brings to the judgement of its response. -/
theorem overdrawRecord_of_spared (spared : u.supervision.overdrawCount < 3 ∨ overdraws u = false) :
    overdrawRecord u = { u with supervision.overdrawCount := nextOverdraw u } := by
  rcases overdrawRecord_cases u with ⟨-, draws, last, -⟩ | ⟨-, h⟩
  · rw [draws] at spared
    exact absurd (spared.resolve_right nofun) (by omega)
  · exact h

theorem rampOutlet_stallCount (p : Profile) (zero : u.supervision.stallCount = 0) : (rampOutlet p u).supervision.stallCount = 0 := by
  rcases rampOutlet_cases p u with h | ⟨-, -, h⟩ | ⟨-, h⟩ <;> rw [h]
  · exact zero
  · exact zero

theorem rampOutlet_unstallCount (p : Profile) (u : Outlet) : (rampOutlet p u).supervision.unstallCount = u.supervision.unstallCount := by
  rcases rampOutlet_cases p u with h | ⟨-, -, h⟩ | ⟨-, h⟩ <;> rw [h]

theorem Lowered.stallCount (lowered : Lowered u v) (zero : u.supervision.stallCount = 0) : v.supervision.stallCount = 0 := by
  rcases lowered.state with ⟨-, same⟩ | ⟨-, -, -, -, none⟩
  · exact same.trans zero
  · exact none

theorem Lowered.unstallCount (lowered : Lowered u v) : v.supervision.unstallCount = u.supervision.unstallCount := by rw [lowered.supervision]

theorem Lowered.g (lowered : Lowered u v) : v.share.g = u.share.g := by rw [lowered.share]

/-- B does not rise at a full window end (R135, R158). -/
theorem WindowTurn.borrow_le (turn : WindowTurn n feederFirst s o w u v o') : o'.share.b ≤ o.share.b := by
  obtain ⟨x, responds, ramps⟩ := superviseOutlet_at turn.foundBefore turn.foundAfter
  have first : u.share.b ≤ o.share.b := turn.before.borrow
  have response : x.share.b ≤ u.share.b := responds.borrowKept.le
  obtain ⟨ramped, -⟩ := ramps.borrow
  obtain ⟨-, released, -⟩ := releaseRecord_keeps u.session.state x
  have last := turn.after.borrow
  rw [released] at ramped
  omega

/-- What a ramp and the recomputations around it leave of a record with no stall count. -/
theorem Ramps.rests (ramps : Ramps profile u v) (zero : u.supervision.stallCount = 0) :
    v.supervision.stallCount = 0 ∧ v.supervision.unstallCount = u.supervision.unstallCount ∧ v.share.g = u.share.g ∧
    inPair v.session.state = inPair u.session.state := by
  obtain ⟨-, pair⟩ := ramps.borrow
  rcases ramps with ⟨-, rfl⟩ | ⟨p, -, lowered, -, -⟩
  · exact ⟨zero, rfl, rfl, rfl⟩
  · exact ⟨lowered.stallCount (rampOutlet_stallCount p zero), lowered.unstallCount.trans (rampOutlet_unstallCount p u),
      lowered.g.trans (by rw [rampOutlet_share]), pair⟩

theorem judgeResponse_stalls (found : s.outlets[n]? = some u) (charging : u.session.state = .charging) (low : drawOf u < 10)
    (last : 239 ≤ u.supervision.stallCount) : judgeResponse n s = enterStalled n s := by
  unfold judgeResponse
  rw [found]
  dsimp only
  rw [charging]
  dsimp only
  rw [judgeStall, if_pos low, if_pos (Nat.succ_le_succ last)]

theorem judgeResponse_unstalls (found : s.outlets[n]? = some u) (stalled : u.session.state = .stalled) (draws : 20 ≤ drawOf u)
    (last : 3 ≤ u.supervision.unstallCount) : judgeResponse n s = leaveStalled n s := by
  unfold judgeResponse
  rw [found]
  dsimp only
  rw [stalled]
  dsimp only
  rw [judgeUnstall, if_pos draws, if_pos (Nat.succ_le_succ last)]

/-- A response that takes the session to another state is handed to the Share Engine, which sets the tables' bounds (R5, R141). -/
theorem judgeResponse_setsTable (loaded : s.host.profile = some p) (found : s.outlets[n]? = some u)
    (changes : (u.session.state = .charging ∧ drawOf u < 10 ∧ 239 ≤ u.supervision.stallCount) ∨
      (u.session.state = .stalled ∧ 20 ≤ drawOf u ∧ 3 ≤ u.supervision.unstallCount)) : TableBounds p (judgeResponse n s) := by
  rcases changes with ⟨charging, low, last⟩ | ⟨stalled, draws, last⟩
  · rw [judgeResponse_stalls found charging low last]
    exact tableBounds_recompute (by exact loaded)
  · rw [judgeResponse_unstalls found stalled draws last]
    exact tableBounds_recompute (by exact loaded)

/-- The tables' bounds at the end of an event in which the outlet's response was a change of its session. -/
theorem WindowTurn.tableBounds_of_response (turn : WindowTurn n feederFirst s o w u v o') (loaded : s.host.profile = some p)
    (changes : ((overdrawRecord (enterHistory u)).session.state = .charging ∧ drawOf (overdrawRecord (enterHistory u)) < 10 ∧
        239 ≤ (overdrawRecord (enterHistory u)).supervision.stallCount) ∨
      ((overdrawRecord (enterHistory u)).session.state = .stalled ∧ 20 ≤ drawOf (overdrawRecord (enterHistory u)) ∧
        3 ≤ (overdrawRecord (enterHistory u)).supervision.unstallCount)) : TableBounds p (endFullWindow feederFirst s) := by
  have overdrawn := judgeOverdraw_at (modifyOutlet_own enterHistory turn.foundBefore)
  have frame := (modifyOutlet_frame n enterHistory w).trans (judgeOverdraw_frame n _)
  exact turn.tableBounds (superviseOutlet_setsTable (judgeResponse_setsTable (frame.profile.trans (turn.profile.trans loaded)) overdrawn changes))

/-! The session that leaves STALLED. -/

theorem WindowTurn.stalled (turn : WindowTurn n feederFirst s o w u v o') (stalled : o.session.state = .stalled) :
    u.session.state = .stalled := by
  obtain ⟨same, -⟩ := turn.before.state_of_ne (by show o.session.state ≠ .charging; rw [stalled]; exact nofun)
  exact same.trans stalled

/-- The fourth window of draw: back in the pair, with both counts at 0 (R8, R155, R158). -/
theorem WindowTurn.unstalled (turn : WindowTurn n feederFirst s o w u v o') (stalled : o.session.state = .stalled)
    (last : o.supervision.unstallCount = 3) (draws : 20 ≤ o.meter.windowCount) (spared : Spared o) (loaded : s.host.profile = some p) :
    inPair o'.session.state = true ∧ o'.supervision.unstallCount = 0 ∧ o'.supervision.stallCount = 0 ∧ o'.share.g = o.share.g ∧
    TableBounds p (endFullWindow feederFirst s) := by
  have stalledU := turn.stalled stalled
  have record := overdrawRecord_of_spared (turn.before.spared spared)
  obtain ⟨draw, -⟩ := turn.before.entered
  have count : u.supervision.unstallCount = 3 := by rw [turn.before.supervision]; exact last
  obtain ⟨x, responds, ramps⟩ := superviseOutlet_at turn.foundBefore turn.foundAfter
  have bounds := turn.tableBounds_of_response loaded (.inr (by
    rw [record]
    exact ⟨stalledU, draws.trans_eq draw.symm, count.ge⟩))
  rw [record] at responds
  rw [stalledU, releaseRecord_of_other (by rfl)] at ramps
  have left : x.supervision.stallCount = 0 ∧ x.supervision.unstallCount = 0 ∧ x.share.g = u.share.g ∧ inPair x.session.state = true := by
    cases responds with
    | stalls charging | low charging | high charging => cases stalledU.symm.trans charging
    | unstalls _ _ _ beside =>
      obtain ⟨lowered, -, -⟩ := beside
      exact ⟨lowered.stallCount rfl, lowered.unstallCount, lowered.g, lowered.inPair⟩
    | draws _ _ short => exact absurd short (by rw [show (enterHistory u).supervision.unstallCount = 3 from count]; decide)
    | rests _ low =>
      have below : drawOf (enterHistory u) < 20 := low
      omega
    | other _ notStalled => exact absurd stalledU notStalled
  obtain ⟨stallX, unstallX, gX, pairX⟩ := left
  obtain ⟨stallV, unstallV, gV, pairV⟩ := ramps.rests stallX
  exact ⟨turn.after.inPair.trans (pairV.trans pairX), turn.after.unstallCount.trans (unstallV.trans unstallX), turn.after.stallCount stallV,
    turn.after.g.trans (gV.trans (gX.trans turn.before.g)), bounds⟩

theorem Ramps.stalled (ramps : Ramps profile u v) (stalled : u.session.state = .stalled) :
    v.session.state = .stalled ∧ v.supervision.unstallCount = u.supervision.unstallCount := by
  rcases ramps with ⟨-, rfl⟩ | ⟨p, -, lowered, -, -⟩
  · exact ⟨stalled, rfl⟩
  · have ramped : (rampOutlet p u).session.state = .stalled := by
      rcases rampOutlet_state_cases p u with ⟨-, same⟩ | ⟨-, paused, -⟩ | ⟨-, -, same⟩
      · rw [same]; exact stalled
      · cases stalled.symm.trans paused
      · exact same.trans stalled
    obtain ⟨state, -⟩ := lowered.state_of_ne (by rw [ramped]; exact nofun)
    exact ⟨state.trans ramped, lowered.unstallCount.trans (rampOutlet_unstallCount p u)⟩

/-- Short of the fourth window of draw the session stays STALLED and its count goes up or back to 0 (R155). -/
theorem WindowTurn.staysStalled (turn : WindowTurn n feederFirst s o w u v o') (stalled : o.session.state = .stalled)
    (short : o.supervision.unstallCount < 3 ∨ o.meter.windowCount < 20) (spared : Spared o) :
    o'.session.state = .stalled ∧
    o'.supervision.unstallCount = (if 20 ≤ o.meter.windowCount then o.supervision.unstallCount + 1 else 0) := by
  have stalledU := turn.stalled stalled
  have record := overdrawRecord_of_spared (turn.before.spared spared)
  obtain ⟨draw, -⟩ := turn.before.entered
  have count : u.supervision.unstallCount = o.supervision.unstallCount := turn.before.unstallCount
  obtain ⟨x, responds, ramps⟩ := superviseOutlet_at turn.foundBefore turn.foundAfter
  rw [record] at responds
  rw [stalledU, releaseRecord_of_other (by rfl)] at ramps
  have counted : x.session.state = .stalled ∧
      x.supervision.unstallCount = (if 20 ≤ o.meter.windowCount then o.supervision.unstallCount + 1 else 0) := by
    cases responds with
    | stalls charging | low charging | high charging => cases stalledU.symm.trans charging
    | unstalls _ draws last =>
      have most : 3 ≤ u.supervision.unstallCount := last
      have above : 20 ≤ drawOf (enterHistory u) := draws
      omega
    | draws _ draws _ =>
      have above : 20 ≤ drawOf (enterHistory u) := draws
      exact ⟨stalledU, by rw [if_pos (by omega), ← count]; rfl⟩
    | rests _ low =>
      have below : drawOf (enterHistory u) < 20 := low
      exact ⟨stalledU, by rw [if_neg (by omega)]⟩
    | other _ notStalled => exact absurd stalledU notStalled
  obtain ⟨stateX, countX⟩ := counted
  obtain ⟨stateV, countV⟩ := ramps.stalled stateX
  obtain ⟨state, -⟩ := turn.after.state_of_ne (by rw [stateV]; exact nofun)
  exact ⟨state.trans stateV, turn.after.unstallCount.trans (countV.trans countX)⟩

/-- With a draw below 20 a STALLED session is not taken back to the pair (R155). -/
theorem WindowTurn.notUnstalled (turn : WindowTurn n feederFirst s o w u v o') (stalled : o.session.state = .stalled)
    (low : o.meter.windowCount < 20) : inPair o'.session.state = false := by
  by_cases spared : Spared o
  · obtain ⟨state, -⟩ := turn.staysStalled stalled (.inr low) spared
    rw [state]
    rfl
  · unfold Spared at spared
    obtain ⟨x, responds, ramps⟩ := superviseOutlet_at turn.foundBefore turn.foundAfter
    have stalledU := turn.stalled stalled
    have fault : overdrawRecord (enterHistory u) = faultOutlet .overdraw (enterHistory u) := by
      have count : u.supervision.overdrawCount = o.supervision.overdrawCount := by rw [turn.before.supervision]; rfl
      rcases overdrawRecord_cases (enterHistory u) with ⟨-, -, -, h⟩ | ⟨notJudged | notDraws | short, -⟩
      · exact h
      · rw [show (enterHistory u).session.state = .stalled from stalledU] at notJudged
        cases notJudged
      · have draws := turn.before.overdraws_iff.mpr (by omega)
        rw [draws] at notDraws
        cases notDraws
      · have few : u.supervision.overdrawCount < 3 := short
        omega
    rw [fault] at responds
    rw [stalledU, releaseRecord_of_other (by rfl)] at ramps
    cases responds with
    | stalls charging | low charging | high charging => cases charging
    | unstalls stalled | draws stalled | rests stalled => cases stalled
    | other =>
      obtain ⟨-, pair⟩ := ramps.borrow
      exact turn.after.inPair.trans pair

/-! The same return in ISLANDED, target and offer for themselves. -/

/-- The record of the session as the tables read it once it is back in the pair. -/
def backInPair (n : Nat) (o : Outlet) (s : State) : State := { s with outlets := s.outlets.set n { o with session.state := .charging } }

/-- The target of the session once it is back in the pair. -/
def backTarget (p : Profile) (n : Nat) (o : Outlet) (s : State) : Nat :=
  min o.share.target
    (cappedTarget p s.census.participation s.shares.curtail (s.outlets.set n { o with session.state := .charging }) n)

/-- The record once its turn is over: target, offer and state. -/
def BackFor (p : Profile) (n : Nat) (o : Outlet) (s : State) (r : Outlet) : Prop :=
  r.share.target = backTarget p n o s ∧ r.session.offer = min (backTarget p n o s) (rampTop p o.session.offer) ∧
  r.session.state = if r.session.offer = 0 then .paused else .charging

/-- A recomputation for another outlet's sake leaves the record of a session that is back. -/
theorem BackFor.given (back : BackFor p n o s r) :
    BackFor p n o s (giveTarget false r (cappedTarget p (backInPair n o s).census.participation (backInPair n o s).shares.curtail
      (backInPair n o s).outlets n)) := by
  obtain ⟨target, offer, state⟩ := back
  have capped : backTarget p n o s ≤ cappedTarget p (backInPair n o s).census.participation (backInPair n o s).shares.curtail
      (backInPair n o s).outlets n := Nat.min_le_right _ _
  generalize cappedTarget p (backInPair n o s).census.participation (backInPair n o s).shares.curtail (backInPair n o s).outlets n = table at capped
  have kept : (giveTarget false r table).share.target = backTarget p n o s := by
    rw [giveTarget_false_target]
    omega
  have keptOffer : (giveTarget false r table).session.offer = r.session.offer := by
    rw [giveTarget_offer]
    omega
  refine ⟨kept, keptOffer.trans offer, ?_⟩
  rw [giveTarget_state_eq, kept, keptOffer, state]
  by_cases none : r.session.offer = 0
  · rw [if_pos none, if_neg (fun both => nomatch both.1)]
  · rw [if_neg none, if_neg (fun both => none (by omega))]

/-- The outlets of which the turn is still to come are as found, but for what was lowered. -/
def LaterAsFound (k : Nat) (s t : State) : Prop :=
  ∀ (m : Nat) (u : Outlet), s.outlets[m]? = some u → k ≤ m → HasOutlet m (Lowered (meterFullWindow u)) t

theorem LaterAsFound.step (later : LaterAsFound k s t) : LaterAsFound (k + 1) s (superviseOutlet k t) := fun m u found after =>
  (later m u found (by omega)).superviseOutlet_of_ne (by omega) fun _ _ lowered beside => lowered.trans beside.1

theorem judgeRelease_of_other {judged : SessionState} (other : judgedForRelease judged = false) (n : Nat) (s : State) :
    judgeRelease n judged s = s := by
  unfold judgeRelease
  split
  · rfl
  · rw [other]
    rfl

/-- The turn that takes the session back, among outlets whose targets are settled. -/
theorem superviseOutlet_back (loaded : s.host.profile = some p) (positive : 0 < p.minCurrent) (found : s.outlets[n]? = some o)
    (same : SameTables s t) (at' : t.outlets[n]? = some u) (stalled : u.session.state = .stalled) (target : u.share.target = o.share.target)
    (offer : u.session.offer = o.session.offer) (last : 3 ≤ u.supervision.unstallCount) (draws : 20 ≤ drawOf (enterHistory u))
    (spared : (enterHistory u).supervision.overdrawCount < 3 ∨ overdraws (enterHistory u) = false) :
    SameTables (backInPair n o s) (superviseOutlet n t) ∧ HasOutlet n (BackFor p n o s) (superviseOutlet n t) := by
  have history : SameTables s (modifyOutlet n enterHistory t) := same.modify fun _ _ => rfl
  have entered := modifyOutlet_own enterHistory at'
  have overdraw := judgeOverdraw_spared entered spared
  have frame := judgeOverdraw_frame n (modifyOutlet n enterHistory t)
  have judged : SameTables s (judgeOverdraw n (modifyOutlet n enterHistory t)) :=
    history.of_outlets frame.profile (by rw [frame.census]) (by rw [frame.shares]) (overdraw.mono fun _ _ _ counts => counts.capView)
  have found' := judgeOverdraw_at entered
  rw [overdrawRecord_of_spared spared] at found'
  have response := judgeResponse_unstalls found' stalled draws last
  have supervised : superviseOutlet n t =
      ramp n (recompute false (modifyOutlet n unstallOutlet (judgeOverdraw n (modifyOutlet n enterHistory t)))) := by
    rw [superviseOutlet_eq, judgeOutlet, response, sessionState_of_found at', stalled, judgeRelease_of_other (by rfl)]
    rfl
  generalize judgeOverdraw n (modifyOutlet n enterHistory t) = y at judged found' supervised
  obtain ⟨profile, part, curtail, views⟩ := judged
  have left : SameTables (backInPair n o s) (modifyOutlet n unstallOutlet y) := by
    refine ⟨profile, part, curtail, ?_, fun m a b foundA foundB => ?_⟩
    · rw [modifyOutlet_outlets, List.length_modify, views.1]
      exact (List.length_set ..).symm
    · rw [modifyOutlet_getElem?] at foundB
      have setA : (s.outlets.set n { o with session.state := .charging })[m]? = some a := foundA
      rw [List.getElem?_set] at setA
      by_cases own : n = m
      · subst own
        rw [if_pos rfl, if_pos (List.getElem?_eq_some_iff.mp found).1] at setA
        rw [if_pos rfl, found'] at foundB
        obtain rfl := Option.some.inj setA
        obtain rfl := Option.some.inj foundB
        have view : capView _ = capView o := views.2 n o _ found found'
        simp only [capView, CapView.mk.injEq] at view
        obtain ⟨-, vanMax, band, g, b⟩ := view
        show capView _ = capView _
        simp only [capView, unstallOutlet, CapView.mk.injEq]
        exact ⟨rfl, vanMax, band, g, b⟩
      · rw [if_neg own] at setA foundB
        exact views.2 m a b setA foundB
  have backLoaded : (backInPair n o s).host.profile = some p := loaded
  have back : HasOutlet n (fun r => r.share.target = backTarget p n o s ∧ r.session.offer = min o.session.offer (backTarget p n o s) ∧
      r.session.state = if backTarget p n o s = 0 then .paused else .charging)
      (recompute false (modifyOutlet n unstallOutlet y)) := by
    have start : HasOutlet n (fun r => r.share.target = o.share.target ∧ r.session.offer = o.session.offer ∧ r.session.state = .charging)
        (modifyOutlet n unstallOutlet y) := ⟨_, modifyOutlet_own unstallOutlet found', target, offer, rfl⟩
    refine start.recompute_of_tables left backLoaded fun r h => ?_
    obtain ⟨targetR, offerR, charging⟩ := h
    have made : (giveTarget false r (cappedTarget p (backInPair n o s).census.participation (backInPair n o s).shares.curtail
        (backInPair n o s).outlets n)).share.target = backTarget p n o s := by
      rw [giveTarget_false_target, targetR, Nat.min_comm]
      rfl
    refine ⟨made, by rw [giveTarget_offer, made, offerR], ?_⟩
    rw [giveTarget_state_eq, made, charging]
    by_cases none : backTarget p n o s = 0
    · rw [if_pos ⟨rfl, none⟩, if_pos none]
    · rw [if_neg (fun both => none both.2), if_neg none]
  have recomputed := left.recompute false
  rw [supervised]
  refine ⟨recomputed.ramp n, back.ramp_own recomputed backLoaded (fun r h => ?_) fun r h => ?_⟩
  · obtain ⟨targetR, offerR, stateR⟩ := h
    have ramped := rampOutlet_offer p r (by omega)
    have top : 0 < rampTop p o.session.offer := by unfold rampTop; split <;> omega
    have offer' : (rampOutlet p r).session.offer = min (backTarget p n o s) (rampTop p o.session.offer) := by
      rw [ramped, targetR, offerR, rampTop_min]
    refine ⟨by rw [rampOutlet_share, targetR], offer', ?_⟩
    by_cases none : backTarget p n o s = 0
    · rw [if_pos none] at stateR
      rw [if_pos (by omega), rampOutlet, if_pos (by omega), stateR]
    · rw [if_neg none] at stateR
      rw [if_neg (by omega)]
      rcases rampOutlet_state_cases p r with ⟨-, same⟩ | ⟨-, -, -, charging, -⟩ | ⟨-, -, same⟩
      · rw [same]; exact stateR
      · exact charging
      · exact same.trans stateR
  · exact h.given

/-- The way of the window's turns around the one that takes the session back. -/
def BackTurns (p : Profile) (n : Nat) (o : Outlet) (s : State) (k : Nat) (t : State) : Prop :=
  LaterAsFound k s t ∧
  (k ≤ n → SameTables s t ∧
    HasOutlet n (Toward o o.session.offer (cappedTarget p s.census.participation s.shares.curtail s.outlets n)) t) ∧
  (n < k → SameTables (backInPair n o s) t ∧ HasOutlet n (BackFor p n o s) t)

theorem backTurns_start (law : PostLaw s) (loaded : s.host.profile = some p) (found : s.outlets[n]? = some o) :
    BackTurns p n o s 0 (mapOutlets meterFullWindow s) := by
  have metered {m : Nat} {u : Outlet} (found : s.outlets[m]? = some u) :
      (mapOutlets meterFullWindow s).outlets[m]? = some (meterFullWindow u) := by
    rw [mapOutlets_getElem?, found]
    rfl
  have same : SameTables s (mapOutlets meterFullWindow s) :=
    ⟨rfl, rfl, rfl, eachOutlet_map (R := SameView) (f := meterFullWindow) (fun _ _ => rfl) _⟩
  refine ⟨fun m u found _ => ⟨_, metered found, .refl _⟩, fun _ => ⟨same, _, metered found, ?_⟩, fun h => absurd h (Nat.not_lt_zero n)⟩
  obtain ⟨⟨-, soft, -⟩, draws⟩ := (postLaw_iff loaded).mp law
  have lawful : OfferLaw p o := offerLaw_iff.mpr ⟨soft o (List.mem_of_getElem? found), draws o (List.mem_of_getElem? found)⟩
  exact toward_of_lawful lawful rfl rfl _

theorem backTurns_step (law : PostLaw s) (loaded : s.host.profile = some p) (found : s.outlets[n]? = some o)
    (settled : TargetsSettled p s) (stalled : o.session.state = .stalled) (last : 3 ≤ o.supervision.unstallCount)
    (draws : 20 ≤ o.meter.windowCount) (spared : Spared o)
    (quiet : ∀ (m : Nat) (u : Outlet), m ≠ n → s.outlets[m]? = some u → QuietRecord u)
    (within : k < s.outlets.length) (turns : BackTurns p n o s k t) : BackTurns p n o s (k + 1) (superviseOutlet k t) := by
  obtain ⟨later, before, after⟩ := turns
  obtain ⟨u, foundU, lowered⟩ := later k _ (List.getElem?_eq_getElem within) le_rfl
  rcases Nat.lt_trichotomy k n with earlier | rfl | past
  · obtain ⟨same, way⟩ := before earlier.le
    have quietU := lowered.quiet (quiet k _ earlier.ne (List.getElem?_eq_getElem within))
    exact ⟨later.step, fun _ => ⟨same.supervised foundU quietU,
      way.supervised_of_ne same loaded earlier.ne foundU quietU fun _ toward => toward.lowered⟩, fun h => by omega⟩
  · obtain ⟨same, way⟩ := before le_rfl
    obtain rfl := Option.some.inj ((List.getElem?_eq_getElem within).symm.trans found)
    obtain ⟨-, offer, -, kept⟩ := way.at foundU
    have target := kept (targetsSettled_at settled found)
    have below := law.offer_le loaded found
    obtain ⟨state, -⟩ := lowered.state_of_ne (by show s.outlets[k].session.state ≠ .charging; rw [stalled]; exact nofun)
    have count : u.supervision.unstallCount = s.outlets[k].supervision.unstallCount := lowered.unstallCount
    obtain ⟨draw, -⟩ := lowered.entered
    exact ⟨later.step, fun h => by omega, fun _ => superviseOutlet_back loaded (law.positive loaded) found same foundU (state.trans stalled)
      target (by omega) (by omega) (by omega) (lowered.spared spared)⟩
  · obtain ⟨same, back⟩ := after past
    have quietU := lowered.quiet (quiet k _ past.ne' (List.getElem?_eq_getElem within))
    exact ⟨later.step, fun h => by omega, fun _ => ⟨same.supervised foundU quietU,
      back.supervised_of_ne same loaded past.ne' foundU quietU fun _ h => h.given⟩⟩

/-- The session back in the pair at the end of the outlets' turns, where no other count reaches its end. -/
theorem outletsFullWindow_back (law : PostLaw s) (loaded : s.host.profile = some p) (found : s.outlets[n]? = some o)
    (settled : TargetsSettled p s) (stalled : o.session.state = .stalled) (last : 3 ≤ o.supervision.unstallCount)
    (draws : 20 ≤ o.meter.windowCount) (spared : Spared o)
    (quiet : ∀ (m : Nat) (u : Outlet), m ≠ n → s.outlets[m]? = some u → QuietRecord u) :
    HasOutlet n (BackFor p n o s) (outletsFullWindow s) := by
  obtain ⟨-, -, back⟩ := forOutlets_index (BackTurns p n o s) (backTurns_start law loaded found) fun k t within turns =>
    backTurns_step law loaded found settled stalled last draws spared quiet within turns
  exact (back (List.getElem?_eq_some_iff.mp found).1).2

theorem exec_unstall (n : Nat) (feederFirst : Bool) (out : s.host.resetHeld = []) :
    exec (.unstall n feederFirst) s = .next (onlyWhere (becomesUnstalled n) (endFullWindow feederFirst) s) :=
  congrArg Host.Outcome.next (whenRunning_of_outOfReset out _)

theorem exec_unstall_of_stays (n : Nat) (feederFirst : Bool) (out : s.host.resetHeld = [])
    (stays : becomesUnstalled n s (endFullWindow feederFirst s) = false) : exec (.unstall n feederFirst) s = .next s := by
  rw [exec_unstall n feederFirst out, onlyWhere_of_not stays]

theorem paused_or_charging_of_inPair {state : SessionState} (pair : inPair state = true) : state = .paused ∨ state = .charging := by
  cases state with
  | paused => exact .inl rfl
  | charging => exact .inr rfl
  | vacant | stalled | topped | faulted => cases pair

/-- Without a share the tables of JOINED give a session of the pair no target, and it holds no offer (R137, R142). -/
theorem InTable.paused_of_joined (bounds : InTable p .joined curtail u) (pair : inPair u.session.state = true) (g : u.share.g = 0)
    (b : u.share.b = 0) (positive : 0 < p.minCurrent) : u.session.state = .paused ∧ u.session.offer = 0 ∧ u.share.target = 0 := by
  obtain ⟨table, within, charging⟩ := bounds
  have noTable : tableTarget p .joined curtail u = 0 := by
    have short : u.session.vanMax < p.minCurrent ∨ u.share.g + u.share.b < p.minCurrent := .inr (by omega)
    rcases paused_or_charging_of_inPair pair with state | state <;> simp [tableTarget, state, short]
  refine ⟨?_, by omega, by omega⟩
  rcases paused_or_charging_of_inPair pair with state | state
  · exact state
  · have := charging state
    omega

/-- Settles O31: the turn of the outlet decides the session's way, and what comes with it lowers a target at most. -/
theorem unstallReturnsToThePair : Obligations.UnstallReturnsToThePair := by
  intro s p n o feederFirst out loaded found
  obtain ⟨w, u, v, o', turn, found'⟩ := endFullWindow_turn feederFirst found
  have full := exec_fullWindowEnd feederFirst out
  have before := sessionState_of_found found
  have after := sessionState_of_found found'
  refine ⟨fun stalled last draws spared => ?_, fun stalled short spared => ?_, fun none => ?_⟩
  · obtain ⟨pair, unstall, stall, g, bounds⟩ := turn.unstalled stalled last draws spared loaded
    obtain ⟨-, each⟩ := bounds
    have record := each o' (List.mem_of_getElem? found')
    have part : (endFullWindow feederFirst s).census.participation = s.census.participation := by rw [endFullWindow_participation]
    rw [part] at record
    have back : becomesUnstalled n s (endFullWindow feederFirst s) = true := by
      rw [becomesUnstalled, before, after, stalled, pair]
      rfl
    have steps : OutletSteps (fun _ kind => kind ≠ .raised) s (endFullWindow feederFirst s) :=
      endFullWindow_steps (fun _ => nofun) (fun _ => nofun) feederFirst s
    refine ⟨_, o', ⟨by rw [exec_unstall n feederFirst out, onlyWhere_of_outcome back], full⟩, found', pair, unstall, stall,
      steps.target_le (fun raised => raised rfl) found found', record.1, fun joined noG noB positive => ?_,
      fun islanded law quietFeeder settled quiet => ?_⟩
    · rw [joined] at record
      have borrow := turn.borrow_le
      exact record.paused_of_joined pair (g.trans noG) (by omega) positive
    · obtain ⟨-, t, outlets, same, profile, census, shares⟩ := windowTaken_of_noOrder feederFirst (feederOrder_of_quiet quietFeeder)
      have backT : HasOutlet n (BackFor p n o t) (outletsFullWindow t) :=
        outletsFullWindow_back ((postLaw_of_same same profile).mpr law) (profile.trans loaded) (same ▸ found)
          (by unfold TargetsSettled; rw [same, census, shares]; exact settled) stalled last.ge draws spared (same ▸ quiet)
      rw [endFullWindow_outlets, outlets] at found'
      obtain ⟨target, offer, state⟩ := backT.at found'
      rw [backTarget, same, census, shares, islanded] at target offer
      refine ⟨target, fun within => ?_, by rw [target]; exact offer, state⟩
      rw [target, cappedTarget_of_within within (by rw [List.getElem?_set_self (List.getElem?_eq_some_iff.mp found).1])]
  · obtain ⟨state, count⟩ := turn.staysStalled stalled short spared
    refine ⟨exec_unstall_of_stays n feederFirst out ?_, _, o', full, found', state, count⟩
    rw [becomesUnstalled, after, state]
    exact Bool.and_false _
  · refine exec_unstall_of_stays n feederFirst out ?_
    rw [becomesUnstalled, before, after, Bool.and_eq_false_iff]
    by_cases stalled : o.session.state = .stalled
    · exact .inr (turn.notUnstalled stalled (none.resolve_right fun h => h stalled))
    · exact .inl (beq_eq_false_iff_ne.mpr stalled)

end

end Sys2Proof.Machine
end

section
/-! PROOFS. The stall count at a full window end (R154, R158): what becomes of a CHARGING session in its outlet's turn. -/

set_option Elab.async false

namespace Sys2Proof.Machine

/-- A session that lost its target: PAUSED without target, offer and stall count (R6, R158). -/
def PausedAtZero (u : Outlet) : Prop :=
  u.session.state = .paused ∧ u.share.target = 0 ∧ u.session.offer = 0 ∧ u.supervision.stallCount = 0

/-- A session found CHARGING after its judgement, where it does not stall: it charges on with a stall count, or it lost its target, or its draw
faulted it. -/
def StallCounted (count : Nat) (u : Outlet) : Prop :=
  u.session.state = .charging ∧ u.supervision.stallCount = count ∨ PausedAtZero u ∨ u.session.state = .faulted

section
variable {p : Profile} {profile : Option Profile} {s w : State} {n count : Nat} {o o' u v : Outlet} {feederFirst : Bool}

theorem PausedAtZero.lowered (paused : PausedAtZero u) (lowered : Lowered u v) : PausedAtZero v := by
  obtain ⟨state, target, offer, stall⟩ := paused
  obtain ⟨state', -⟩ := lowered.state_of_ne (by rw [state]; exact nofun)
  have target' := lowered.target
  have offer' := lowered.held.le
  exact ⟨state'.trans state, by omega, by omega, lowered.stallCount stall⟩

theorem PausedAtZero.ramps (paused : PausedAtZero u) (ramps : Ramps profile u v) : PausedAtZero v := by
  rcases ramps with ⟨-, rfl⟩ | ⟨p, -, lowered, -⟩
  · exact paused
  · have rests : rampOutlet p u = u := by
      obtain ⟨-, target, offer, -⟩ := paused
      exact if_pos (by omega)
    rw [rests] at lowered
    exact paused.lowered lowered

theorem StallCounted.lowered (counted : StallCounted count u) (lowered : Lowered u v) : StallCounted count v := by
  rcases counted with ⟨charging, stall⟩ | paused | faulted
  · rcases lowered.state with ⟨state, stall'⟩ | ⟨-, paused, target, offer, zero⟩
    · exact .inl ⟨state.trans charging, stall'.trans stall⟩
    · exact .inr (.inl ⟨paused, target, offer, zero⟩)
  · exact .inr (.inl (paused.lowered lowered))
  · obtain ⟨state, -⟩ := lowered.state_of_ne (by rw [faulted]; exact nofun)
    exact .inr (.inr (state.trans faulted))

theorem rampOutlet_of_notPaused (p : Profile) (notPaused : u.session.state ≠ .paused) :
    (rampOutlet p u).session.state = u.session.state ∧ (rampOutlet p u).supervision.stallCount = u.supervision.stallCount := by
  rcases rampOutlet_cases p u with h | ⟨paused, -⟩ | ⟨state, h⟩
  · rw [h]; exact ⟨rfl, rfl⟩
  · exact absurd paused notPaused
  · rw [h]; exact ⟨state, rfl⟩

theorem StallCounted.ramps (counted : StallCounted count u) (ramps : Ramps profile u v) : StallCounted count v := by
  rcases counted with ⟨charging, stall⟩ | paused | faulted
  · rcases ramps with ⟨-, rfl⟩ | ⟨p, -, lowered, -⟩
    · exact .inl ⟨charging, stall⟩
    · obtain ⟨state, stall'⟩ := rampOutlet_of_notPaused p (u := u) (by rw [charging]; exact nofun)
      exact StallCounted.lowered (.inl ⟨state.trans charging, stall'.trans stall⟩) lowered
  · exact .inr (.inl (paused.ramps ramps))
  · rcases ramps with ⟨-, rfl⟩ | ⟨p, -, lowered, -⟩
    · exact .inr (.inr faulted)
    · obtain ⟨state, -⟩ := rampOutlet_of_notPaused p (u := u) (by rw [faulted]; exact nofun)
      exact StallCounted.lowered (.inr (.inr (state.trans faulted))) lowered

/-- A session found CHARGING when its turn comes. -/
theorem WindowTurn.charging (turn : WindowTurn n feederFirst s o w u v o') (charging : o.session.state = .charging) :
    u.session.state = .charging ∧ u.supervision.stallCount = o.supervision.stallCount ∨ PausedAtZero u := by
  rcases turn.before.state with ⟨state, stall⟩ | ⟨-, paused, target, offer, zero⟩
  · exact .inl ⟨state.trans charging, stall⟩
  · exact .inr ⟨paused, target, offer, zero⟩

/-- What the response makes of a session that found no overdraw fault and had lost its target. -/
theorem Responds.pausedAtZero (responds : Responds profile u v) (paused : PausedAtZero u) : PausedAtZero v := by
  have state := paused.1
  cases responds with
  | stalls charging | low charging | high charging => cases state.symm.trans charging
  | unstalls stalled | draws stalled | rests stalled => cases state.symm.trans stalled
  | other => exact paused

/-- Short of the last window of low draw a CHARGING session does not stall (R154). -/
theorem WindowTurn.stallCounted (turn : WindowTurn n feederFirst s o w u v o') (charging : o.session.state = .charging)
    (short : o.supervision.stallCount < 239 ∨ 10 ≤ o.meter.windowCount) :
    StallCounted (if o.meter.windowCount < 10 then o.supervision.stallCount + 1 else 0) o' := by
  obtain ⟨x, responds, ramps⟩ := superviseOutlet_at turn.foundBefore turn.foundAfter
  obtain ⟨draw, -⟩ := turn.before.entered
  have found := turn.charging charging
  have notJudged : judgedForRelease u.session.state = false := by
    rcases found with ⟨state, -⟩ | ⟨state, -⟩ <;> rw [state] <;> rfl
  rw [releaseRecord_of_other notJudged] at ramps
  have response : StallCounted (if o.meter.windowCount < 10 then o.supervision.stallCount + 1 else 0) x := by
    rcases overdrawRecord_cases (enterHistory u) with ⟨-, -, -, fault⟩ | ⟨-, record⟩
    · rw [fault] at responds
      cases responds with
      | stalls charging | low charging | high charging => cases charging
      | unstalls stalled | draws stalled | rests stalled => cases stalled
      | other => exact .inr (.inr rfl)
    · rw [record] at responds
      rcases found with ⟨state, count⟩ | paused
      · cases responds with
        | stalls _ low last =>
          have below : drawOf (enterHistory u) < 10 := low
          have most : 239 ≤ u.supervision.stallCount := last
          omega
        | low _ low _ =>
          have below : drawOf (enterHistory u) < 10 := low
          exact .inl ⟨state, by rw [if_pos (by omega), ← count]; rfl⟩
        | high _ high =>
          have above : 10 ≤ drawOf (enterHistory u) := high
          exact .inl ⟨state, by rw [if_neg (by omega)]⟩
        | unstalls stalled | draws stalled | rests stalled => cases state.symm.trans stalled
        | other notCharging => exact absurd state notCharging
      · exact .inr (.inl (responds.pausedAtZero paused))
  exact (response.ramps ramps).lowered turn.after

/-- A session that has lost its target before its turn rests PAUSED, where its draw does not fault it. -/
theorem WindowTurn.pausedAtZero (turn : WindowTurn n feederFirst s o w u v o') (paused : PausedAtZero u) (spared : Spared o) : PausedAtZero o' := by
  obtain ⟨x, responds, ramps⟩ := superviseOutlet_at turn.foundBefore turn.foundAfter
  rw [overdrawRecord_of_spared (turn.before.spared spared)] at responds
  rw [paused.1, releaseRecord_of_other (by rfl)] at ramps
  exact ((responds.pausedAtZero paused).ramps ramps).lowered turn.after

theorem enterStalled_flagged (small : n < 4) (s : State) : Flagged (enterStalled n s) (.stalled n) := by
  refine flagged_of_raised (events := s.host.events) (show 13 + 5 * n < 32 by omega) ?_
  rw [enterStalled, recompute_host, raise_events, modifyOutlet_host]

/-- The last window of low draw takes a session that charges in its turn STALLED, with its event (R8, R154, R158). -/
theorem WindowTurn.stalls (turn : WindowTurn n feederFirst s o w u v o') (small : n < 4) (loaded : s.host.profile = some p)
    (charging : u.session.state = .charging) (last : u.supervision.stallCount = 239) (low : o.meter.windowCount < 10) :
    o'.session.state = .stalled ∧ o'.supervision.stallCount = 0 ∧ o'.supervision.unstallCount = 0 ∧ o'.share.g = 0 ∧ o'.share.b = 0 ∧
    TableBounds p (endFullWindow feederFirst s) ∧ Flagged (endFullWindow feederFirst s) (.stalled n) := by
  have record := overdrawRecord_of_spared (turn.before.spared (.inr (by omega)))
  obtain ⟨draw, -⟩ := turn.before.entered
  have below : drawOf (enterHistory u) < 10 := by omega
  have bounds := turn.tableBounds_of_response loaded (.inl (by rw [record]; exact ⟨charging, below, last.ge⟩))
  have flagged : Flagged (superviseOutlet n w) (.stalled n) := by
    have judged := judgeOverdraw_at (modifyOutlet_own enterHistory turn.foundBefore)
    rw [record] at judged
    have host : (superviseOutlet n w).host = (enterStalled n (judgeOverdraw n (modifyOutlet n enterHistory w))).host := by
      rw [superviseOutlet_host, judgeOutlet, sessionState_of_found turn.foundBefore, charging, judgeRelease_of_other (by rfl),
        judgeResponse_stalls judged charging below last.ge]
    rw [Flagged, isRaised, host]
    exact enterStalled_flagged small _
  obtain ⟨x, responds, ramps⟩ := superviseOutlet_at turn.foundBefore turn.foundAfter
  rw [record] at responds
  rw [charging, releaseRecord_of_other (by rfl)] at ramps
  have stalledX : x.session.state = .stalled ∧ x.supervision.stallCount = 0 ∧ x.supervision.unstallCount = 0 ∧ x.share.g = 0 ∧
      x.share.b = 0 := by
    cases responds with
    | stalls _ _ _ beside =>
      obtain ⟨lowered, b, -⟩ := beside
      obtain ⟨state, -⟩ := lowered.state_of_ne (by show SessionState.stalled ≠ _; exact nofun)
      have dropped : (dropShares { enterHistory u with supervision.overdrawCount := nextOverdraw (enterHistory u) }).share.g = 0 ∧
          (dropShares { enterHistory u with supervision.overdrawCount := nextOverdraw (enterHistory u) }).share.b = 0 := by
        rw [dropShares, if_pos (by show inPair u.session.state = true; rw [charging]; rfl)]
        exact ⟨rfl, rfl⟩
      exact ⟨state, lowered.stallCount rfl, lowered.unstallCount, lowered.g.trans dropped.1, b.trans dropped.2⟩
    | low _ _ short => exact absurd short (by rw [show (enterHistory u).supervision.stallCount = 239 from last]; decide)
    | high _ high => exact absurd below (by have above : 10 ≤ drawOf (enterHistory u) := high; omega)
    | unstalls stalled | draws stalled | rests stalled => cases charging.symm.trans stalled
    | other notCharging => exact absurd charging notCharging
  obtain ⟨stateX, stallX, unstallX, gX, bX⟩ := stalledX
  obtain ⟨stateV, -⟩ := ramps.stalled stateX
  obtain ⟨stallV, unstallV, gV, -⟩ := ramps.rests stallX
  obtain ⟨bV, -⟩ := ramps.borrow
  obtain ⟨state, -⟩ := turn.after.state_of_ne (by rw [stateV]; exact nofun)
  have b := turn.after.borrow
  refine ⟨state.trans stateV, turn.after.stallCount stallV, turn.after.unstallCount.trans (unstallV.trans unstallX),
    turn.after.g.trans (gV.trans gX), by omega, bounds, ?_⟩
  rw [Flagged, turn.kept _ (.inl rfl)]
  exact flagged

end

end Sys2Proof.Machine
end

section
/-! PROOFS. The probe of a STALLED session (R139, R154): its target and its offer where no recomputation comes to the post cap, and obligation
O30. -/

set_option Elab.async false

namespace Sys2Proof.Machine

/-- The sum of the raw targets, which the post cap holds to Lp (R137 to R140). -/
def tableSum (p : Profile) (s : State) : Nat := (s.outlets.map (tableTarget p s.census.participation s.shares.curtail)).sum

/-- A step on behalf of outlet k that raises no sum of raw targets: while that sum keeps within Lp, the other records in the tables' bounds are
left exactly as they stand. -/
structure Leaves (p : Profile) (k : Nat) (s t : State) : Prop where
  frame : OutletFrame s t
  sum : tableSum p t ≤ tableSum p s
  others : s.host.profile = some p → tableSum p s ≤ p.postLimit → ∀ (m : Nat) (u : Outlet), m ≠ k → s.outlets[m]? = some u →
    InTable p s.census.participation s.shares.curtail u → t.outlets[m]? = some u

section
variable {p : Profile} {s t y : State} {n k m : Nat} {o o' u v : Outlet} {order : BorrowOrder} {feederFirst : Bool}

/-! What a step leaves. -/

theorem EachOutlet.sum_le {R : Nat → Outlet → Outlet → Prop} {os os' : List Outlet} {f g : Outlet → Nat} (each : EachOutlet R os os')
    (le : ∀ n o o', R n o o' → g o' ≤ f o) : (os'.map g).sum ≤ (os.map f).sum := by
  refine List.Forall₂.sum_le_sum (List.forall₂_iff_get.mpr ⟨by simp only [List.length_map]; exact each.1, fun i h h' => ?_⟩)
  simp only [List.get_eq_getElem, List.getElem_map]
  rw [List.length_map] at h h'
  exact le i _ _ (each.2 i _ _ (List.getElem?_eq_getElem h') (List.getElem?_eq_getElem h))

theorem Leaves.refl (p : Profile) (k : Nat) (s : State) : Leaves p k s s := ⟨.refl s, le_rfl, fun _ _ _ _ _ found _ => found⟩

theorem Leaves.trans (first : Leaves p k s t) (second : Leaves p k t y) : Leaves p k s y := by
  refine ⟨first.frame.trans second.frame, second.sum.trans first.sum, fun loaded within m u other found bounds => ?_⟩
  refine second.others (first.frame.profile.trans loaded) (first.sum.trans within) m u other (first.others loaded within m u other found bounds) ?_
  rw [first.frame.census, first.frame.shares]
  exact bounds

theorem leaves_of_same (frame : OutletFrame s t) (outlets : t.outlets = s.outlets) : Leaves p k s t := by
  refine ⟨frame, le_of_eq ?_, fun _ _ _ _ _ found _ => outlets ▸ found⟩
  rw [tableSum, frame.census, frame.shares, outlets, tableSum]

/-- A write of the outlet's own record that raises no raw target. -/
theorem leaves_modify {f : Outlet → Outlet} (own : ∀ u, s.outlets[k]? = some u →
    tableTarget p s.census.participation s.shares.curtail (f u) ≤ tableTarget p s.census.participation s.shares.curtail u) :
    Leaves p k s (modifyOutlet k f s) := by
  have each : EachOutlet (fun _ o u => tableTarget p s.census.participation s.shares.curtail u ≤
      tableTarget p s.census.participation s.shares.curtail o) s.outlets (modifyOutlet k f s).outlets := eachOutlet_modify (fun _ _ => le_rfl) own
  refine ⟨modifyOutlet_frame k f s, each.sum_le fun _ _ _ le => le, fun _ _ m u other found _ => ?_⟩
  rw [modifyOutlet_getElem?, if_neg other.symm, found]

/-- A recomputation within the tables' bounds gives a record nothing. -/
theorem giveTarget_inTable {part : Participation} {curtail : Nat} (bounds : InTable p part curtail u) :
    giveTarget false u (tableTarget p part curtail u) = u := by
  obtain ⟨table, within, charging⟩ := bounds
  refine giveTarget_of_settled (by simpa using table) ?_
  rcases lowerOffer_cases u with ⟨h, -⟩ | ⟨-, above, -⟩ | ⟨-, zero, charges⟩
  · exact h
  · omega
  · have := charging charges
    omega

/-- A recomputation where the raw targets sum to at most Lp gives each outlet its own (R140). -/
theorem recompute_at_within (loaded : s.host.profile = some p) (within : tableSum p s ≤ p.postLimit) (found : s.outlets[m]? = some u) :
    (recompute false s).outlets[m]? = some (giveTarget false u (tableTarget p s.census.participation s.shares.curtail u)) := by
  rw [recompute_of_profile false loaded]
  dsimp only
  rw [retarget_getElem?, found, ← cappedTarget_of_within within found]
  rfl

theorem leaves_recompute (p : Profile) (k : Nat) (s : State) : Leaves p k s (recompute false s) := by
  have same := (SameTables.refl s).recompute false
  obtain ⟨-, -, -, views⟩ := same
  have frame := recompute_frame false s
  refine ⟨frame, ?_, fun loaded within m u _ found bounds => ?_⟩
  · rw [tableSum, frame.census, frame.shares]
    exact views.sum_le fun _ _ _ view => (tableTarget_of_view view).le
  · rw [recompute_at_within loaded within found, giveTarget_inTable bounds]

theorem leaves_aside {f : Outlet → Outlet} (session : ∀ u, (f u).session = u.session) (share : ∀ u, (f u).share = u.share) :
    Leaves p k s (modifyOutlet k f s) := leaves_modify fun u _ => (tableTarget_of_same (session u) (share u)).le

theorem tableTarget_of_out {part : Participation} {curtail : Nat}
    (out : u.session.state = .vacant ∨ u.session.state = .topped ∨ u.session.state = .faulted) : tableTarget p part curtail u = 0 :=
  if_pos (.inr (.inr out))

theorem judgeOverdraw_leaves (p : Profile) (k : Nat) (s : State) : Leaves p k s (judgeOverdraw k s) := by
  rcases judgeOverdraw_cases k s with h | ⟨c, -, h⟩ | ⟨o, -, -, -, h⟩ <;> rw [h]
  · exact .refl p k s
  · exact leaves_aside (fun _ => rfl) fun _ => rfl
  · have fault : Leaves p k s (modifyOutlet k (faultOutlet .overdraw) s) := leaves_modify fun u _ => by
      rw [tableTarget_of_out (u := faultOutlet .overdraw u) (.inr (.inr rfl))]
      exact Nat.zero_le _
    have raised : Leaves p k s (enterFaulted k .overdraw s) := (fault.trans (leaves_of_same (raise_frame _ _) rfl)).trans (leaves_recompute p k _)
    exact raised.trans (leaves_of_same (capture_frame _ _ _ _) (capture_outlets ..))

theorem tableTarget_of_stalled {part : Participation} {curtail : Nat} (stalled : u.session.state = .stalled) :
    tableTarget p part curtail u ≤ p.minCurrent := by
  unfold tableTarget
  split
  · exact Nat.zero_le _
  · exact le_rfl

/-- The response of an outlet that leaves STALLED at no window, and of which the probe is no more than the raw target of its charge. -/
theorem judgeResponse_leaves (found : s.outlets[k]? = some u) (unstall : u.session.state = .stalled → u.supervision.unstallCount < 3)
    (probe : u.session.state = .charging → p.minCurrent ≤ tableTarget p s.census.participation s.shares.curtail u) :
    Leaves p k s (judgeResponse k s) := by
  rcases judgeResponse_cases k s with h | ⟨o, found', charging, h⟩ | ⟨o, found', stalled, h⟩ <;> rw [h]
  · exact .refl p k s
  · obtain rfl := Option.some.inj (found.symm.trans found')
    have stall : Leaves p k s (modifyOutlet k stallOutlet s) := leaves_modify fun x foundX => by
      obtain rfl := Option.some.inj (found.symm.trans foundX)
      exact (tableTarget_of_stalled rfl).trans (probe charging)
    unfold judgeStall
    split_ifs
    · exact (stall.trans (leaves_of_same (raise_frame _ _) rfl)).trans (leaves_recompute p k _)
    · exact leaves_aside (fun _ => rfl) fun _ => rfl
    · exact leaves_aside (fun _ => rfl) fun _ => rfl
  · obtain rfl := Option.some.inj (found.symm.trans found')
    have short := unstall stalled
    unfold judgeUnstall
    split_ifs
    · omega
    · exact leaves_aside (fun _ => rfl) fun _ => rfl
    · exact leaves_aside (fun _ => rfl) fun _ => rfl

theorem judgeRelease_leaves (p : Profile) (k : Nat) (judged : SessionState) (s : State) : Leaves p k s (judgeRelease k judged s) := by
  unfold judgeRelease
  split
  · exact .refl p k s
  · split_ifs
    · have released : Leaves p k s (modifyOutlet k (fun o => { o with supervision.releaseCount := 8, supervision.releaseDriven := true }) s) :=
        leaves_aside (fun _ => rfl) fun _ => rfl
      exact released.trans (leaves_of_same ((raise_frame _ _).trans (capture_frame _ _ _ _)) (capture_outlets ..))
    · exact leaves_aside (fun _ => rfl) fun _ => rfl
    · exact leaves_aside (fun _ => rfl) fun _ => rfl
    · exact .refl p k s

theorem ramp_leaves (p : Profile) (k : Nat) (s : State) : Leaves p k s (ramp k s) := by
  unfold ramp
  split
  · next q o _ _ =>
    have ramped : Leaves p k s (modifyOutlet k (rampOutlet q) s) := leaves_modify fun u _ => (tableTarget_of_view (rampOutlet_capView q u)).le
    split_ifs
    · exact ramped.trans (leaves_recompute p k _)
    · exact ramped
  · exact .refl p k s

/-- An outlet's turn leaves the other records, where it leaves STALLED at no window (R152). -/
theorem superviseOutlet_leaves (found : s.outlets[k]? = some u) (unstall : u.supervision.unstallCount < 3)
    (probe : u.session.state = .charging → p.minCurrent ≤ tableTarget p s.census.participation s.shares.curtail u) :
    Leaves p k s (superviseOutlet k s) := by
  have entered : Leaves p k s (modifyOutlet k enterHistory s) := leaves_aside (fun _ => rfl) fun _ => rfl
  have overdrawn := entered.trans (judgeOverdraw_leaves p k _)
  have judged := judgeOverdraw_at (modifyOutlet_own enterHistory found)
  have record : ((overdrawRecord (enterHistory u)).session.state = .stalled → (overdrawRecord (enterHistory u)).supervision.unstallCount < 3) ∧
      ((overdrawRecord (enterHistory u)).session.state = .charging →
        p.minCurrent ≤ tableTarget p s.census.participation s.shares.curtail (overdrawRecord (enterHistory u))) := by
    rcases overdrawRecord_cases (enterHistory u) with ⟨-, -, -, h⟩ | ⟨-, h⟩ <;> rw [h]
    · exact ⟨nofun, nofun⟩
    · exact ⟨fun _ => unstall, probe⟩
  obtain ⟨unstall', probe'⟩ := record
  have responds := overdrawn.trans (judgeResponse_leaves judged unstall' (by rw [overdrawn.frame.census, overdrawn.frame.shares]; exact probe'))
  rw [superviseOutlet_eq, judgeOutlet]
  exact (responds.trans (judgeRelease_leaves p k _ _)).trans (ramp_leaves p k _)

/-! The window's turns. -/

/-- What a lawful outlet brings to the window: a record in the tables' bounds that leaves STALLED at no window, and of which the probe would be
no more than its raw target. -/
def ProbeReady (p : Profile) (s : State) (u : Outlet) : Prop :=
  InTable p s.census.participation s.shares.curtail u ∧ u.supervision.unstallCount < 3 ∧
  (u.session.state = .charging → p.minCurrent ≤ u.session.offer)

/-- The record of a session on the probe. -/
def OnProbe (p : Profile) (u : Outlet) : Prop :=
  u.session.state = .stalled ∧ u.share.target = p.minCurrent ∧ u.session.offer = p.minCurrent

/-- The way of the window's turns: the outlets to come stand as found, and the one that stalls is on the probe once its turn is over. -/
def ProbeTurns (p : Profile) (n : Nat) (s : State) (k : Nat) (t : State) : Prop :=
  OutletFrame s t ∧ tableSum p t ≤ p.postLimit ∧
  (∀ (m : Nat) (u : Outlet), s.outlets[m]? = some u → k ≤ m → t.outlets[m]? = some (meterFullWindow u)) ∧
  (n < k → HasOutlet n (OnProbe p) t)

theorem tableTarget_of_probe {part : Participation} {curtail : Nat} (sharing : part = .joined ∨ part = .islanded)
    (stalled : u.session.state = .stalled) : tableTarget p part curtail u = p.minCurrent := by
  rcases sharing with rfl | rfl <;> simp [tableTarget, stalled]

theorem stallOutlet_target (u : Outlet) : (stallOutlet u).share.target = u.share.target := dropShares_target u

theorem stallOutlet_offer (u : Outlet) : (stallOutlet u).session.offer = u.session.offer := by
  show (dropShares u).session.offer = _
  rw [dropShares_session]

theorem OnProbe.inTable (probe : OnProbe p u) (sharing : s.census.participation = .joined ∨ s.census.participation = .islanded) :
    tableTarget p s.census.participation s.shares.curtail u = p.minCurrent ∧ InTable p s.census.participation s.shares.curtail u := by
  obtain ⟨stalled, target, offer⟩ := probe
  have table : tableTarget p s.census.participation s.shares.curtail u = p.minCurrent := tableTarget_of_probe sharing stalled
  exact ⟨table, by omega, by omega, fun charging => by cases stalled.symm.trans charging⟩

/-- A session that stalls with an offer is given the probe (R139, R141, R142). -/
theorem OnProbe.of_stall (stalled : u.session.state = .stalled) (target : p.minCurrent ≤ u.share.target)
    (offer : p.minCurrent ≤ u.session.offer) : OnProbe p (giveTarget false u p.minCurrent) := by
  have target' := giveTarget_false_target u p.minCurrent
  have offer' := giveTarget_offer u false p.minCurrent
  refine ⟨?_, by omega, by omega⟩
  rw [giveTarget_state_eq, if_neg (by rw [stalled]; exact fun both => nomatch both.1), stalled]

theorem OnProbe.given (probe : OnProbe p u) : OnProbe p (giveTarget false u p.minCurrent) := by
  obtain ⟨stalled, target, offer⟩ := probe
  exact .of_stall stalled target.ge offer.ge

theorem OnProbe.ramped (probe : OnProbe p u) : rampOutlet p u = u := by
  obtain ⟨-, target, offer⟩ := probe
  exact if_pos (by omega)

/-- The turn that takes the session to the probe. -/
theorem superviseOutlet_probes (loaded : s.host.profile = some p) (within : tableSum p s ≤ p.postLimit)
    (sharing : s.census.participation = .joined ∨ s.census.participation = .islanded) (found : s.outlets[n]? = some (meterFullWindow o))
    (ready : ProbeReady p s o) (charging : o.session.state = .charging) (last : o.supervision.stallCount = 239) (low : o.meter.windowCount < 10) :
    HasOutlet n (OnProbe p) (superviseOutlet n s) := by
  obtain ⟨⟨table, under, -⟩, short, probe⟩ := ready
  have below : drawOf (enterHistory (meterFullWindow o)) < 10 := by
    obtain ⟨draw, -⟩ := (Lowered.refl (meterFullWindow o)).entered
    omega
  have least := probe charging
  have entered : Leaves p n s (modifyOutlet n enterHistory s) := leaves_aside (fun _ => rfl) fun _ => rfl
  have overdrawn := entered.trans (judgeOverdraw_leaves p n _)
  have judged := judgeOverdraw_at (modifyOutlet_own enterHistory found)
  rw [overdrawRecord_of_spared ((Lowered.refl (meterFullWindow o)).spared (.inr (by omega)))] at judged
  have supervised : superviseOutlet n s = ramp n (enterStalled n (judgeOverdraw n (modifyOutlet n enterHistory s))) := by
    rw [superviseOutlet_eq, judgeOutlet, judgeResponse_stalls judged charging below last.ge, sessionState_of_found found,
      show (meterFullWindow o).session.state = .charging from charging, judgeRelease_of_other (by rfl)]
  rw [supervised]
  generalize judgeOverdraw n (modifyOutlet n enterHistory s) = y at overdrawn judged
  have frame := overdrawn.frame
  have stalls : Leaves p n y (raise (.stalled n) (modifyOutlet n stallOutlet y)) := by
    refine (leaves_modify fun x foundX => ?_).trans (leaves_of_same (raise_frame _ _) rfl)
    obtain rfl := Option.some.inj (judged.symm.trans foundX)
    refine (tableTarget_of_stalled rfl).trans ?_
    have charged : p.minCurrent ≤ tableTarget p s.census.participation s.shares.curtail o := by omega
    rw [frame.census, frame.shares]
    exact charged.trans_eq (tableTarget_of_same rfl rfl).symm
  have stalled := overdrawn.trans stalls
  have frame' := stalled.frame
  have sharing' : (raise (.stalled n) (modifyOutlet n stallOutlet y)).census.participation = .joined ∨
      (raise (.stalled n) (modifyOutlet n stallOutlet y)).census.participation = .islanded := by rw [frame'.census]; exact sharing
  have given := recompute_at_within (frame'.profile.trans loaded) (stalled.sum.trans within) (modifyOutlet_own stallOutlet judged)
  rw [tableTarget_of_probe sharing' rfl] at given
  have probed : HasOutlet n (OnProbe p) (enterStalled n y) :=
    ⟨_, given, .of_stall rfl (by rw [stallOutlet_target]; exact least.trans under) (by rw [stallOutlet_offer]; exact least)⟩
  have after : Leaves p n s (enterStalled n y) := stalled.trans (leaves_recompute p n _)
  refine probed.ramp_own (SameTables.refl _) (after.frame.profile.trans loaded) (fun u probe => ?_) fun u probe => ?_
  · rw [probe.ramped]
    exact probe
  · obtain ⟨r, found', probeR⟩ := probed
    have table : tableTarget p (enterStalled n y).census.participation (enterStalled n y).shares.curtail r = p.minCurrent :=
      tableTarget_of_probe (by rw [after.frame.census]; exact sharing) probeR.1
    rw [cappedTarget_of_within (after.sum.trans within) found', table]
    exact probe.given

theorem probeTurns_start (within : tableSum p s ≤ p.postLimit) : ProbeTurns p n s 0 (mapOutlets meterFullWindow s) := by
  have same : EachOutlet (fun _ o u => tableTarget p s.census.participation s.shares.curtail u ≤
      tableTarget p s.census.participation s.shares.curtail o) s.outlets (mapOutlets meterFullWindow s).outlets :=
    eachOutlet_map (fun _ _ => (tableTarget_of_same rfl rfl).le) _
  refine ⟨mapOutlets_frame _ s, (same.sum_le fun _ _ _ le => le).trans within, fun m u found _ => ?_, fun h => absurd h (Nat.not_lt_zero n)⟩
  rw [mapOutlets_getElem?, found]
  rfl

theorem probeTurns_step (loaded : s.host.profile = some p) (sharing : s.census.participation = .joined ∨ s.census.participation = .islanded)
    (ready : ∀ u ∈ s.outlets, ProbeReady p s u) (found : s.outlets[n]? = some o) (charging : o.session.state = .charging)
    (last : o.supervision.stallCount = 239) (low : o.meter.windowCount < 10) (below : k < s.outlets.length) (turns : ProbeTurns p n s k t) :
    ProbeTurns p n s (k + 1) (superviseOutlet k t) := by
  obtain ⟨frame, within, later, past⟩ := turns
  have loaded' := frame.profile.trans loaded
  have ready' (u : Outlet) (member : u ∈ s.outlets) : ProbeReady p t u := by
    unfold ProbeReady
    rw [frame.census, frame.shares]
    exact ready u member
  have sharing' : t.census.participation = .joined ∨ t.census.participation = .islanded := by rw [frame.census]; exact sharing
  have own := later k _ (List.getElem?_eq_getElem below) le_rfl
  obtain ⟨⟨table, under, -⟩, unstall, probe⟩ := ready' _ (List.getElem_mem below)
  have leaves : Leaves p k t (superviseOutlet k t) := superviseOutlet_leaves own unstall fun charges => by
    have least := probe charges
    have charged : p.minCurrent ≤ tableTarget p t.census.participation t.shares.curtail s.outlets[k] := by omega
    exact charged.trans_eq (tableTarget_of_same rfl rfl).symm
  have others := leaves.others loaded' within
  refine ⟨frame.trans leaves.frame, leaves.sum.trans within, fun m u foundU after => ?_, fun reached => ?_⟩
  · obtain ⟨bounds, -⟩ := ready' u (List.mem_of_getElem? foundU)
    exact others m _ (by omega) (later m u foundU (by omega)) (bounds.of_same rfl rfl)
  · by_cases same : n = k
    · subst same
      have found' := later n o found le_rfl
      exact superviseOutlet_probes loaded' within sharing' found' (ready' o (List.mem_of_getElem? found)) charging last low
    · obtain ⟨r, foundR, probed⟩ := past (by omega)
      exact ⟨r, others n r same foundR (probed.inTable sharing').2, probed⟩

/-- The session on the probe at the end of the outlets' turns. -/
theorem outletsFullWindow_probes (loaded : s.host.profile = some p) (within : tableSum p s ≤ p.postLimit)
    (sharing : s.census.participation = .joined ∨ s.census.participation = .islanded) (ready : ∀ u ∈ s.outlets, ProbeReady p s u)
    (found : s.outlets[n]? = some o) (charging : o.session.state = .charging) (last : o.supervision.stallCount = 239)
    (low : o.meter.windowCount < 10) :
    tableSum p (outletsFullWindow s) ≤ p.postLimit ∧ HasOutlet n (OnProbe p) (outletsFullWindow s) := by
  obtain ⟨-, within', -, probed⟩ := forOutlets_index (ProbeTurns p n s) (probeTurns_start within) fun k t below turns =>
    probeTurns_step loaded sharing ready found charging last low below turns
  exact ⟨within', probed (List.getElem?_eq_some_iff.mp found).1⟩

/-! An order on borrow after the turns. -/

theorem borrowOp_le (order : BorrowOrder) (u : Outlet) : (borrowOp order u).share.b ≤ u.share.b := by
  cases order with
  | halve =>
    show min (u.share.b / 2) (u.session.vanMax - u.share.g) ≤ u.share.b
    omega
  | zero => exact Nat.zero_le _
  | zeroAndCurtail => exact Nat.zero_le _

/-- An order on borrow raises no raw target, where Cmax is no less than I_min and a fallback in force neither (R135, R137, R138). -/
theorem tableTarget_ordered (order : BorrowOrder) {part : Participation} {curtail : Nat}
    (vanMax : u.session.state ≠ .vacant → p.minCurrent ≤ u.session.vanMax)
    (fallback : part = .islanded → curtail = 0 → p.minCurrent ≤ p.fallback) :
    tableTarget p part (curtailAfter order curtail) (borrowOp order u) ≤ tableTarget p part curtail u := by
  have lower := borrowOp_le order u
  rw [borrowOp_eq]
  generalize (borrowOp order u).share.b = b at lower
  unfold tableTarget
  dsimp only
  by_cases out : part = .offline ∨ part = .listening ∨ u.session.state = .vacant ∨ u.session.state = .topped ∨ u.session.state = .faulted
  · rw [if_pos out, if_pos out]
  rw [if_neg out, if_neg out]
  by_cases stalled : u.session.state = .stalled
  · rw [if_pos stalled, if_pos stalled]
  rw [if_neg stalled, if_neg stalled]
  by_cases joined : part = .joined
  · rw [if_pos joined, if_pos joined]
    split_ifs <;> omega
  rw [if_neg joined, if_neg joined]
  have islanded : part = .islanded := by
    cases part with
    | islanded => rfl
    | joined => exact absurd rfl joined
    | offline => exact absurd (.inl rfl) out
    | listening => exact absurd (.inr (.inl rfl)) out
  have least := vanMax fun vacant => out (.inr (.inr (.inl vacant)))
  have inForce := fallback islanded
  cases order with
  | halve => exact le_rfl
  | zero => exact le_rfl
  | zeroAndCurtail =>
    have three : curtailAfter .zeroAndCurtail curtail ≠ 0 := nofun
    simp only [three, if_false]
    split_ifs <;> omega

theorem tableTarget_le_fallback (charging : u.session.state = .charging) : tableTarget p .islanded 0 u ≤ p.fallback := by
  unfold tableTarget
  rw [if_neg (by simp [charging]), if_neg (by rw [charging]; exact nofun), if_neg nofun]
  by_cases none : u.session.band = .absent ∨ u.session.band = .unbanded
  · rw [if_pos none]
    exact Nat.zero_le _
  · rw [if_neg none, if_pos rfl]
    exact Nat.min_le_right _ _

theorem SoftState.outletsFullWindow (law : SoftState p s) : SoftState p (outletsFullWindow s) :=
  forOutlets_keeps (SoftState p) superviseOutlet (fun m _ law => (law.judgeOutlet m).ramp m) _ _
    (law.plain (mapOutlets_plainSteps fun _ => .meterFull))

/-- The probe stands through an order that comes after the turns (R135, R139). -/
theorem feederFullWindow_keepsProbe (soft : SoftState p s) (within : tableSum p s ≤ p.postLimit)
    (sharing : s.census.participation = .joined ∨ s.census.participation = .islanded)
    (fallback : s.census.participation = .islanded → s.shares.curtail = 0 → p.minCurrent ≤ p.fallback) (given : feederOrder s = some order)
    (probed : HasOutlet n (OnProbe p) s) : HasOutlet n (OnProbe p) (feederFullWindow s) := by
  obtain ⟨loaded, -, lawful, -⟩ := soft
  obtain ⟨v, found, probe⟩ := probed
  have within' : ((s.outlets.map (borrowOp order)).map
      (tableTarget p s.census.participation (curtailAfter order s.shares.curtail))).sum ≤ p.postLimit := by
    rw [List.map_map]
    refine (List.sum_le_sum fun u member => ?_).trans within
    exact tableTarget_ordered order (fun occupied => ((lawful u member).order occupied).1) fallback
  have stalled : (borrowOp order v).session.state = .stalled := by
    rw [borrowOp_eq]
    exact probe.1
  refine ⟨_, feederFullWindow_at loaded given found, ?_⟩
  rw [← cappedTarget_borrowOp, cappedTarget_of_within within' (by rw [List.getElem?_map, found]; rfl), tableTarget_of_probe sharing stalled]
  obtain ⟨-, target, offer⟩ := probe
  exact .of_stall stalled (by rw [borrowOp_eq]; exact target.ge) (by rw [borrowOp_eq]; exact offer.ge)

/-- The session on the probe at the end of the event, where no order on borrow comes before the turns (R154). -/
theorem endFullWindow_probes (law : PostLaw s) (loaded : s.host.profile = some p)
    (sharing : s.census.participation = .joined ∨ s.census.participation = .islanded) (first : feederFirst = false ∨ QuietFeeder s)
    (ready : ∀ u ∈ s.outlets, ProbeReady p s u) (within : tableSum p s ≤ p.postLimit) (found : s.outlets[n]? = some o)
    (charging : o.session.state = .charging) (last : o.supervision.stallCount = 239) (low : o.meter.windowCount < 10) :
    HasOutlet n (OnProbe p) (endFullWindow feederFirst s) := by
  unfold HasOutlet
  rw [endFullWindow_outlets]
  cases given : feederOrder s with
  | none =>
    obtain ⟨-, t, outlets, same, profile, census, shares⟩ := windowTaken_of_noOrder feederFirst given
    have ready' : ∀ u ∈ t.outlets, ProbeReady p t u := by
      unfold ProbeReady
      rw [same, census, shares]
      exact ready
    rw [outlets]
    exact (outletsFullWindow_probes (profile.trans loaded) (by rw [tableSum, same, census, shares]; exact within) (by rw [census]; exact sharing)
      ready' (by rw [same]; exact found) charging last low).2
  | some order =>
    have last' : feederFirst = false := first.resolve_right fun quiet => by
      rw [feederOrder_of_quiet quiet] at given
      cases given
    subst last'
    have frame := outletsFullWindow_frame s
    obtain ⟨soft, -⟩ := (postLaw_iff loaded).mp law
    obtain ⟨within', probed⟩ := outletsFullWindow_probes loaded within sharing ready found charging last low
    refine feederFullWindow_keepsProbe (SoftState.outletsFullWindow ⟨loaded, soft⟩) within' (by rw [frame.census]; exact sharing)
      (fun islanded none => ?_) ((feederOrder_congr frame.profile frame.feeder).trans given) probed
    rw [frame.census] at islanded
    rw [frame.shares] at none
    obtain ⟨⟨table, under, -⟩, -, probe⟩ := ready o (List.mem_of_getElem? found)
    rw [islanded, none] at table
    have least := probe charging
    have most := tableTarget_le_fallback (p := p) charging
    omega

theorem exec_stall (n : Nat) (feederFirst : Bool) (out : s.host.resetHeld = []) :
    exec (.stall n feederFirst) s = .next (onlyWhere (becomesStalled n) (endFullWindow feederFirst) s) :=
  congrArg Host.Outcome.next (whenRunning_of_outOfReset out _)

theorem exec_stall_of_stays (n : Nat) (feederFirst : Bool) (out : s.host.resetHeld = [])
    (found' : (endFullWindow feederFirst s).outlets[n]? = some o') (stays : o'.session.state ≠ .stalled) :
    exec (.stall n feederFirst) s = .next s := by
  rw [exec_stall n feederFirst out, onlyWhere_of_not]
  rw [becomesStalled, sessionState_of_found found', beq_eq_false_iff_ne.mpr stays, Bool.and_false]

theorem probeReady_of_law (law : PostLaw s) (loaded : s.host.profile = some p)
    (settled : ∀ u ∈ s.outlets, u.share.target ≤ tableTarget p s.census.participation s.shares.curtail u ∧ u.supervision.unstallCount < 3) :
    ∀ u ∈ s.outlets, ProbeReady p s u := by
  obtain ⟨⟨-, soft, -⟩, draws⟩ := (postLaw_iff loaded).mp law
  intro u member
  obtain ⟨table, unstall⟩ := settled u member
  have lawful := soft u member
  exact ⟨⟨table, lawful.within, fun charging => Nat.pos_of_ne_zero (lawful.charging charging)⟩, unstall,
    fun charging => lawful.offer.resolve_left (draws u member charging)⟩

/-- Settles O30: the outlet's turn decides whether the session stalls, and the probe is the raw target of a STALLED session, which no
recomputation on the way cuts. -/
theorem stallTakesTheProbe : Obligations.StallTakesTheProbe := by
  intro s p n o feederFirst out loaded found small charging
  obtain ⟨w, u, v, o', turn, found'⟩ := endFullWindow_turn feederFirst found
  have full := exec_fullWindowEnd feederFirst out
  have row (stalled : o'.session.state = .stalled) : exec (.stall n feederFirst) s = .next (endFullWindow feederFirst s) := by
    rw [exec_stall n feederFirst out, onlyWhere_of_outcome]
    rw [becomesStalled, sessionState_of_found found, sessionState_of_found found', charging, stalled]
    rfl
  refine ⟨fun last low law sharing first settled within => ?_, fun last low => ?_, fun short => ?_⟩
  · have probed := endFullWindow_probes law loaded sharing first (probeReady_of_law law loaded settled) within found charging last low
    obtain ⟨stalled, target, offer⟩ := probed.at found'
    rcases turn.charging charging with ⟨chargingU, count⟩ | paused
    · obtain ⟨-, stall, unstall, g, b, -, flagged⟩ := turn.stalls small loaded chargingU (count.trans last) low
      exact ⟨_, o', ⟨row stalled, full⟩, found', stalled, g, b, target, offer, stall, unstall, flagged⟩
    · obtain ⟨state, -⟩ := turn.pausedAtZero paused (.inr (by omega))
      cases state.symm.trans stalled
  · rcases turn.charging charging with ⟨chargingU, count⟩ | paused
    · obtain ⟨stalled, stall, unstall, g, b, bounds, flagged⟩ := turn.stalls small loaded chargingU (count.trans last) low
      obtain ⟨-, each⟩ := bounds
      obtain ⟨table, under, -⟩ := each o' (List.mem_of_getElem? found')
      exact ⟨_, o', full, found', stall,
        .inl ⟨stalled, row stalled, g, b, table.trans (tableTarget_of_stalled stalled), under, unstall, flagged⟩⟩
    · obtain ⟨state, target, offer, stall⟩ := turn.pausedAtZero paused (.inr (by omega))
      exact ⟨_, o', full, found', stall,
        .inr ⟨state, exec_stall_of_stays n feederFirst out found' (by rw [state]; exact nofun), target, offer⟩⟩
  · have counted := turn.stallCounted charging short
    refine ⟨exec_stall_of_stays n feederFirst out found' fun stalled => ?_, _, o', full, found', fun charges => ?_, fun rests => ?_⟩
    · rcases counted with ⟨state, -⟩ | ⟨state, -⟩ | state <;> cases state.symm.trans stalled
    · rcases counted with ⟨-, count⟩ | ⟨state, -⟩ | state
      · exact count
      · cases state.symm.trans charges
      · cases state.symm.trans charges
    · rcases counted with ⟨state, -⟩ | ⟨-, -, -, stall⟩ | state
      · cases state.symm.trans rests
      · exact stall
      · cases state.symm.trans rests

end

end Sys2Proof.Machine
end
